-- ==== Sys2Proof/Word.lean ====
section
/-! DEFINITION. The word types of the TL16 tile controller and the plainest arithmetic on them.
Every multi-byte field goes most significant byte first (spec/10_reference_tables.md, opening). -/

namespace Sys2Proof

/-- One byte of a payload, a parameter, a response or a memory. -/
abbrev Byte := BitVec 8

/-- A 16-bit field: epoch numbers (R43), digests (R5, R150), offsets and rows. -/
abbrev Half := BitVec 16

/-- A station id, 0–15, as read from the straps ID[3:0]. -/
abbrev StationId := BitVec 4

/-- A roster or a close set: "16 bits, bit i set when station i is in it" (section 10.1). -/
abbrev IdSet := BitVec 16

/-- A colour of 24 bits: red, green, blue, eight bits each, red highest (R154). -/
abbrev Colour := BitVec 24

end Sys2Proof
end

