-- ==== Sys2Proof/Syntax.lean ====
section
/-! DEFINITION. The commands of the TL16: one constructor of `Instr` for each row of
spec/opcode_table.json, with the operands the spec's text gives the row. A command is either a host
command, a link event, a timer event or a raster event, as one station sees it. -/

namespace Sys2Proof.Machine

/-- A cell: character code and attribute (R117, section 10.4). -/
structure Cell where
  char : Byte
  attr : Byte
  deriving DecidableEq, Repr

/-- The fields of CONFIGURE, as the host sends them (section 10.7); once accepted they are the tile
configuration of R136. -/
structure TileFields where
  hActive : Half
  hTotal : Half
  hSyncStart : Half
  hSyncEnd : Half
  vActive : Half
  vFront : Byte
  vSync : Byte
  vBack : Byte
  originCol : Half
  originRow : Half
  rate : Byte
  irqEnable : Byte
  deriving DecidableEq, Repr

/-- PUT-CELLS: pane, offset, cells; the count byte is the number of cells (R160: the count calls for
exactly that many cells). -/
structure PutCellsArgs where
  pane : Byte
  offset : Half
  cells : List Cell
  deriving DecidableEq, Repr

/-- FILL, in the order of section 10.1. -/
structure FillArgs where
  pane : Byte
  top : Half
  left : Byte
  rows : Half
  cols : Byte
  char : Byte
  attr : Byte
  fn : Byte
  charWrite : Byte
  mask : Byte
  deriving DecidableEq, Repr

/-- COPY, in the order of section 10.1. -/
structure CopyArgs where
  pane : Byte
  srcRow : Half
  srcCol : Byte
  dstRow : Half
  dstCol : Byte
  rows : Half
  cols : Byte
  deriving DecidableEq, Repr

/-- The cursor field of SET-PANE: row, column, then top scanline in bits 7–4 and bottom in bits 3–0
(section 10.2). -/
structure RawCursor where
  row : Byte
  col : Byte
  scan : Byte
  deriving DecidableEq, Repr

/-- SET-PANE: the fourteen fields of section 10.2, each present when its mask bit is set, and the two mask
bits beyond the fourteen (bit 14 and bit 15), which call for no bytes (R160, R180). -/
structure SetPaneArgs where
  pane : Byte
  col : Option Half
  row : Option Half
  width : Option Byte
  height : Option Byte
  depth : Option Byte
  pitch : Option Byte
  scrollRow : Option Half
  scrollCol : Option Byte
  font : Option Byte
  bank : Option Byte
  mode : Option Byte
  underline : Option Byte
  cursor : Option RawCursor
  visible : Option Byte
  extraMarks : BitVec 2
  deriving DecidableEq, Repr

/-- SET-PALETTE: bank, first index, colours; the count byte is the number of colours (R160). -/
structure SetPaletteArgs where
  bank : Byte
  first : Byte
  colours : List Colour
  deriving DecidableEq, Repr

/-- A packet as a receiver sampled it (section 1.2): the header fields, every payload byte signalled, and
the sixteen check bits sampled. -/
structure RxPacket where
  cls : BitVec 2
  sender : StationId
  kind : BitVec 4
  length : BitVec 6
  payload : List Byte
  check : Half
  deriving DecidableEq, Repr

end Sys2Proof.Machine

namespace Sys2Proof

open Sys2Proof.Machine

/-- The commands. Operands that are readings of the outside (line levels as the OTHER stations leave them,
elapsed times, sampled straps) stand where the table's row needs them; see notes/assumptions/1.md and 2.md. -/
inductive Instr where
  /-- POWER_ON_RESET (R177): RSTn low then rising; the straps are sampled. -/
  | powerOnReset (straps : StationId)
  /-- TRANSACTION_START (R158): a fall of CSn. -/
  | transactionStart
  /-- FRAMING_ERROR (R160): CSn rises before the command is evaluated, after `bits` bits. -/
  | framingError (bits : Nat)
  /-- BAD_COMMAND (R160): a command byte that names no command. -/
  | badCommand (byte : Byte)
  | configure (f : TileFields)
  | loadFontB (code : Byte) (rows : Vector Byte 16)
  | goOnline
  | goOffline
  | reset
  /-- SOFT_RESET (R176): the rise of CSn that ends RESET; the straps are sampled. -/
  | softReset (straps : StationId)
  | beginBatch
  | endBatch
  | putCells (a : PutCellsArgs)
  | fill (a : FillArgs)
  | copy (a : CopyArgs)
  | setPane (a : SetPaneArgs)
  | setPalette (a : SetPaletteArgs)
  | claim (pane : Byte) (count : Half)
  | handover (pane : Byte) (target : Byte)
  | release (pane : Byte)
  | readStatus
  | readEvent
  /-- EVENT_RECORD_REMOVAL (R174): the last bit of the head record has been clocked out. -/
  | eventRecordRemoval
  | readPane (pane : Byte)
  | readCells (offset : Half) (count : Byte)
  | readRoster
  /-- START_CONDITION (R6): the station may start; TLF has read high at this station's own pin for the last `tlfHighBits` bit times: its
  own pull counts, and the count begins anew at every rise at the pin. -/
  | startCondition (tlfHighBits : Nat)
  | startSeen
  /-- HOLD_POINT (R13): the packet received so far is `rx`, and the evaluator's decision is ready. -/
  | holdPoint (rx : RxPacket)
  | packetRefused
  /-- OBSERVER_RECEIPT (R15): the refusal slot passed with TLD at `slotHigh`. -/
  | observerReceipt (slotHigh : Bool) (rx : RxPacket)
  | foundTaken (sender : StationId) (payload : List Byte)
  | joinTaken (sender : StationId) (payload : List Byte)
  | joinDenyTaken (sender : StationId) (payload : List Byte)
  | joinDoneTaken (sender : StationId) (payload : List Byte)
  | leaveTaken (sender : StationId) (payload : List Byte)
  | claimTaken (sender : StationId) (payload : List Byte)
  | handoverTaken (sender : StationId) (payload : List Byte)
  | releaseTaken (sender : StationId) (payload : List Byte)
  | retractTaken (sender : StationId) (payload : List Byte)
  | closeTaken (sender : StationId) (payload : List Byte)
  | putCellsTaken (sender : StationId) (payload : List Byte)
  | fillTaken (sender : StationId) (payload : List Byte)
  | copyTaken (sender : StationId) (payload : List Byte)
  | setPaneTaken (sender : StationId) (payload : List Byte)
  | setPaletteTaken (sender : StationId) (payload : List Byte)
  | snapHeadTaken (sender : StationId) (payload : List Byte)
  | snapPaneTaken (sender : StationId) (payload : List Byte)
  | snapFreeTaken (sender : StationId) (payload : List Byte)
  | snapPaletteTaken (sender : StationId) (payload : List Byte)
  | snapCellsTaken (sender : StationId) (payload : List Byte)
  | snapEndTaken (sender : StationId) (payload : List Byte)
  | stopCondition
  | packetBreak
  | packetAbandoned
  | linkTimeout
  /-- BUS_FREE_INTERVAL (R17): TLD and TLC have both been high for `elapsed` further bit times, with no break since the timer was last
  read or restarted (a line that goes low is a START_SEEN or an IRREGULAR_TLC_FALL). -/
  | busFreeInterval (elapsed : Nat)
  | recoveryBusFree
  | irregularTlcFall
  /-- TLF_RISE (R2): `tlvHigh` when no OTHER station pulls TLV just before the rise. -/
  | tlfRise (tlvHigh : Bool)
  | tlfRiseEffects
  | stallLimit
  | transferLimit
  | exhaustedUpdate
  | exhaustedRequest
  | selfDemotion
  | listenIntervalExpiry
  | requestTimerExpiry
  | enterFront
  | applyClear
  | applyPutCells
  | applyFill
  | applyCopy
  | applySetPane
  | applySetPalette
  | applyRelease
  | applyPassEnd
  | frontEnd
  | syncEnd
  /-- TLF_RELEASE (R142): `sinceRiseUs` microseconds have passed since the last TLF rise read at the pin. -/
  | tlfRelease (sinceRiseUs : Nat)
  /-- HOLD_LINE_END (R141): `tlfHigh` when no OTHER station pulls TLF at the line's end. -/
  | holdLineEnd (tlfHigh : Bool)
  | followingWaitLimit
  | frameHoldLimit
  | backEnd
  /-- SPAN_LIST_BUILD (R146): the start of tile cell row `row` in ACTIVE. -/
  | spanListBuild (row : Nat)
  /-- LOST_IN_ARBITRATION (R10): a 0 was sampled at slot `slot`, counted from the first class slot. -/
  | lostInArbitration (slot : Nat)
  /-- TRANSACTION_END (R158): a rise of CSn after the command was evaluated. -/
  | transactionEnd
  deriving DecidableEq, Repr

end Sys2Proof
end

