-- ==== Sys2Proof/Decode.lean ====
section
/-! DEFINITION. The command a table word spells. Every row of spec/opcode_table.json has an empty "fields" list
and no "fixed" bits (98_reader.md: n_rows_with_fixed 0, n_rows_with_fields 0), so no word spells a command. -/

namespace Sys2Proof

/-- No row of the table gives bits, so every word spells none. -/
def decodeTableWord (_nbits _w : Nat) : Option Instr := none

end Sys2Proof
end

