-- ==== Sys2Proof/Config.lean ====
section
/-! DEFINITION. What the spec leaves to the part or does not state, as opaque constants (free values),
and the fixed capacities and limits of the spec. Nothing in Lean can evaluate an opaque constant, so no
proof can lean on a number the spec does not give. -/

namespace Sys2Proof

/-- FREE VALUE (notes/assumptions/3.md). The row bytes of font A's ROM glyphs. R149 fixes only codes
00h, 20h and FFh; `glyphRowA` in Machine/Video.lean overrides those three. -/
opaque Config.fontARow : Byte → Fin 16 → Byte

/-- FREE VALUE (notes/assumptions/4.md). The batch tag the status record shows while the host batch state
is NONE; R171 gives the field's range 0–15 and no value. -/
opaque Config.idleBatchTag : Nat → BitVec 4

/-- FREE VALUE (notes/assumptions/4.md). The update count the status record shows while the host batch
state is NONE; R171 gives the field's range 0–40 and no value. -/
opaque Config.idleBatchCount : Nat → Fin 41

/-- FREE VALUE (notes/assumptions/5.md). Whether the records a station posts at its own removal (R95) carry
the open epoch number from before the Epoch Unit was cleared (false) or after (true). -/
opaque Config.stampAfterClear : Bool

/-- FREE VALUE (notes/assumptions/41.md). What the rest of a scanline shows after the sync state has become FOLLOWING within it: R140
gives the background from the next scanline on, and the panes and cells are cleared at the change. By tile cell row, scanline, pixel. -/
opaque Config.scanlineRest : Nat → Fin 16 → Nat → BitVec 24

/-- R29: the transmit queue holds up to 48 packets. -/
def Config.queueRoom : Nat := 48
/-- R25, R33, R48: OPEN and NEXT together hold at most 256 entries. -/
def Config.stagingRoom : Nat := 256
/-- R35: a packet is exhausted at its eighth counted refusal. -/
def Config.refusalLimit : Nat := 8
/-- R61, R62: the stall count at which the stall limit is taken. -/
def Config.stallLimit : Nat := 16
/-- R90: the transfer age at which a transfer is abandoned. -/
def Config.transferLimit : Nat := 240
/-- R96: the foreign-report count at which a foreign packet is reported. -/
def Config.foreignLimit : Nat := 16
/-- R31: pending denials kept. -/
def Config.denialRoom : Nat := 16
/-- R173: event records kept. -/
def Config.eventRoom : Nat := 32
/-- R160, R173: the counts that stop at 255. -/
def Config.countStop : Nat := 255
/-- R168: updates in one host batch. -/
def Config.batchRoom : Nat := 40
/-- R119: granules of the Cell Store. -/
def Config.granules : Nat := 512
/-- R117: cells of the Cell Store. -/
def Config.cells : Nat := 8192
/-- R120: extents of the free-extent list. -/
def Config.freeListRoom : Nat := 256
/-- R17: the bus-free interval, in bit times. -/
def Config.busFreeBits : Nat := 8
/-- R17: the fair wait, in bit times. -/
def Config.fairWaitBits : Nat := 16
/-- R71: the listen interval, in ms. -/
def Config.listenMs : Nat := 500
/-- R74: the request timer, in ms. -/
def Config.requestMs : Nat := 2000
/-- R142: the frame interval floor, in microseconds. -/
def Config.frameFloorUs : Nat := 6000
/-- R146: panes kept in a span list. -/
def Config.spanRoom : Nat := 16
/-- R74: the protocol level every FOUND and JOIN carries. -/
def Config.protocolLevel : Byte := 1

end Sys2Proof
end

