-- ==== Sys2Proof/Machine/Types.lean ====
section
/-! DEFINITION. The data types of the eight blocks' state. Values only; every function over them stands in the
other files of Machine/. -/

namespace Sys2Proof.Machine

/-- A memory as (address, byte) pairs in canonical form (Machine/Memory.lean). -/
abbrev Memory := List Host.Cell

/-! ### Packets (chapter 2) -/

/-- The packet kinds of section 2.1. -/
inductive Kind where
  | found | join | joinDeny | joinDone | leave | claim | handover | release | retract
  | close
  | putCells | fill | copy | setPane | setPalette
  | snapHead | snapPane | snapFree | snapPalette | snapCells | snapEnd
  deriving DecidableEq, Repr

/-- A packet as a sender forms it (section 1.2); its length and check are computed from it. -/
structure Packet where
  cls : BitVec 2
  sender : StationId
  kind : BitVec 4
  payload : List Byte
  deriving DecidableEq, Repr

/-- The content of an UPDATE packet, of the host command of the same name and of the staged entry (R47, R168). -/
inductive Update where
  | putCells (a : PutCellsArgs)
  | fill (a : FillArgs)
  | copy (a : CopyArgs)
  | setPane (a : SetPaneArgs)
  | setPalette (a : SetPaletteArgs)
  deriving DecidableEq, Repr

/-! ### Extents, panes (chapters 5 and 6) -/

/-- A run of whole granules (R119). -/
structure Extent where
  base : Nat
  size : Nat
  deriving DecidableEq, Repr

/-- The control fields of a pane (R98): the owner is present in OWNED only, the extent in every state but FREE. -/
inductive Control where
  | free
  | owned (owner : StationId) (ext : Extent)
  | orphan (ext : Extent)
  | releasing (ext : Extent)
  deriving DecidableEq, Repr

/-- R99: glyph set. -/
inductive Font where
  | a | b
  deriving DecidableEq, Repr

/-- R99: how the mode bit of each cell's attribute is read. -/
inductive AttrMode where
  | blink | bright | underline
  deriving DecidableEq, Repr

/-- R99: row, column, top and bottom scanline; absent when bottom is less than top. -/
structure Cursor where
  row : Byte
  col : Byte
  top : BitVec 4
  bottom : BitVec 4
  deriving DecidableEq, Repr

/-- The display fields of a pane (R99). -/
structure Display where
  col : Half
  row : Half
  width : Byte
  height : Byte
  depth : Byte
  pitch : Byte
  scrollRow : Half
  scrollCol : Byte
  font : Font
  bank : BitVec 2
  mode : AttrMode
  underline : BitVec 4
  cursor : Cursor
  visible : Bool
  ext : Option Extent
  deriving DecidableEq, Repr

/-- A pane record (section 5.1). -/
structure Pane where
  control : Control
  display : Display
  deriving DecidableEq, Repr

/-! ### The Link Controller (chapter 1) -/

/-- Section 1.10. -/
inductive LinkState where
  | disconnected | waitFree | idle | transmitting | receiving | recovery
  deriving DecidableEq, Repr

/-- R12: a station's role for the packet in progress. -/
inductive Role where
  | evaluator | observer
  deriving DecidableEq, Repr

/-- R14: whether the refusal slot of the packet in progress has been sampled, and how. -/
inductive Slot where
  | pending | taken | refused
  deriving DecidableEq, Repr

/-- R22: a disconnection that waits for the attempt to end, or that GO-ONLINE has cancelled. -/
inductive Disconnect where
  | no | wanted | cancelled
  deriving DecidableEq, Repr

/-- R25: an evaluator's admission decision; `transfer` when condition 4 (a transfer refusal) holds. -/
structure Admission where
  refuse : Bool
  transfer : Bool
  deriving DecidableEq, Repr

/-- R3: the link bit rate. -/
inductive LinkRate where
  | k250 | k500 | m1 | m2
  deriving DecidableEq, Repr

/-- The Link Controller's state. `freeBus` is the free-bus timer in bit times as it stood at the last command that
moved it; `riseSample` is the TLV sample of a TLF rise whose shared effects have not been taken (R19). -/
structure Link where
  state : LinkState
  fairWait : Bool
  freeBus : Nat
  role : Option Role
  slot : Slot
  decision : Option Admission
  rx : Option RxPacket
  disconnect : Disconnect
  rate : Option LinkRate
  riseSample : Option Bool
  deriving DecidableEq, Repr

/-! ### The Transmitter (chapter 2) -/

/-- What a queued packet asks for (R29): its kind and the fields the host or the Membership Unit gave. -/
inductive Request where
  | update (tag : Byte) (u : Update)
  | claim (pane : Byte) (count : Half)
  | handover (pane : Byte) (target : Byte)
  | release (pane : Byte)
  | found
  | join
  | leave
  deriving DecidableEq, Repr

/-- A packet in the transmit queue with its refusal count (R29). -/
structure Queued where
  request : Request
  refusals : Nat
  deriving DecidableEq, Repr

/-- A pending RETRACT (R31). -/
structure Retract where
  tag : Byte
  refusals : Nat
  deriving DecidableEq, Repr

/-- R80: the reasons of a denial. -/
inductive DenyReason where
  | duplicateId | font | level
  deriving DecidableEq, Repr

/-- A pending JOIN-DENY (R31, R81). -/
structure Denial where
  target : StationId
  reason : DenyReason
  refusals : Nat
  deriving DecidableEq, Repr

/-- A pending JOIN-DONE (R88): status OK when `good`. -/
structure DoneReport where
  epoch : Half
  good : Bool
  refusals : Nat
  deriving DecidableEq, Repr

/-- A batch record (R30). -/
structure BatchRecord where
  tag : Byte
  ended : Bool
  anyTaken : Bool
  broken : Bool
  deriving DecidableEq, Repr

/-- R32: what the Transmitter offers. -/
inductive Candidate where
  | retract | joinDeny | joinDone
  | close (epoch : Half)
  | queueHead
  | snapshot
  deriving DecidableEq, Repr

/-- The attempt in progress: the candidate, the content fixed at the start condition (R6, R34), and whether the
Transmitter still holds the packet (R40, R42). -/
structure Attempt where
  cand : Candidate
  packet : Packet
  live : Bool
  deriving DecidableEq, Repr

/-- The Transmitter's state. The CLOSE's refusal count belongs to an epoch number (R31): one count for the open epoch's
number and one for the next. -/
structure Transmitter where
  queue : List Queued
  retracts : List Retract
  denials : List Denial
  joinDone : Option DoneReport
  closeOpen : Nat
  closeNext : Nat
  snapRefusals : Nat
  batches : List BatchRecord
  attempt : Option Attempt
  deriving DecidableEq, Repr

/-! ### The Epoch Unit (chapter 3) -/

/-- R46: the class of an entry. -/
inductive EpochClass where
  | applying | openE | nextE
  deriving DecidableEq, Repr

/-- R47: the kind and fields of an entry. -/
inductive EntryOp where
  | clear (pane : Byte) (ext : Extent)
  | update (u : Update)
  | release (pane : Byte)
  deriving DecidableEq, Repr

/-- An entry of the staging queue (R46); CLEAR and RELEASE entries carry no batch tag. -/
structure Entry where
  cls : EpochClass
  sender : StationId
  tag : Option Byte
  op : EntryOp
  deriving DecidableEq, Repr

/-- The Epoch Unit's state (R43, R44). The committed epoch number is the open number less one (R43).
`passDone` counts the APPLYING entries the running pass has applied (R64). -/
structure Epochs where
  openNum : Half
  applied : Half
  openClose : IdSet
  nextClose : IdSet
  staging : List Entry
  stall : Nat
  pendingApply : Bool
  passRunning : Bool
  passDone : Nat
  deriving DecidableEq, Repr

/-! ### The Membership Unit (chapter 4) -/

/-- R69. -/
inductive MemberState where
  | offline | listening | founding | requesting | joining | member | denied
  deriving DecidableEq, Repr

/-- R70: the state of a transfer in flight. -/
structure Transfer where
  joiner : StationId
  source : StationId
  age : Nat
  headTaken : Bool
  deriving DecidableEq, Repr

/-- R85: the next snapshot packet to send. -/
inductive SnapPos where
  | head
  | pane (i : Nat)
  | free (chunk : Nat)
  | palette (j : Nat)
  | cells (k : Nat)
  | tail
  deriving DecidableEq, Repr

/-- R70: the joiner's snapshot assembly. -/
structure Assembly where
  packets : Nat
  chunks : Nat
  fault : Bool
  deriving DecidableEq, Repr

/-- The Membership Unit's state (R70). A timer is `none` when stopped and `some ms` when it runs from `ms`.
`foundBegun`: the own FOUND's first attempt has begun (R75). -/
structure Membership where
  state : MemberState
  roster : IdSet
  joinQueue : List StationId
  transfer : Option Transfer
  snapPos : Option SnapPos
  assembly : Option Assembly
  listenTimer : Option Nat
  requestTimer : Option Nat
  groupSeen : Bool
  riseSeen : Bool
  foundBegun : Bool
  leaveRequested : Bool
  foreignCount : Nat
  deriving DecidableEq, Repr

/-! ### The Cell Store (chapter 6) -/

/-- The Cell Store: two bytes a cell, the character of cell `o` at address 2o and its attribute at 2o + 1; and the
free-extent list (R117, R120). -/
structure CellStore where
  cells : Memory
  freeList : List Extent
  deriving DecidableEq, Repr

/-! ### The Raster Engine (chapter 7) -/

/-- R140. -/
inductive Sync where
  | stopped | following | locked | freeRun
  deriving DecidableEq, Repr

/-- R138. -/
inductive Phase where
  | active | front | sync | hold | back
  deriving DecidableEq, Repr

/-- The Raster Engine's state. `config` is the configuration held (R136), `timing` the one in effect (R139), `phase`
is absent while no timing runs (STOPPED). `pulled`: TLF was pulled at this frame's FRONT; `waiting`: a FOLLOWING station
found TLF low at a HOLD line's end (R141); `holdEnding`: a limit has passed and HOLD ends at the end of the line in
progress (R141, R143); `riseRead`: a TLF rise was read since the raster last started (R142); `lineRest`: the sync state became
FOLLOWING within a line of ACTIVE, and that line may not have ended (R140). -/
structure Raster where
  config : Option TileFields
  timing : Option TileFields
  sync : Sync
  phase : Option Phase
  holding : Bool
  pulled : Bool
  riseRead : Bool
  waiting : Bool
  holdEnding : Bool
  blinkOn : Bool
  cursorOn : Bool
  overflowMark : Bool
  lineRest : Bool
  spanRow : Nat
  spanList : List (Fin 32)
  fontB : Memory
  fontDigest : Half
  deriving DecidableEq, Repr

/-! ### The Host Port (chapter 8) -/

/-- Section 8.1: CSn high; command and parameter bytes; evaluated, response bytes. -/
inductive Spi where
  | idle | command | response
  deriving DecidableEq, Repr

/-- Section 8.5: the host's batch. -/
inductive BatchState where
  | none
  | opened (tag : Byte) (count : Nat)
  | broken (tag : Byte) (count : Nat)
  deriving DecidableEq, Repr

/-- The event kinds of section 8.8. -/
inductive EventKind where
  | founded | joined | denied | transferAbandoned | evicted | linkFailed | memberJoined | memberLeft | memberEvicted
  | claimWon | claimLost | paneReceived | paneOrphaned | handoverDone | handoverFailed | releaseDone | releaseFailed
  | batchCommitted | batchBroken | updateVoid | linkTimeout | frameLost | frameRelocked | rasterOverflow
  | foreignTraffic | eventsLost | resetDone
  deriving DecidableEq, Repr

/-- An event record (section 10.5): kind, open epoch at posting, three arguments; an unused argument is 0. -/
structure EventRec where
  kind : EventKind
  epoch : Half
  arg1 : Byte
  arg2 : Half
  arg3 : Half
  deriving DecidableEq, Repr

/-- The statuses of section 8.1. -/
inductive Status where
  | ok | badCommand | badField | notOffline | notConfigured | notMember | notOwner | leaving | batchOpen | noBatch
  | broken | batchFull | noTag | queueFull | empty
  deriving DecidableEq, Repr

/-- The delivery reasons of R26, and LINK for exhaustion (section 10.5). -/
inductive Reason where
  | foreign | stale | range | notOwner | taken | noRoom | badCount | badTarget | link
  deriving DecidableEq, Repr

/-- The Host Port's state. `headRead`: the response in progress carries the head event record (R174); `resetWaiting`: a
RESET was answered and the soft reset waits for the rise of CSn (R176). -/
structure HostPort where
  spi : Spi
  bitCount : Nat
  response : List Byte
  headRead : Bool
  resetWaiting : Bool
  batch : BatchState
  nextTag : BitVec 4
  events : List EventRec
  lost : Nat
  framing : Nat
  deriving DecidableEq, Repr

/-- The station's own drivers (R1) and its interrupt output (R175): true when pulling, or driven, low. TLD and TLC stand as the last command
left them; at each slot and half of a packet in progress they are `State.drive` (Machine/Wire.lean, notes/assumptions/2.md). -/
structure Pins where
  tldLow : Bool
  tlcLow : Bool
  tlfLow : Bool
  tlvLow : Bool
  irqnLow : Bool
  deriving DecidableEq, Repr

end Sys2Proof.Machine
end

