-- ==== Sys2Proof/Machine/Crc.lean ====
section
/-! DEFINITION. The CRC-16 of R5: generator 1021h, initial value FFFFh, not reflected, result not inverted; bits in the
order they are signalled, most significant first. -/

namespace Sys2Proof.Machine

/-- R5: one bit into the check. -/
def crcBit (c : Half) (b : Bool) : Half :=
  if c.msb != b then (c <<< 1) ^^^ 0x1021 else c <<< 1

/-- The bits of a byte, most significant first (R3). -/
def byteBits (b : Byte) : List Bool :=
  [b.getLsbD 7, b.getLsbD 6, b.getLsbD 5, b.getLsbD 4, b.getLsbD 3, b.getLsbD 2, b.getLsbD 1, b.getLsbD 0]

/-- R5: one byte into the check. -/
def crcByte (c : Half) (b : Byte) : Half := (byteBits b).foldl crcBit c

/-- R5: the CRC-16 of a run of bytes. -/
def crc16 (bytes : List Byte) : Half := bytes.foldl crcByte 0xFFFF

end Sys2Proof.Machine
end

