-- ==== Sys2Proof/Machine/Memory.lean ====
section
/-! DEFINITION. A memory as a list of (address, byte) pairs in one canonical form: addresses strictly rising, and no
entry equal to what an unlisted address reads as. `unlisted` is that value, per address: the Cell Store's is the blank
cell (R117, R121), font B's is 0 (R149). -/

namespace Sys2Proof.Machine

/-- The byte at an address. -/
def Memory.read (unlisted : Nat → Byte) (m : Memory) (a : Nat) : Byte :=
  match m with
  | [] => unlisted a
  | (k, v) :: t => if k = a then v else Memory.read unlisted t a

/-- A memory with one byte written, in canonical form. -/
def Memory.write (unlisted : Nat → Byte) (m : Memory) (a : Nat) (v : Byte) : Memory :=
  match m with
  | [] => if v = unlisted a then [] else [(a, v)]
  | (k, w) :: t =>
    if a < k then (if v = unlisted a then (k, w) :: t else (a, v) :: (k, w) :: t)
    else if a = k then (if v = unlisted a then t else (a, v) :: t)
    else (k, w) :: Memory.write unlisted t a v

/-- Every address from `lo` up to but not including `hi` back at its unlisted value. -/
def Memory.clearRange (m : Memory) (lo hi : Nat) : Memory :=
  m.filter fun c => !(decide (lo ≤ c.1) && decide (c.1 < hi))

/-- A run of bytes written from an address upward. -/
def Memory.writeRun (unlisted : Nat → Byte) (m : Memory) (a : Nat) (bytes : List Byte) : Memory :=
  match bytes with
  | [] => m
  | b :: bs => Memory.writeRun unlisted (Memory.write unlisted m a b) (a + 1) bs

/-- Addresses strictly rising. -/
def Memory.rising : Memory → Bool
  | [] => true
  | [_] => true
  | (k, _) :: (k', w) :: t => decide (k < k') && Memory.rising ((k', w) :: t)

/-- The canonical form, over addresses below `limit`. -/
def Memory.wf (unlisted : Nat → Byte) (limit : Nat) (m : Memory) : Bool :=
  Memory.rising m && m.all fun c => decide (c.2 ≠ unlisted c.1) && decide (c.1 < limit)

/-- What an unlisted byte of the Cell Store reads as: the blank cell, character 20h and attribute 07h (R117, R121). -/
def blankByte (a : Nat) : Byte := if a % 2 = 0 then 0x20 else 0x07

/-- What an unlisted byte of font B reads as (R149). -/
def fontZero (_a : Nat) : Byte := 0

/-- Bytes of the Cell Store: 8192 cells of two bytes. -/
def cellBytesLimit : Nat := 2 * Config.cells

/-- R149: font B is 4096 bytes. -/
def fontBytesLimit : Nat := 4096

/-- The Cell Store's canonical form. -/
def Memory.cellsWf (m : Memory) : Bool := Memory.wf blankByte cellBytesLimit m

/-- Font B's canonical form. -/
def Memory.fontWf (m : Memory) : Bool := Memory.wf fontZero fontBytesLimit m

/-- The cell at an offset (R117). -/
def readCell (m : Memory) (o : Nat) : Cell :=
  ⟨Memory.read blankByte m (2 * o), Memory.read blankByte m (2 * o + 1)⟩

/-- A cell write sets character and attribute together (R117). -/
def writeCell (m : Memory) (o : Nat) (c : Cell) : Memory :=
  Memory.write blankByte (Memory.write blankByte m (2 * o) c.char) (2 * o + 1) c.attr

/-- A run of cells written in offset order. -/
def writeCells (m : Memory) (o : Nat) (cs : List Cell) : Memory :=
  match cs with
  | [] => m
  | c :: t => writeCells (writeCell m o c) (o + 1) t

/-- `n` cells read in offset order. -/
def readCellRun (m : Memory) (o n : Nat) : List Cell := (List.range n).map fun i => readCell m (o + i)

/-- The row byte of font B for a code and a scanline (R149). -/
def fontBRow (m : Memory) (code scan : Nat) : Byte := Memory.read fontZero m (16 * code + scan)

end Sys2Proof.Machine
end

