-- ==== Sys2Proof/Machine/Defaults.lean ====
section
/-! DEFINITION. The cleared values of each block: what power-on reset leaves, and what clearing gives. -/

namespace Sys2Proof.Machine

/-- R154: the ROM palette, bank 0. -/
def bank0 : Vector Colour 16 :=
  #v[0x000000, 0x000080, 0x008000, 0x008080, 0x800000, 0x800080, 0x808000, 0xC0C0C0,
     0x808080, 0x0000FF, 0x00FF00, 0x00FFFF, 0xFF0000, 0xFF00FF, 0xFFFF00, 0xFFFFFF]

/-- R154: clearing makes each of banks 1–3 a copy of bank 0. -/
def palettesCleared : Vector (Vector Colour 16) 3 := Vector.replicate 3 bank0

/-- R100: the pane defaults. -/
def displayDefaults : Display where
  col := 0
  row := 0
  width := 16
  height := 1
  depth := 0
  pitch := 16
  scrollRow := 0
  scrollCol := 0
  font := .a
  bank := 0
  mode := .blink
  underline := 15
  cursor := ⟨0, 0, 15, 0⟩
  visible := false
  ext := none

/-- R100: a pane after clearing. -/
def paneCleared : Pane := ⟨.free, displayDefaults⟩

/-- R100: the pane table after clearing. -/
def panesCleared : Vector Pane 32 := Vector.replicate 32 paneCleared

/-- R121: the Cell Store after clearing. -/
def storeCleared : CellStore := ⟨[], []⟩

/-- R44: the Epoch Unit after clearing. -/
def epochsCleared : Epochs where
  openNum := 1
  applied := 0
  openClose := 0
  nextClose := 0
  staging := []
  stall := 0
  pendingApply := false
  passRunning := false
  passDone := 0

/-- R70: the Membership Unit after clearing, in the state given. -/
def membershipCleared (state : MemberState) : Membership where
  state := state
  roster := 0
  joinQueue := []
  transfer := none
  snapPos := none
  assembly := none
  listenTimer := none
  requestTimer := none
  groupSeen := false
  riseSeen := false
  foundBegun := false
  leaveRequested := false
  foreignCount := Config.foreignLimit

/-- R41: the Transmitter emptied. -/
def transmitterEmpty : Transmitter where
  queue := []
  retracts := []
  denials := []
  joinDone := none
  closeOpen := 0
  closeNext := 0
  snapRefusals := 0
  batches := []
  attempt := none

/-- R23: the Link Controller after a reset. -/
def linkReset : Link where
  state := .disconnected
  fairWait := false
  freeBus := 0
  role := none
  slot := .pending
  decision := none
  rx := none
  disconnect := .no
  rate := none
  riseSample := none

/-- R1: all drivers released; R177: IRQn high. -/
def pinsReleased : Pins := ⟨false, false, false, false, false⟩

/-- R150: the digest of a font B held as a memory. -/
def fontDigestOf (m : Memory) : Half :=
  crc16 ((List.range fontBytesLimit).map fun a => Memory.read fontZero m a)

/-- R136, R140, R149: the Raster Engine after power-on reset. The blink, cursor, overflow and span fields are taken anew
at the next entry to ACTIVE (notes/assumptions/8.md). -/
def rasterReset : Raster where
  config := none
  timing := none
  sync := .stopped
  phase := none
  holding := false
  pulled := false
  riseRead := false
  waiting := false
  holdEnding := false
  blinkOn := true
  cursorOn := true
  overflowMark := false
  lineRest := false
  spanRow := 0
  spanList := []
  fontB := []
  fontDigest := fontDigestOf []

/-- R177: the Host Port after power-on reset. -/
def hostReset : HostPort where
  spi := .idle
  bitCount := 0
  response := []
  headRead := false
  resetWaiting := false
  batch := .none
  nextTag := 0
  events := []
  lost := 0
  framing := 0

end Sys2Proof.Machine
end

