-- ==== Sys2Proof/Machine/State.lean ====
section
/-! DEFINITION. The station's whole state, its reset, and the reasons a command can stop. -/

namespace Sys2Proof.Machine

/-- Why a command stops the machine. -/
inductive Fault where
  /-- Raised by APPLY_CLEAR, APPLY_PUT_CELLS, APPLY_FILL and APPLY_COPY when the extent they would write runs past
  granule 511, which no extent of the part does (R119). Safe: no run of the part reaches it, and the model stops. -/
  | outsideCellStore
  deriving DecidableEq, Repr

/-- Why a command has no meaning. -/
inductive Refusal where
  /-- Raised by `exec` for a row that has no meaning yet (none is left). Safe: the model stops. -/
  | notModelled (mnemonic : String)
  deriving DecidableEq, Repr

/-- One TL16 station: the straps as sampled, the pins it drives, its eight blocks, the model's own free-value counter,
and the commands that wait, first in, first out. -/
structure State where
  stationId : StationId
  pins : Pins
  link : Link
  tx : Transmitter
  ep : Epochs
  mb : Membership
  panes : Vector Pane 32
  store : CellStore
  palettes : Vector (Vector Colour 16) 3
  raster : Raster
  host : HostPort
  /-- The MODEL's own field: counts the readings of free values (notes/assumptions/4.md). -/
  freeCount : Nat
  pending : List Instr
  deriving DecidableEq, Repr

/-- The station right after power-on reset (R23, R41, R44, R69, R100, R121, R140, R149, R154, R177). The straps are
board wiring: id 0 is the model's choice (notes/assumptions/7.md); POWER_ON_RESET samples any id. -/
def State.reset : State where
  stationId := 0
  pins := pinsReleased
  link := linkReset
  tx := transmitterEmpty
  ep := epochsCleared
  mb := membershipCleared .offline
  panes := panesCleared
  store := storeCleared
  palettes := palettesCleared
  raster := rasterReset
  host := hostReset
  freeCount := 0
  pending := []

end Sys2Proof.Machine
end

