-- ==== Sys2Proof/Machine/Operands.lean ====
section
/-! DEFINITION. Every operand form: packet kinds and codes (section 2.1), payload layouts (section 10.1 to 10.4) formed
and read, length allowances (R180), static ranges (R102, R105, R112, R128, R130, R133, R136, R155, R172), the codes of
statuses, events and reasons (section 10.5, 10.7), and a packet's bits on the wire (R3, R5). -/

namespace Sys2Proof.Machine

/-! ### Bytes and fields -/

/-- A 16-bit field, most significant byte first. -/
def halfBytes (h : Half) : List Byte := [h.extractLsb' 8 8, h.extractLsb' 0 8]

/-- The 16-bit field of two bytes, most significant first. -/
def halfOf (hi lo : Byte) : Half := hi ++ lo

/-- A number as a 16-bit field. -/
def half (n : Nat) : Half := BitVec.ofNat 16 n

/-- A number as a byte. -/
def byte (n : Nat) : Byte := BitVec.ofNat 8 n

/-- A station id as a byte. -/
def idByte (i : StationId) : Byte := i.setWidth 8

/-- An absent id is FFh (chapter 10). -/
def absentId : Byte := 0xFF

/-- The station id a byte names, if any. -/
def idOfByte (b : Byte) : Option StationId := if b.toNat < 16 then some (b.setWidth 4) else none

/-- A flag as a byte. -/
def flagByte (b : Bool) : Byte := if b then 1 else 0

/-- A cell as two bytes: character, attribute (section 10.4). -/
def cellBytes (c : Cell) : List Byte := [c.char, c.attr]

/-- The cells of a run of bytes, two bytes each. -/
def cellsOf : List Byte → List Cell
  | c :: a :: t => ⟨c, a⟩ :: cellsOf t
  | _ => []

/-- A colour as three bytes: red, green, blue. -/
def colourBytes (c : Colour) : List Byte := [c.extractLsb' 16 8, c.extractLsb' 8 8, c.extractLsb' 0 8]

/-- The colours of a run of bytes, three bytes each. -/
def coloursOf : List Byte → List Colour
  | r :: g :: b :: t => (r ++ g ++ b) :: coloursOf t
  | _ => []

/-- An extent as base and size; an absent extent is base 0 and size 0 (chapter 10). -/
def extentBytes : Option Extent → List Byte
  | some e => halfBytes (half e.base) ++ halfBytes (half e.size)
  | none => [0, 0, 0, 0]

/-! ### Kinds and codes (section 2.1) -/

/-- The class and kind codes. -/
def Kind.code : Kind → BitVec 2 × BitVec 4
  | .found => (0, 0)
  | .join => (0, 1)
  | .joinDeny => (0, 2)
  | .joinDone => (0, 3)
  | .leave => (0, 4)
  | .claim => (0, 5)
  | .handover => (0, 6)
  | .release => (0, 7)
  | .retract => (0, 8)
  | .close => (1, 0)
  | .putCells => (2, 0)
  | .fill => (2, 1)
  | .copy => (2, 2)
  | .setPane => (2, 3)
  | .setPalette => (2, 4)
  | .snapHead => (3, 0)
  | .snapPane => (3, 1)
  | .snapFree => (3, 2)
  | .snapPalette => (3, 3)
  | .snapCells => (3, 4)
  | .snapEnd => (3, 5)

/-- Every kind, in the order of section 2.1. -/
def Kind.all : List Kind :=
  [.found, .join, .joinDeny, .joinDone, .leave, .claim, .handover, .release, .retract, .close, .putCells, .fill, .copy,
   .setPane, .setPalette, .snapHead, .snapPane, .snapFree, .snapPalette, .snapCells, .snapEnd]

/-- The kind a class and a kind code name; none outside the catalogue. -/
def Kind.ofCode (cls : BitVec 2) (kind : BitVec 4) : Option Kind := Kind.all.find? fun k => decide (k.code = (cls, kind))

/-- R25: the join kinds. -/
def Kind.isJoinKind : Kind → Bool
  | .found | .join | .joinDeny | .joinDone => true
  | _ => false

/-- Class UPDATE. -/
def Kind.isUpdate (k : Kind) : Bool := decide (k.code.1 = 2)

/-- Class CONTROL. -/
def Kind.isControl (k : Kind) : Bool := decide (k.code.1 = 0)

/-- The kind of an update. -/
def Update.kind : Update → Kind
  | .putCells _ => .putCells
  | .fill _ => .fill
  | .copy _ => .copy
  | .setPane _ => .setPane
  | .setPalette _ => .setPalette

/-- The kind of a queued request. -/
def Request.kind : Request → Kind
  | .update _ u => u.kind
  | .claim _ _ => .claim
  | .handover _ _ => .handover
  | .release _ => .release
  | .found => .found
  | .join => .join
  | .leave => .leave

/-- The batch tag of a queued UPDATE packet; other requests carry none (R29). -/
def Request.tag? : Request → Option Byte
  | .update t _ => some t
  | _ => none

/-- R25, condition 3, R33: whether a request, once taken, adds an entry. -/
def Request.addsEntry : Request → Bool
  | .update _ _ => true
  | .release _ => true
  | .claim _ count => decide (count ≠ 0)
  | _ => false

/-- R33, R51: UPDATE packets, CLAIM and RELEASE. -/
def Request.goesIntoEpoch : Request → Bool
  | .update _ _ => true
  | .claim _ _ => true
  | .release _ => true
  | _ => false

/-! ### Status, event and reason codes (section 10.5, 10.7) -/

/-- Section 10.7. -/
def Status.code : Status → Byte
  | .ok => 0x00
  | .badCommand => 0x01
  | .badField => 0x02
  | .notOffline => 0x03
  | .notConfigured => 0x04
  | .notMember => 0x05
  | .notOwner => 0x06
  | .leaving => 0x07
  | .batchOpen => 0x08
  | .noBatch => 0x09
  | .broken => 0x0A
  | .batchFull => 0x0B
  | .noTag => 0x0C
  | .queueFull => 0x0D
  | .empty => 0x0E

/-- Section 10.5. -/
def EventKind.code : EventKind → Byte
  | .founded => 0x01
  | .joined => 0x02
  | .denied => 0x03
  | .transferAbandoned => 0x04
  | .evicted => 0x05
  | .linkFailed => 0x06
  | .memberJoined => 0x07
  | .memberLeft => 0x08
  | .memberEvicted => 0x09
  | .claimWon => 0x0A
  | .claimLost => 0x0B
  | .paneReceived => 0x0C
  | .paneOrphaned => 0x0D
  | .handoverDone => 0x0E
  | .handoverFailed => 0x0F
  | .releaseDone => 0x10
  | .releaseFailed => 0x11
  | .batchCommitted => 0x12
  | .batchBroken => 0x13
  | .updateVoid => 0x14
  | .linkTimeout => 0x15
  | .frameLost => 0x16
  | .frameRelocked => 0x17
  | .rasterOverflow => 0x18
  | .foreignTraffic => 0x19
  | .eventsLost => 0x1A
  | .resetDone => 0x1B

/-- Section 10.5. -/
def Reason.code : Reason → Byte
  | .foreign => 0
  | .stale => 1
  | .range => 2
  | .notOwner => 3
  | .taken => 4
  | .noRoom => 5
  | .badCount => 6
  | .badTarget => 7
  | .link => 8

/-- Section 10.1. -/
def DenyReason.code : DenyReason → Byte
  | .duplicateId => 0
  | .font => 1
  | .level => 2

/-- The denial reason a byte names. -/
def denyReasonOf (b : Byte) : Option DenyReason :=
  [DenyReason.duplicateId, .font, .level].find? fun r => decide (r.code = b)

/-- Section 10.5: TRANSFER_ABANDONED's cause DIGEST_FAIL. -/
def causeDigestFail : Byte := 0
/-- Section 10.5: TRANSFER_ABANDONED's cause LIMIT. -/
def causeLimit : Byte := 1

/-- Section 10.6: the membership states in the order of R171. -/
def MemberState.code : MemberState → Byte
  | .offline => 0
  | .listening => 1
  | .founding => 2
  | .requesting => 3
  | .joining => 4
  | .member => 5
  | .denied => 6

/-- Section 10.6: the link states in the order of section 1.10. -/
def LinkState.code : LinkState → Byte
  | .disconnected => 0
  | .waitFree => 1
  | .idle => 2
  | .transmitting => 3
  | .receiving => 4
  | .recovery => 5

/-- Section 10.6. -/
def Sync.code : Sync → Byte
  | .stopped => 0
  | .following => 1
  | .locked => 2
  | .freeRun => 3

/-- An event record as eight bytes (section 10.5). -/
def EventRec.bytes (e : EventRec) : List Byte :=
  [e.kind.code] ++ halfBytes e.epoch ++ [e.arg1] ++ halfBytes e.arg2 ++ halfBytes e.arg3

/-! ### Configuration (R136) -/

/-- R136: every field within its range and against the fields it depends on. -/
def TileFields.inRange (f : TileFields) : Bool :=
  decide (320 ≤ f.hActive.toNat ∧ f.hActive.toNat ≤ 1280 ∧ f.hActive.toNat % 8 = 0)
  && decide (f.hActive.toNat + 32 ≤ f.hTotal.toNat ∧ f.hTotal.toNat ≤ 2048)
  && decide (f.hActive.toNat ≤ f.hSyncStart.toNat ∧ f.hSyncStart.toNat + 1 ≤ f.hTotal.toNat)
  && decide (f.hSyncStart.toNat + 1 ≤ f.hSyncEnd.toNat ∧ f.hSyncEnd.toNat ≤ f.hTotal.toNat)
  && decide (192 ≤ f.vActive.toNat ∧ f.vActive.toNat ≤ 768 ∧ f.vActive.toNat % 16 = 0)
  && decide (f.vFront ≠ 0) && decide (f.vSync ≠ 0) && decide (f.vBack ≠ 0)
  && decide (f.originCol.toNat ≤ 4095) && decide (f.originRow.toNat ≤ 4095)
  && decide (f.rate.toNat ≤ 3) && decide (f.irqEnable.toNat ≤ 1)

/-- Section 10.7: rate codes 0–3, slowest first. -/
def TileFields.linkRate (f : TileFields) : LinkRate :=
  if f.rate = 0 then .k250 else if f.rate = 1 then .k500 else if f.rate = 2 then .m1 else .m2

/-- R136: the tile is horizontal active / 8 cells wide. -/
def TileFields.cols (f : TileFields) : Nat := f.hActive.toNat / 8

/-- R136: the tile is vertical active / 16 cells high. -/
def TileFields.rows (f : TileFields) : Nat := f.vActive.toNat / 16

/-! ### Extents (R119) -/

/-- R119: base 0–511, size 1–512, base plus size at most 512. -/
def Extent.inRange (e : Extent) : Bool :=
  decide (e.base < Config.granules) && decide (1 ≤ e.size) && decide (e.base + e.size ≤ Config.granules)

/-- Whether every cell of an extent lies in the store (cells 0–8191). -/
def Extent.inStore (e : Extent) : Bool := decide (e.base + e.size ≤ Config.granules)

/-! ### Static ranges of the updates (check 3 of R26, check 1 of R168) -/

/-- The pane ids are 0–31. -/
def paneInRange (b : Byte) : Bool := decide (b.toNat ≤ 31)

/-- An optional field that is in range when present. -/
def absentOr {α : Type} (p : α → Bool) : Option α → Bool
  | none => true
  | some a => p a

/-- R128. -/
def PutCellsArgs.inRange (a : PutCellsArgs) : Bool :=
  paneInRange a.pane && decide (a.offset.toNat ≤ 8191) && decide (1 ≤ a.cells.length ∧ a.cells.length ≤ 12)

/-- R130. -/
def FillArgs.inRange (a : FillArgs) : Bool :=
  paneInRange a.pane && decide (a.top.toNat ≤ 8191) && decide (a.left.toNat ≤ 254)
  && decide (1 ≤ a.rows.toNat ∧ a.rows.toNat ≤ 8192) && decide (1 ≤ a.cols.toNat)
  && decide (a.fn.toNat ≤ 3) && decide (a.charWrite.toNat ≤ 1)

/-- R133. -/
def CopyArgs.inRange (a : CopyArgs) : Bool :=
  paneInRange a.pane && decide (a.srcRow.toNat ≤ 8191) && decide (a.dstRow.toNat ≤ 8191)
  && decide (a.srcCol.toNat ≤ 254) && decide (a.dstCol.toNat ≤ 254)
  && decide (1 ≤ a.rows.toNat ∧ a.rows.toNat ≤ 8192) && decide (1 ≤ a.cols.toNat)

/-- R99, R112: a cursor's row and column are 0–254; its scanlines fill their four bits each. -/
def RawCursor.inRange (c : RawCursor) : Bool := decide (c.row.toNat ≤ 254) && decide (c.col.toNat ≤ 254)

/-- R112. -/
def SetPaneArgs.inRange (a : SetPaneArgs) : Bool :=
  paneInRange a.pane && decide (a.extraMarks = 0)
  && absentOr (fun v => decide (v.toNat ≤ 4095)) a.col && absentOr (fun v => decide (v.toNat ≤ 4095)) a.row
  && absentOr (fun v => decide (v ≠ 0)) a.width && absentOr (fun v => decide (v ≠ 0)) a.height
  && absentOr (fun v => decide (v.toNat ≤ 63)) a.depth && absentOr (fun v => decide (v ≠ 0)) a.pitch
  && absentOr (fun v => decide (v.toNat ≤ 8191)) a.scrollRow && absentOr (fun v => decide (v.toNat ≤ 254)) a.scrollCol
  && absentOr (fun v => decide (v.toNat ≤ 1)) a.font && absentOr (fun v => decide (v.toNat ≤ 3)) a.bank
  && absentOr (fun v => decide (v.toNat ≤ 2)) a.mode && absentOr (fun v => decide (v.toNat ≤ 15)) a.underline
  && absentOr RawCursor.inRange a.cursor && absentOr (fun v => decide (v.toNat ≤ 1)) a.visible

/-- R155. -/
def SetPaletteArgs.inRange (a : SetPaletteArgs) : Bool :=
  decide (1 ≤ a.bank.toNat ∧ a.bank.toNat ≤ 3) && decide (a.first.toNat ≤ 15)
  && decide (1 ≤ a.colours.length ∧ a.colours.length ≤ 8) && decide (a.first.toNat + a.colours.length ≤ 16)

/-- The static range check of each update kind. -/
def Update.inRange : Update → Bool
  | .putCells a => a.inRange
  | .fill a => a.inRange
  | .copy a => a.inRange
  | .setPane a => a.inRange
  | .setPalette a => a.inRange

/-- The pane an update names; SET-PALETTE names none (R101). -/
def Update.pane? : Update → Option Byte
  | .putCells a => some a.pane
  | .fill a => some a.pane
  | .copy a => some a.pane
  | .setPane a => some a.pane
  | .setPalette _ => none

/-- The pane id a byte names, once it is in range. -/
def paneIx (b : Byte) : Fin 32 := ⟨b.toNat % 32, Nat.mod_lt _ (by decide)⟩

/-! ### SET-PANE fields (section 10.2) -/

/-- An optional byte field's bytes. -/
def optByte : Option Byte → List Byte
  | some b => [b]
  | none => []

/-- An optional 16-bit field's bytes. -/
def optHalf : Option Half → List Byte
  | some h => halfBytes h
  | none => []

/-- An optional cursor field's bytes. -/
def optCursor : Option RawCursor → List Byte
  | some c => [c.row, c.col, c.scan]
  | none => []

/-- The presence mask: bits 0–13 mark the fourteen fields in order, bits 14–15 are the marks beyond them. -/
def SetPaneArgs.mask (a : SetPaneArgs) : Half :=
  a.extraMarks ++ BitVec.ofBool a.visible.isSome ++ BitVec.ofBool a.cursor.isSome ++ BitVec.ofBool a.underline.isSome
    ++ BitVec.ofBool a.mode.isSome ++ BitVec.ofBool a.bank.isSome ++ BitVec.ofBool a.font.isSome
    ++ BitVec.ofBool a.scrollCol.isSome ++ BitVec.ofBool a.scrollRow.isSome ++ BitVec.ofBool a.pitch.isSome
    ++ BitVec.ofBool a.depth.isSome ++ BitVec.ofBool a.height.isSome ++ BitVec.ofBool a.width.isSome
    ++ BitVec.ofBool a.row.isSome ++ BitVec.ofBool a.col.isSome

/-- The marked fields' bytes, in mask order. -/
def SetPaneArgs.fieldBytes (a : SetPaneArgs) : List Byte :=
  optHalf a.col ++ optHalf a.row ++ optByte a.width ++ optByte a.height ++ optByte a.depth ++ optByte a.pitch
    ++ optHalf a.scrollRow ++ optByte a.scrollCol ++ optByte a.font ++ optByte a.bank ++ optByte a.mode
    ++ optByte a.underline ++ optCursor a.cursor ++ optByte a.visible

/-- R180: how many bytes a mask calls for; bits 14 and 15 call for none. -/
def maskBytes (m : Half) : Nat :=
  [2, 2, 1, 1, 1, 1, 2, 1, 1, 1, 1, 1, 3, 1].zipIdx.foldl (fun n f => if m.getLsbD f.2 then n + f.1 else n) 0

/-- One byte of a run when its mark is set. -/
def takeByte (on : Bool) (bs : List Byte) : Option (Option Byte × List Byte) :=
  if on then (match bs with | b :: t => some (some b, t) | [] => none) else some (none, bs)

/-- Two bytes of a run when their mark is set. -/
def takeHalf (on : Bool) (bs : List Byte) : Option (Option Half × List Byte) :=
  if on then (match bs with | h :: l :: t => some (some (halfOf h l), t) | _ => none) else some (none, bs)

/-- Three bytes of a run when their mark is set. -/
def takeCursor (on : Bool) (bs : List Byte) : Option (Option RawCursor × List Byte) :=
  if on then (match bs with | r :: c :: s :: t => some (some ⟨r, c, s⟩, t) | _ => none) else some (none, bs)

/-- A SET-PANE's fields read from its pane, mask and field bytes; none when the length does not match. -/
def setPaneOf (pane : Byte) (m : Half) (bs : List Byte) : Option SetPaneArgs := do
  let (col, bs) ← takeHalf (m.getLsbD 0) bs
  let (row, bs) ← takeHalf (m.getLsbD 1) bs
  let (width, bs) ← takeByte (m.getLsbD 2) bs
  let (height, bs) ← takeByte (m.getLsbD 3) bs
  let (depth, bs) ← takeByte (m.getLsbD 4) bs
  let (pitch, bs) ← takeByte (m.getLsbD 5) bs
  let (scrollRow, bs) ← takeHalf (m.getLsbD 6) bs
  let (scrollCol, bs) ← takeByte (m.getLsbD 7) bs
  let (font, bs) ← takeByte (m.getLsbD 8) bs
  let (bank, bs) ← takeByte (m.getLsbD 9) bs
  let (mode, bs) ← takeByte (m.getLsbD 10) bs
  let (underline, bs) ← takeByte (m.getLsbD 11) bs
  let (cursor, bs) ← takeCursor (m.getLsbD 12) bs
  let (visible, bs) ← takeByte (m.getLsbD 13) bs
  if bs = [] then
    some { pane, col, row, width, height, depth, pitch, scrollRow, scrollCol, font, bank, mode, underline, cursor, visible,
           extraMarks := m.extractLsb' 14 2 }
  else none

/-! ### Update payloads (section 10.1) -/

/-- The payload of an update less its epoch tag and batch tag. -/
def Update.body : Update → List Byte
  | .putCells a => [a.pane] ++ halfBytes a.offset ++ [byte a.cells.length] ++ a.cells.flatMap cellBytes
  | .fill a => [a.pane] ++ halfBytes a.top ++ [a.left] ++ halfBytes a.rows
      ++ [a.cols, a.char, a.attr, a.fn, a.charWrite, a.mask]
  | .copy a => [a.pane] ++ halfBytes a.srcRow ++ [a.srcCol] ++ halfBytes a.dstRow ++ [a.dstCol] ++ halfBytes a.rows
      ++ [a.cols]
  | .setPane a => [a.pane] ++ halfBytes a.mask ++ a.fieldBytes
  | .setPalette a => [a.bank, a.first, byte a.colours.length] ++ a.colours.flatMap colourBytes

/-- The payload of an UPDATE packet. -/
def Update.payload (epochTag : Half) (batchTag : Byte) (u : Update) : List Byte :=
  halfBytes epochTag ++ [batchTag] ++ u.body

/-- An UPDATE packet's epoch tag, batch tag and content. -/
structure TaggedUpdate where
  epochTag : Half
  batchTag : Byte
  update : Update
  deriving DecidableEq, Repr

/-- Section 10.1: PUT-CELLS, 7 + 2 × count bytes. -/
def readPutCells : List Byte → Option TaggedUpdate
  | e1 :: e0 :: bt :: p :: o1 :: o0 :: n :: t =>
    if t.length = 2 * n.toNat then some ⟨halfOf e1 e0, bt, .putCells ⟨p, halfOf o1 o0, cellsOf t⟩⟩ else none
  | _ => none

/-- Section 10.1: FILL, 15 bytes. -/
def readFill : List Byte → Option TaggedUpdate
  | [e1, e0, bt, p, t1, t0, l, r1, r0, c, ch, at', f, w, m] =>
    some ⟨halfOf e1 e0, bt, .fill ⟨p, halfOf t1 t0, l, halfOf r1 r0, c, ch, at', f, w, m⟩⟩
  | _ => none

/-- Section 10.1: COPY, 13 bytes. -/
def readCopy : List Byte → Option TaggedUpdate
  | [e1, e0, bt, p, s1, s0, sc, d1, d0, dc, r1, r0, c] =>
    some ⟨halfOf e1 e0, bt, .copy ⟨p, halfOf s1 s0, sc, halfOf d1 d0, dc, halfOf r1 r0, c⟩⟩
  | _ => none

/-- Section 10.1: SET-PANE, 6 + marked field bytes. -/
def readSetPane : List Byte → Option TaggedUpdate
  | e1 :: e0 :: bt :: p :: m1 :: m0 :: t =>
    (setPaneOf p (halfOf m1 m0) t).map fun a => ⟨halfOf e1 e0, bt, .setPane a⟩
  | _ => none

/-- Section 10.1: SET-PALETTE, 6 + 3 × count bytes. -/
def readSetPalette : List Byte → Option TaggedUpdate
  | e1 :: e0 :: bt :: b :: f :: n :: t =>
    if t.length = 3 * n.toNat then some ⟨halfOf e1 e0, bt, .setPalette ⟨b, f, coloursOf t⟩⟩ else none
  | _ => none

/-- The reader of each UPDATE kind. -/
def readUpdate : Kind → List Byte → Option TaggedUpdate
  | .putCells => readPutCells
  | .fill => readFill
  | .copy => readCopy
  | .setPane => readSetPane
  | .setPalette => readSetPalette
  | _ => fun _ => none

/-! ### The other payloads (section 10.1) -/

/-- FOUND and JOIN: digest 2, protocol level 1. -/
def readJoin : List Byte → Option (Half × Byte)
  | [d1, d0, l] => some (halfOf d1 d0, l)
  | _ => none

/-- JOIN-DENY: target id 1, reason 1. DESIGN CHOICE (notes/assumptions/39.md): a reason byte above 2 names no reason (section 10.1), and
the packet has no effect on the station it names. -/
def readJoinDeny : List Byte → Option (Byte × DenyReason)
  | [t, r] => (denyReasonOf r).map fun r => (t, r)
  | _ => none

/-- JOIN-DONE: snapshot epoch 2, status 1 (0 OK, 1 DIGEST_FAIL). A status byte above 1 names no status, and the packet
is void (R180; DEDUCED, notes/assumptions/52.md). -/
def readJoinDone : List Byte → Option (Half × Bool)
  | [e1, e0, st] => if st = 0 then some (halfOf e1 e0, true) else if st = 1 then some (halfOf e1 e0, false) else none
  | _ => none

/-- CLAIM: pane 1, count 2. -/
def readClaim : List Byte → Option (Byte × Half)
  | [p, c1, c0] => some (p, halfOf c1 c0)
  | _ => none

/-- HANDOVER: pane 1, target id 1. -/
def readHandover : List Byte → Option (Byte × Byte)
  | [p, t] => some (p, t)
  | _ => none

/-- RELEASE: epoch tag 2, pane 1; RETRACT: epoch tag 2, batch tag 1. -/
def readTaggedByte : List Byte → Option (Half × Byte)
  | [e1, e0, b] => some (halfOf e1 e0, b)
  | _ => none

/-- CLOSE: epoch tag 2. -/
def readClose : List Byte → Option Half
  | [e1, e0] => some (halfOf e1 e0)
  | _ => none

/-- The station ids of a run of bytes; none when a byte names no station. -/
def idsOf : List Byte → Option (List StationId)
  | [] => some []
  | b :: t => do
    let i ← idOfByte b
    let rest ← idsOf t
    some (i :: rest)

/-- What a SNAP-HEAD carries. -/
structure SnapHead where
  joiner : Byte
  openNum : Half
  roster : IdSet
  openClose : IdSet
  joinQueue : List StationId
  deriving DecidableEq, Repr

/-- SNAP-HEAD: joiner id 1, open epoch 2, roster 2, OPEN close set 2, queue length n 1, then n ids; n at most 15 (R180). DESIGN CHOICE
(notes/assumptions/39.md): one whose list holds a byte above 15, which names no station, cannot be read and has no effect: it is void at a
member and names no REQUESTING station. -/
def readSnapHead : List Byte → Option SnapHead
  | j :: e1 :: e0 :: r1 :: r0 :: c1 :: c0 :: n :: t =>
    if t.length = n.toNat ∧ n.toNat ≤ 15 then
      (idsOf t).map fun q => ⟨j, halfOf e1 e0, halfOf r1 r0, halfOf c1 c0, q⟩
    else none
  | _ => none

/-- An extent field: base 0 and size 0 is absent; otherwise it must be in the range of R119. `none`: out of range. -/
def readExtent (b1 b0 s1 s0 : Byte) : Option (Option Extent) :=
  let e : Extent := ⟨(halfOf b1 b0).toNat, (halfOf s1 s0).toNat⟩
  if e.base = 0 ∧ e.size = 0 then some none else if e.inRange then some (some e) else none

/-- A pane's state as a byte (section 10.3). -/
def Control.stateByte : Control → Byte
  | .free => 0
  | .owned _ _ => 1
  | .orphan _ => 2
  | .releasing _ => 3

/-- A pane's owner as a byte. -/
def Control.ownerByte : Control → Byte
  | .owned o _ => idByte o
  | _ => absentId

/-- A pane's control extent. -/
def Control.extent? : Control → Option Extent
  | .free => none
  | .owned _ e => some e
  | .orphan e => some e
  | .releasing e => some e

/-- The control fields of a state byte, an owner byte and an extent, as R98 lets them stand together. DESIGN CHOICE (notes/assumptions/45.md):
the owner's range is 0–15, and an owner outside the joiner's roster is in range (R87, R98). -/
def controlOf (st owner : Byte) (ext : Option Extent) : Option Control :=
  if st = 0 ∧ owner = absentId ∧ ext = none then some .free
  else if st = 1 then
    match idOfByte owner, ext with
    | some o, some e => some (.owned o e)
    | _, _ => none
  else if st = 2 ∧ owner = absentId then ext.map Control.orphan
  else if st = 3 ∧ owner = absentId then ext.map Control.releasing
  else none

/-- Section 10.2. -/
def Font.code : Font → Byte
  | .a => 0
  | .b => 1

/-- Section 10.2. -/
def fontOf (b : Byte) : Font := if b = 0 then .a else .b

/-- Section 10.2. -/
def AttrMode.code : AttrMode → Byte
  | .blink => 0
  | .bright => 1
  | .underline => 2

/-- Section 10.2. -/
def modeOf (b : Byte) : AttrMode := if b = 0 then .blink else if b = 1 then .bright else .underline

/-- Section 10.2: top scanline in bits 7–4, bottom in bits 3–0. -/
def cursorOf (c : RawCursor) : Cursor := ⟨c.row, c.col, c.scan.extractLsb' 4 4, c.scan.extractLsb' 0 4⟩

/-- Section 10.2. -/
def rawCursorOf (c : Cursor) : RawCursor := ⟨c.row, c.col, c.top ++ c.bottom⟩

/-- A SET-PANE that writes every display field: the 19 field bytes of a pane record (section 10.3). -/
def fullFields (pane : Byte) (d : Display) : SetPaneArgs where
  pane := pane
  col := some d.col
  row := some d.row
  width := some d.width
  height := some d.height
  depth := some d.depth
  pitch := some d.pitch
  scrollRow := some d.scrollRow
  scrollCol := some d.scrollCol
  font := some d.font.code
  bank := some (d.bank.setWidth 8)
  mode := some d.mode.code
  underline := some (d.underline.setWidth 8)
  cursor := some (rawCursorOf d.cursor)
  visible := some (flagByte d.visible)
  extraMarks := 0

/-- R113: each present field written with the value carried; the display extent is not a field of SET-PANE. -/
def applyFields (a : SetPaneArgs) (d : Display) : Display where
  col := a.col.getD d.col
  row := a.row.getD d.row
  width := a.width.getD d.width
  height := a.height.getD d.height
  depth := a.depth.getD d.depth
  pitch := a.pitch.getD d.pitch
  scrollRow := a.scrollRow.getD d.scrollRow
  scrollCol := a.scrollCol.getD d.scrollCol
  font := (a.font.map fontOf).getD d.font
  bank := (a.bank.map fun b => b.setWidth 2).getD d.bank
  mode := (a.mode.map modeOf).getD d.mode
  underline := (a.underline.map fun b => b.setWidth 4).getD d.underline
  cursor := (a.cursor.map cursorOf).getD d.cursor
  visible := (a.visible.map fun b => decide (b = 1)).getD d.visible
  ext := d.ext

/-- The mask that marks all fourteen fields. -/
def fullMask : Half := 0x3FFF

/-- The pane record of section 10.3, 30 bytes. -/
def paneRecord (i : Fin 32) (p : Pane) : List Byte :=
  [byte i.val, p.control.stateByte, p.control.ownerByte] ++ extentBytes p.control.extent?
    ++ (fullFields (byte i.val) p.display).fieldBytes ++ extentBytes p.display.ext

/-- A pane record read back; none when its length is not 30 or a field lies outside its range (R87). -/
def readPaneRecord (bs : List Byte) : Option (Fin 32 × Pane) :=
  match bs with
  | p :: st :: ow :: b1 :: b0 :: s1 :: s0 :: t =>
    match t.drop 19 with
    | [d1, d0, z1, z0] => do
      let ctl ← readExtent b1 b0 s1 s0
      let dsp ← readExtent d1 d0 z1 z0
      let control ← controlOf st ow ctl
      let fields ← setPaneOf p fullMask (t.take 19)
      if fields.inRange then
        some (paneIx p, ⟨control, { applyFields fields displayDefaults with ext := dsp }⟩)
      else none
    | _ => none
  | _ => none

/-- The extents of a run of bytes, four bytes each; none when a size is 0, an extent runs past granule 511 or bytes are
left over (R87). -/
def extentsOf : List Byte → Option (List Extent)
  | [] => some []
  | b1 :: b0 :: s1 :: s0 :: t =>
    let e : Extent := ⟨(halfOf b1 b0).toNat, (halfOf s1 s0).toNat⟩
    if e.inRange then (extentsOf t).map fun r => e :: r else none
  | _ => none

/-- SNAP-FREE: chunk index 1, then n extents, n 0–7. -/
def readSnapFree : List Byte → Option (Byte × List Extent)
  | i :: t => if t.length ≤ 28 then (extentsOf t).map fun es => (i, es) else none
  | [] => none

/-- SNAP-PALETTE: bank 1, first index 1, eight colours; in range per R87: bank 1–3, first index at most 8. -/
def readSnapPalette : List Byte → Option (Byte × Byte × List Colour)
  | b :: f :: t =>
    if t.length = 24 ∧ 1 ≤ b.toNat ∧ b.toNat ≤ 3 ∧ f.toNat ≤ 8 then some (b, f, coloursOf t) else none
  | _ => none

/-- SNAP-CELLS: offset 2, then 1–15 cells; in range per R87: offset plus count at most 8192. -/
def readSnapCells : List Byte → Option (Nat × List Cell)
  | o1 :: o0 :: t =>
    let o := (halfOf o1 o0).toNat
    if t.length % 2 = 0 ∧ 2 ≤ t.length ∧ t.length ≤ 30 ∧ o + t.length / 2 ≤ Config.cells then some (o, cellsOf t) else none
  | _ => none

/-- SNAP-END: packet count 2, cell digest 2. -/
def readSnapEnd : List Byte → Option (Half × Half)
  | [n1, n0, d1, d0] => some (halfOf n1 n0, halfOf d1 d0)
  | _ => none

/-! ### Length allowances (R180) -/

/-- The byte at a place of a payload, 0 past its end. -/
def byteAt (p : List Byte) (i : Nat) : Byte := p.getD i 0

/-- R180: whether a payload's length is within the kind's allowance. -/
def lengthAllowed (k : Kind) (p : List Byte) : Bool :=
  match k with
  | .found | .join => decide (p.length = 3)
  | .joinDeny => decide (p.length = 2)
  | .joinDone => decide (p.length = 3)
  | .leave => decide (p.length = 0)
  | .claim => decide (p.length = 3)
  | .handover => decide (p.length = 2)
  | .release | .retract => decide (p.length = 3)
  | .close => decide (p.length = 2)
  | .putCells => decide (7 ≤ p.length) && decide (p.length = 7 + 2 * (byteAt p 6).toNat)
  | .fill => decide (p.length = 15)
  | .copy => decide (p.length = 13)
  | .setPane => decide (6 ≤ p.length) && decide (p.length = 6 + maskBytes (halfOf (byteAt p 4) (byteAt p 5)))
  | .setPalette => decide (6 ≤ p.length) && decide (p.length = 6 + 3 * (byteAt p 5).toNat)
  | .snapHead => decide (8 ≤ p.length) && decide (p.length = 8 + (byteAt p 7).toNat) && decide ((byteAt p 7).toNat ≤ 15)
  | .snapPane => decide (p.length = 30)
  | .snapFree => decide (p.length % 4 = 1) && decide (p.length ≤ 29)
  | .snapPalette => decide (p.length = 26)
  | .snapCells => decide (p.length % 2 = 0) && decide (4 ≤ p.length) && decide (p.length ≤ 32)
  | .snapEnd => decide (p.length = 4)

/-- R25, condition 3: the entries a packet would add, made from its kind and count field alone. -/
def entriesAdded (k : Kind) (p : List Byte) : Nat :=
  match k with
  | .putCells | .fill | .copy | .setPane | .setPalette | .release => 1
  | .claim => if halfOf (byteAt p 1) (byteAt p 2) = 0 then 0 else 1
  | _ => 0

/-! ### A packet on the wire (R3, R5) -/

/-- The sixteen bits of class, sender, kind and length (section 1.2). -/
def headerHalf (cls : BitVec 2) (sender : StationId) (kind : BitVec 4) (length : BitVec 6) : Half :=
  cls ++ sender ++ kind ++ length

/-- The length field of a formed packet. -/
def Packet.length (p : Packet) : BitVec 6 := BitVec.ofNat 6 p.payload.length

/-- The bytes the check covers: class through payload, 2 + L whole bytes (R5). -/
def Packet.covered (p : Packet) : List Byte := halfBytes (headerHalf p.cls p.sender p.kind p.length) ++ p.payload

/-- The check of a formed packet (R5). -/
def Packet.check (p : Packet) : Half := crc16 p.covered

/-- The bits of the slots from the first class slot through the last check slot, most significant first (R3). -/
def Packet.bits (p : Packet) : List Bool := (p.covered ++ halfBytes p.check).flatMap byteBits

/-- R3: a packet with L payload bytes occupies 35 + 8L bit times, the stretch of the hold point apart: one for the start,
the header through check slots, one for the refusal slot and one for the stop. -/
def Packet.bitTimes (p : Packet) : Nat := 1 + p.bits.length + 1 + 1

/-- The check a receiver computes over the bits it sampled (R5). -/
def RxPacket.computed (rx : RxPacket) : Half :=
  crc16 (halfBytes (headerHalf rx.cls rx.sender rx.kind rx.length) ++ rx.payload)

/-- R5: the receiver's comparison. -/
def RxPacket.checkOk (rx : RxPacket) : Bool := decide (rx.computed = rx.check)

/-- R4: a length of 33–63 is invalid. -/
def RxPacket.lengthOk (rx : RxPacket) : Bool := decide (rx.length.toNat ≤ 32)

/-- The kind a received header names. -/
def RxPacket.kind? (rx : RxPacket) : Option Kind := Kind.ofCode rx.cls rx.kind

/-- R4: the receive buffer keeps the first 32 payload bytes and discards the rest. -/
def RxPacket.buffered (rx : RxPacket) : RxPacket := { rx with payload := rx.payload.take 32 }

/-- A formed packet as its receivers sample it. -/
def Packet.received (p : Packet) : RxPacket := ⟨p.cls, p.sender, p.kind, p.length, p.payload, p.check⟩

end Sys2Proof.Machine
end

