-- ==== Sys2Proof/Machine/Flags.lean ====
section
/-! DEFINITION. Every condition the spec computes from the state: membership and roles, close sets and current epochs
(R45), the vote (R55), the CLOSE due conditions (R50, R51), holds and the Transmitter's choice (R24, R32, R33), the
admission conditions (R25), tags in use (R166), the interrupt condition (R175). -/

namespace Sys2Proof.Machine

/-! ### Sets of station ids -/

/-- Whether an id is in a set. -/
def idIn (i : StationId) (r : IdSet) : Bool := r.getLsbD i.toNat

/-- The set of one id. -/
def idSet (i : StationId) : IdSet := (1 : IdSet) <<< i.toNat

/-- A set with an id added. -/
def idAdd (i : StationId) (r : IdSet) : IdSet := r ||| idSet i

/-- A set with an id removed. -/
def idDrop (i : StationId) (r : IdSet) : IdSet := r &&& ~~~(idSet i)

/-- Every station id, ascending. -/
def allIds : List StationId := (List.range 16).map (BitVec.ofNat 4)

/-- The ids of a set, ascending. -/
def idList (r : IdSet) : List StationId := allIds.filter fun i => idIn i r

/-- The lowest id of a set. -/
def lowestId (r : IdSet) : Option StationId := (idList r).head?

/-- Whether every id of the first set is in the second. -/
def idSubset (a b : IdSet) : Bool := decide (a &&& ~~~b = 0)

/-! ### Membership -/

/-- R69: the station counts as a member in MEMBER alone. -/
def State.isMember (s : State) : Bool := decide (s.mb.state = .member)

/-- R69: it is the joiner in JOINING. -/
def State.isJoiner (s : State) : Bool := decide (s.mb.state = .joining)

/-- R12: whether the station evaluates packets that start now. -/
def State.evaluates (s : State) : Bool := s.isMember || s.isJoiner

/-- R12: the role fixed at a start condition. -/
def State.roleNow (s : State) : Role := if s.evaluates then .evaluator else .observer

/-- R81: a member whose id is the lowest in the roster. -/
def State.isLowest (s : State) : Bool := s.isMember && decide (lowestId s.mb.roster = some s.stationId)

/-- Whether a transfer is in flight. -/
def State.inTransfer (s : State) : Bool := s.mb.transfer.isSome

/-- R24: whether this station is the source of a transfer in flight. -/
def State.isSource (s : State) : Bool :=
  match s.mb.transfer with
  | some t => s.isMember && decide (t.source = s.stationId)
  | none => false

/-! ### The link -/

/-- R19: a packet is in progress in TRANSMITTING and RECEIVING. -/
def State.packetInProgress (s : State) : Bool :=
  decide (s.link.state = .transmitting) || decide (s.link.state = .receiving)

/-- Whether this station is the sender of the packet in progress. -/
def State.sending (s : State) : Bool := decide (s.link.state = .transmitting)

/-- Whether a packet of `sender` is this station's own: it is the one sending, under its own id. -/
def State.sentHere (s : State) (sender : StationId) : Bool := s.sending && decide (sender = s.stationId)

/-- R13, R14: whether the refusal slot may be sampled now: a packet is in progress, its slot is not yet sampled, and an
evaluator has released TLC with its decision made. -/
def State.slotOpen (s : State) : Bool :=
  s.packetInProgress && decide (s.link.slot = .pending)
  && (decide (s.link.role = some .observer) || s.link.decision.isSome)

/-- R14: whether the slot may pass with TLD high as far as this station goes: it does not pull TLD to refuse. -/
def State.slotMayPass (s : State) : Bool :=
  s.slotOpen
  && (match s.link.decision with
      | some d => !d.refuse
      | none => true)

/-- R14, R15: whether the packet in progress, once taken, is handed to this station's own delivery. -/
def State.delivers (s : State) : Bool := decide (s.link.role = some .evaluator) && s.evaluates

/-! ### Epochs (R43, R45, R48) -/

/-- R43: the committed epoch number is the open number less one. -/
def Epochs.committed (e : Epochs) : Half := e.openNum - 1

/-- R45: a member's current epoch. -/
def Epochs.current (e : Epochs) (i : StationId) : Option EpochClass :=
  if !idIn i e.openClose then some .openE else if !idIn i e.nextClose then some .nextE else none

/-- R27: the number of OPEN or NEXT. -/
def Epochs.numberOf (e : Epochs) (c : EpochClass) : Half :=
  match c with
  | .openE => e.openNum
  | .nextE => e.openNum + 1
  | .applying => e.openNum - 1

/-- Whether an entry stands in OPEN or NEXT. -/
def Entry.gathering (e : Entry) : Bool := decide (e.cls ≠ .applying)

/-- R48: the entries in OPEN and NEXT together. -/
def Epochs.gatheringCount (e : Epochs) : Nat := (e.staging.filter Entry.gathering).length

/-- The entries of one sender in one epoch. -/
def Epochs.entriesOf (e : Epochs) (i : StationId) (c : EpochClass) : List Entry :=
  e.staging.filter fun x => decide (x.sender = i) && decide (x.cls = c)

/-- Whether a batch has entries in one epoch: same sender, same batch tag (R52). -/
def Epochs.batchIn (e : Epochs) (i : StationId) (tag : Byte) (c : EpochClass) : Bool :=
  e.staging.any fun x => decide (x.sender = i) && decide (x.tag = some tag) && decide (x.cls = c)

/-- The entries of the applying epoch, in staging-queue order (R64). -/
def Epochs.applyingEntries (e : Epochs) : List Entry := e.staging.filter fun x => decide (x.cls = .applying)

/-- R64: the entry the running apply pass takes next. -/
def Epochs.nextToApply (e : Epochs) : Option Entry :=
  if e.passRunning then e.applyingEntries[e.passDone]? else none

/-! ### Batches (R30, R50, R51) -/

/-- Whether a packet of a batch is still in the transmit queue. -/
def Transmitter.queuedInBatch (t : Transmitter) (tag : Byte) : Bool :=
  t.queue.any fun q => decide (q.request.tag? = some tag)

/-- R30: a batch is unfinished while the host has not ended it, one of its updates is still queued, or it is broken and its
RETRACT has not been taken. -/
def Transmitter.unfinished (t : Transmitter) (b : BatchRecord) : Bool :=
  !b.ended || t.queuedInBatch b.tag || b.broken

/-- Whether an unfinished batch of this station has taken entries in an epoch. -/
def State.unfinishedIn (s : State) (c : EpochClass) : Bool :=
  s.tx.batches.any fun b => s.tx.unfinished b && s.ep.batchIn s.stationId b.tag c

/-- R50: a CLOSE is due for OPEN. -/
def State.closeOpenDue (s : State) : Bool :=
  s.isMember && !idIn s.stationId s.ep.openClose && !s.unfinishedIn .openE

/-- R51: a CLOSE is due for NEXT. -/
def State.closeNextDue (s : State) : Bool :=
  s.isMember && idIn s.stationId s.ep.openClose && !idIn s.stationId s.ep.nextClose && !s.unfinishedIn .nextE
  && !(s.tx.queue.any fun q => q.request.goesIntoEpoch)
  && (s.mb.joinQueue.isEmpty || !(s.ep.entriesOf s.stationId .nextE).isEmpty)

/-- R50, R51: the epoch number of the CLOSE that is due. -/
def State.closeDue (s : State) : Option Half :=
  if s.closeOpenDue then some s.ep.openNum else if s.closeNextDue then some (s.ep.openNum + 1) else none

/-! ### The vote (R55) and the interrupt (R175) -/

/-- R55, conditions 1 to 3. -/
def State.mayCommit (s : State) : Bool :=
  idSubset s.mb.roster s.ep.openClose && !s.inTransfer && !s.ep.pendingApply

/-- R55: each member pulls TLV low when any condition fails; outsiders and the joiner keep it released. -/
def State.voteLow (s : State) : Bool := s.isMember && !s.mayCommit

/-- R175: the interrupt enable of the configuration. -/
def Raster.irqEnabled (r : Raster) : Bool :=
  match r.config with
  | some f => decide (f.irqEnable = 1)
  | none => false

/-- R175: IRQn is low while the event queue holds a record and the interrupt enable is on. -/
def State.irqWanted (s : State) : Bool := s.raster.irqEnabled && !s.host.events.isEmpty

/-! ### Holds and the Transmitter's choice (R24, R32, R33) -/

/-- R33, third condition: the entries in OPEN and NEXT plus one would be more than 256. -/
def State.stagingFull (s : State) : Bool := decide (Config.stagingRoom < s.ep.gatheringCount + 1)

/-- R33, R54: a request held for staging room. -/
def State.heldForRoom (s : State) (r : Request) : Bool := r.addsEntry && s.stagingFull

/-- R33: the holds of a queued request. -/
def State.held (s : State) (r : Request) : Bool :=
  (s.inTransfer && (r.kind.isUpdate || (r.kind.isControl && !r.kind.isJoinKind)))
  || (!s.mb.joinQueue.isEmpty && idIn s.stationId s.ep.openClose && r.goesIntoEpoch)
  || s.heldForRoom r
  || (idIn s.stationId s.ep.openClose && idIn s.stationId s.ep.nextClose && r.goesIntoEpoch)

/-- R24: whether the membership state allows a queued request. -/
def State.allows (s : State) (r : Request) : Bool :=
  match r with
  | .found => decide (s.mb.state = .founding)
  | .join => decide (s.mb.state = .requesting)
  | _ => s.isMember

/-- R35, R39: an internal or queued packet whose eighth refusal has been counted and whose exhaustion has not been taken. -/
def Transmitter.exhausted (t : Transmitter) : Bool :=
  t.queue.any (fun q => decide (Config.refusalLimit ≤ q.refusals))
  || t.retracts.any (fun r => decide (Config.refusalLimit ≤ r.refusals))
  || t.denials.any (fun d => decide (Config.refusalLimit ≤ d.refusals))
  || t.joinDone.any (fun d => decide (Config.refusalLimit ≤ d.refusals))
  || decide (Config.refusalLimit ≤ t.closeOpen) || decide (Config.refusalLimit ≤ t.closeNext)
  || decide (Config.refusalLimit ≤ t.snapRefusals)

/-- R32: the first candidate that is present and not held, in the fixed order. -/
def State.offer (s : State) : Option Candidate :=
  if s.tx.exhausted then none
  else if s.isMember && !s.tx.retracts.isEmpty && !s.inTransfer then some .retract
  else if s.isLowest && !s.tx.denials.isEmpty then some .joinDeny
  else if s.isJoiner && s.tx.joinDone.isSome then some .joinDone
  else
    match s.closeDue with
    | some n => some (.close n)
    | none =>
      match s.tx.queue with
      | q :: _ =>
        if s.allows q.request && !s.held q.request && (s.tx.retracts.isEmpty || !s.inTransfer) then some .queueHead
        else if s.isSource && s.mb.snapPos.isSome && !s.ep.pendingApply then some .snapshot
        else none
      | [] => if s.isSource && s.mb.snapPos.isSome && !s.ep.pendingApply then some .snapshot else none

/-! ### Admission (R25) -/

/-- R25, condition 1, local to each receiver. -/
def RxPacket.damaged (rx : RxPacket) : Bool := !rx.checkOk || !rx.lengthOk

/-- R25, condition 2. -/
def RxPacket.outOfCatalogue (rx : RxPacket) : Bool :=
  match rx.kind? with
  | some k => !lengthAllowed k rx.payload
  | none => true

/-- R25, condition 3. -/
def State.overfills (s : State) (rx : RxPacket) : Bool :=
  match rx.kind? with
  | some k => decide (0 < entriesAdded k rx.payload)
      && decide (Config.stagingRoom < s.ep.gatheringCount + entriesAdded k rx.payload)
  | none => false

/-- R25, condition 4: a transfer refusal. -/
def State.transferRefuses (s : State) (rx : RxPacket) : Bool :=
  s.inTransfer
  && (decide (rx.cls = 2)
      || (decide (rx.cls = 0)
          && (match rx.kind? with
              | some k => !k.isJoinKind
              | none => true)))

/-- R25, condition 5. -/
def State.freezesNext (s : State) (rx : RxPacket) : Bool :=
  !s.mb.joinQueue.isEmpty && idIn rx.sender s.mb.roster && idIn rx.sender s.ep.openClose
  && (match rx.kind? with
      | some k => k.isUpdate || decide (k = .claim) || decide (k = .release)
      | none => false)

/-- R25, condition 6. -/
def State.freezesClose (s : State) (rx : RxPacket) : Bool :=
  !s.mb.joinQueue.isEmpty && decide (rx.kind? = some .close)
  && idIn rx.sender s.mb.roster && idIn rx.sender s.ep.openClose
  && (s.ep.entriesOf rx.sender .nextE).isEmpty

/-- R25: a member refuses on any of the six conditions; the joiner in JOINING on the first alone. DESIGN CHOICE (notes/assumptions/51.md): an evaluator by
its role (R12) that has left JOINING since the start condition, by a GO-OFFLINE while it sends its JOIN-DONE (R22), decides as the joiner does; R25 gives a
decision for members and for the joiner in JOINING only. -/
def State.admission (s : State) (rx : RxPacket) : Admission :=
  if s.isMember then
    ⟨rx.damaged || rx.outOfCatalogue || s.overfills rx || s.transferRefuses rx || s.freezesNext rx || s.freezesClose rx,
     s.transferRefuses rx⟩
  else ⟨rx.damaged, false⟩

/-! ### Host commands (R161, R166) -/

/-- R161: the mode test of the commands that give the group work. -/
def State.groupWork (s : State) : Option Status :=
  if !s.isMember then some .notMember else if s.mb.leaveRequested then some .leaving else none

/-- The tag the host's batch holds, in OPEN or BROKEN. -/
def BatchState.tag? : BatchState → Option Byte
  | .none => Option.none
  | .opened t _ => some t
  | .broken t _ => some t

/-- R166: a tag is in use while the host's batch, a batch record, or a staged entry of this station bears it. -/
def State.tagInUse (s : State) (tag : Byte) : Bool :=
  decide (s.host.batch.tag? = some tag)
  || (s.tx.batches.any fun b => decide (b.tag = tag))
  || (s.ep.staging.any fun e => decide (e.sender = s.stationId) && decide (e.tag = some tag))

/-- R166: the tags in the order the port looks at them, from the next-tag counter, from 15 round to 0. -/
def tagsFrom (next : BitVec 4) : List (BitVec 4) := (List.range 16).map fun i => next + BitVec.ofNat 4 i

/-- R166: the first tag not in use. -/
def State.freeTag (s : State) : Option (BitVec 4) :=
  (tagsFrom s.host.nextTag).find? fun t => !s.tagInUse (t.setWidth 8)

/-- R29: the queue holds fewer than 48 packets. -/
def State.queueHasRoom (s : State) : Bool := decide (s.tx.queue.length < Config.queueRoom)

/-- R101: the pane is OWNED with the station as owner. -/
def ownedBy (p : Pane) (i : StationId) : Bool :=
  match p.control with
  | .owned o _ => decide (o = i)
  | _ => false

/-- The pane of an id. -/
def State.pane (s : State) (i : Fin 32) : Pane := s.panes[i.val]

/-! ### The raster (R138 to R144) -/

/-- Whether the raster is in a vertical phase. -/
def State.inPhase (s : State) (p : Phase) : Bool := decide (s.raster.phase = some p)

/-- R145: the canvas is composited in LOCKED and FREE_RUN. -/
def Raster.composites (r : Raster) : Bool := decide (r.sync = .locked) || decide (r.sync = .freeRun)

/-- R140: whether a change to FOLLOWING now falls within a line of ACTIVE that shows the canvas, or one did before in it. -/
def Raster.cutsLine (r : Raster) : Bool := r.lineRest || (r.composites && decide (r.phase = some .active))

/-- R142: the frame interval floor is met, or no rise was read since the raster last started. -/
def State.floorMet (s : State) (sinceRiseUs : Nat) : Bool :=
  !s.raster.riseRead || decide (Config.frameFloorUs ≤ sinceRiseUs)

/-- R141, R142, R144: the sync state waits for a TLF rise in HOLD. DESIGN CHOICE (notes/assumptions/46.md): a rise within the line in which a
FOLLOWING station's wait reached 100 ms still ends HOLD at the rise. -/
def State.waitsForRise (s : State) : Bool :=
  s.inPhase .hold && !s.ep.passRunning
  && (decide (s.raster.sync = .following) || (decide (s.raster.sync = .locked) && !s.raster.holding))

end Sys2Proof.Machine
end

