-- ==== Sys2Proof/Machine/Ops.lean ====
section
/-! DEFINITION. The named operations over the state: events, the vote and interrupt outputs, cells, panes and extents,
the transmit queue and its batches, the link's packet, membership entry and removal. -/

namespace Sys2Proof.Machine

/-- Every command completes. -/
abbrev Result := Host.Outcome State Fault Refusal

/-! ### Events (R173, R175) and the vote (R55, R56) -/

/-- R173: an event posted with a given open epoch number: appended while the queue holds fewer than 32 records, dropped
and counted otherwise, the count stopping at 255. IRQn is re-evaluated as a record is appended (R175). -/
def State.postAt (s : State) (epoch : Half) (kind : EventKind) (arg1 : Byte) (arg2 arg3 : Half) : State :=
  if s.host.events.length < Config.eventRoom then
    { s with
      host := { s.host with events := s.host.events ++ [⟨kind, epoch, arg1, arg2, arg3⟩] }
      pins := { s.pins with irqnLow := s.raster.irqEnabled } }
  else { s with host := { s.host with lost := min Config.countStop (s.host.lost + 1) } }

/-- R173: an event posted with the open epoch number at this instant. -/
def State.post (s : State) (kind : EventKind) (arg1 : Byte) (arg2 arg3 : Half) : State :=
  s.postAt s.ep.openNum kind arg1 arg2 arg3

/-- Events of one kind with one argument each, in order, all stamped alike. -/
def State.postEach (s : State) (epoch : Half) (kind : EventKind) (args : List Byte) : State :=
  args.foldl (fun s a => s.postAt epoch kind a 0 0) s

/-- R55, R56: the TLV driver re-evaluated. -/
def State.revote (s : State) : State := { s with pins := { s.pins with tlvLow := s.voteLow } }

/-- R175: IRQn re-evaluated. -/
def State.reirq (s : State) : State := { s with pins := { s.pins with irqnLow := s.irqWanted } }

/-- The open epoch number carried by the records of a removal (notes/assumptions/5.md). -/
def State.removalStamp (s : State) : Half := if Config.stampAfterClear then epochsCleared.openNum else s.ep.openNum

/-! ### Panes and extents -/

/-- One pane record replaced. -/
def State.setPane (s : State) (i : Fin 32) (p : Pane) : State := { s with panes := s.panes.set i.val p }

/-- A pane's control fields replaced. -/
def State.setControl (s : State) (i : Fin 32) (c : Control) : State := s.setPane i { s.pane i with control := c }

/-- A pane's display fields replaced. -/
def State.setDisplay (s : State) (i : Fin 32) (d : Display) : State := s.setPane i { s.pane i with display := d }

/-- R122: first fit. The first free extent that holds the count gives its lowest granules; the answer is the base given
and the list that remains. -/
def firstFit (n : Nat) : List Extent → Option (Nat × List Extent)
  | [] => none
  | e :: t =>
    if n ≤ e.size then some (e.base, if e.size = n then t else ⟨e.base + n, e.size - n⟩ :: t)
    else (firstFit n t).map fun r => (r.1, e :: r.2)

/-- R123, step 3: an extent at the head of a list merged with the one after it when they touch. -/
def mergeAfter (e : Extent) : List Extent → List Extent
  | [] => [e]
  | f :: t => if f.base = e.base + e.size then ⟨e.base, e.size + f.size⟩ :: t else e :: f :: t

/-- R123: an extent returned to the free-extent list: placed in base order, merged with the extent before it when that
ends at its base, and with the extent after it when that begins at its end. -/
def returnExtent (x : Extent) : List Extent → List Extent
  | [] => [x]
  | e :: t =>
    if x.base < e.base then mergeAfter x (e :: t)
    else if e.base + e.size = x.base then mergeAfter ⟨e.base, e.size + x.size⟩ t
    else e :: returnExtent x t

/-- R87, R156: colours written into a bank from an entry upward, the i-th to entry first + i. -/
def writeColours (bank : Vector Colour 16) (first : Nat) (cs : List Colour) : Vector Colour 16 :=
  Vector.ofFn fun i : Fin 16 => if first ≤ i.val then cs.getD (i.val - first) bank[i.val] else bank[i.val]

/-- Colours written into one of the banks 1–3, the bank given by its number. -/
def State.writePalette (s : State) (bank : Byte) (first : Nat) (cs : List Colour) : State :=
  let j : Fin 3 := ⟨(bank.toNat + 2) % 3, Nat.mod_lt _ (by decide)⟩
  { s with palettes := s.palettes.set j.val (writeColours s.palettes[j.val] first cs) }

/-! ### Batches and the transmit queue -/

/-- Every batch tag, ascending. -/
def allTags : List Byte := (List.range 16).map (BitVec.ofNat 8)

/-- The tags of the batch records with a property, ascending (R95; notes/assumptions/9.md). -/
def State.tagsWhere (s : State) (p : BatchRecord → Bool) : List Byte :=
  allTags.filter fun t => s.tx.batches.any fun b => decide (b.tag = t) && p b

/-- R29: a request appended with a refusal count of 0. -/
def State.enqueue (s : State) (r : Request) : State :=
  { s with tx := { s.tx with queue := s.tx.queue ++ [⟨r, 0⟩] } }

/-- Whether the attempt in progress is of the queue's head and that head has a property. -/
def State.headAttempted (s : State) (p : Queued → Bool) : Bool :=
  match s.tx.attempt, s.tx.queue with
  | some a, q :: _ => decide (a.cand = .queueHead) && p q
  | _, _ => false

/-- The attempt in progress, no longer held by the Transmitter: its outcome has no further effect (R40), but for the taking of an update whose batch was
broken in its attempt (`State.noteTaken`). -/
def Transmitter.dropAttempt (t : Transmitter) : Transmitter :=
  { t with attempt := t.attempt.map fun a => { a with live := false } }

/-- Packets removed from the queue; those behind them keep their order. A packet removed while its attempt is in progress
is no longer held. -/
def State.removeQueued (s : State) (p : Queued → Bool) : State :=
  let t := if s.headAttempted p then s.tx.dropAttempt else s.tx
  { s with tx := { t with queue := t.queue.filter fun q => !p q } }

/-- R42: a queued JOIN withdrawn. -/
def State.withdrawJoin (s : State) : State := s.removeQueued fun q => decide (q.request = .join)

/-- R42: a queued FOUND withdrawn. -/
def State.withdrawFound (s : State) : State := s.removeQueued fun q => decide (q.request = .found)

/-- R30: a record with no entries in OPEN or NEXT and no queued packets is dropped when its batch is no longer
unfinished. -/
def State.tidyBatches (s : State) : State :=
  let keep (b : BatchRecord) : Bool :=
    s.tx.unfinished b || s.ep.batchIn s.stationId b.tag .openE || s.ep.batchIn s.stationId b.tag .nextE
  { s with tx := { s.tx with batches := s.tx.batches.filter keep } }

/-- A batch record dropped. -/
def State.dropRecord (s : State) (tag : Byte) : State :=
  { s with tx := { s.tx with batches := s.tx.batches.filter fun b => decide (b.tag ≠ tag) } }

/-- A batch record changed. -/
def State.changeRecord (s : State) (tag : Byte) (f : BatchRecord → BatchRecord) : State :=
  { s with tx := { s.tx with batches := s.tx.batches.map fun b => if b.tag = tag then f b else b } }

/-- R36: whether any update of a batch has been taken and not void. -/
def State.batchTaken (s : State) (tag : Byte) : Bool :=
  s.tx.batches.any fun b => decide (b.tag = tag) && b.anyTaken

/-- R169: the host's open batch becomes BROKEN when it is broken. -/
def BatchState.breakTag (tag : Byte) : BatchState → BatchState
  | .opened t n => if t = tag then .broken t n else .opened t n
  | b => b

/-- R31, R36: a RETRACT raised for a broken batch, behind those already pending. -/
def State.raiseRetract (s : State) (tag : Byte) : State := { s with tx := { s.tx with retracts := s.tx.retracts ++ [⟨tag, 0⟩] } }

/-- R36: a batch broken: its queued packets removed, a RETRACT raised if any update was taken and not void (its record then
marked broken, and dropped otherwise; for an update still in its attempt see `State.noteTaken`), BATCH_BROKEN posted, and the host's open batch closed (R169). -/
def State.breakBatch (s : State) (tag : Byte) : State :=
  let s := s.removeQueued fun q => decide (q.request.tag? = some tag)
  let s := if s.batchTaken tag then
      (s.changeRecord tag fun b => { b with broken := true }).raiseRetract tag
    else s.dropRecord tag
  let s := s.post .batchBroken tag 0 0
  { s with host := { s.host with batch := s.host.batch.breakTag tag } }

/-- R39: the batch records that held packets in the queue or entries in OPEN or NEXT. -/
def State.purgedTags (s : State) : List Byte :=
  s.tagsWhere fun b => s.tx.queuedInBatch b.tag || s.ep.batchIn s.stationId b.tag .openE
    || s.ep.batchIn s.stationId b.tag .nextE

/-- R39, R40: the Transmitter purged: queue, internal packets, refusal counts and records gone; an attempt in progress
finishes but is no longer held. -/
def State.purge (s : State) : State :=
  { s with tx := { transmitterEmpty with attempt := s.tx.dropAttempt.attempt } }

/-! ### The link's packet -/

/-- R6, R7, R12, R17: a packet begins, with TLD low: the role is fixed, the slot is not yet sampled, the receive buffer is empty, the fair-wait flag is clear,
and the free-bus timer is back at zero. -/
def State.beginPacket (s : State) (st : LinkState) : State :=
  { s with
    link := { s.link with
      state := st, role := some s.roleNow, slot := .pending, decision := none, rx := none, fairWait := false,
      freeBus := 0 } }

/-- TLD and TLC released. -/
def State.releaseLink (s : State) : State := { s with pins := { s.pins with tldLow := false, tlcLow := false } }

/-- The link disconnected at once (R22): drivers released, role, buffer and any deferred rise dropped, fair wait clear. -/
def State.disconnectNow (s : State) : State :=
  let s := s.releaseLink
  { s with link := { linkReset with rate := s.link.rate } }

/-- R22: the Membership Unit enters OFFLINE: TRANSMITTING first finishes its attempt, every other state disconnects at
once. Going offline clears the fair-wait flag (R17). -/
def State.disconnect (s : State) : State :=
  if s.sending then { s with link := { s.link with disconnect := .wanted, fairWait := false } } else s.disconnectNow

/-- R22: GO-ONLINE: a wanted disconnection is cancelled, and a disconnected link enters WAIT_FREE with its timer at zero;
the configured bit rate acts from here (R162). -/
def State.connect (s : State) (rate : Option LinkRate) : State :=
  if s.sending then { s with link := { s.link with disconnect := .cancelled, fairWait := false, rate := rate } }
  else { s with link := { linkReset with state := .waitFree, rate := rate } }

/-- R85: the number of SNAP-FREE chunks of a free-extent list. -/
def chunkCount (fl : List Extent) : Nat := if fl.isEmpty then 1 else (fl.length + 6) / 7

/-- R85: the snapshot position after a snapshot packet is taken. -/
def SnapPos.advance (fl : List Extent) : SnapPos → Option SnapPos
  | .head => some (.pane 0)
  | .pane i => some (if i < 31 then .pane (i + 1) else .free 0)
  | .free c => some (if c + 1 < chunkCount fl then .free (c + 1) else .palette 0)
  | .palette j => some (if j < 5 then .palette (j + 1) else .cells 0)
  | .cells k => some (if k < 546 then .cells (k + 1) else .tail)
  | .tail => none

/-- One more counted refusal of the attempted packet (R35). DESIGN CHOICE (notes/assumptions/44.md): the attempt of a CLOSE that has stopped
being due since it began adds to the count kept for its epoch number (R31, R51). -/
def State.countRefusal (s : State) : State :=
  match s.tx.attempt with
  | some a =>
    if !a.live then s else
    match a.cand with
    | .queueHead =>
      match s.tx.queue with
      | q :: t => { s with tx := { s.tx with queue := { q with refusals := q.refusals + 1 } :: t } }
      | [] => s
    | .retract =>
      match s.tx.retracts with
      | r :: t => { s with tx := { s.tx with retracts := { r with refusals := r.refusals + 1 } :: t } }
      | [] => s
    | .joinDeny =>
      match s.tx.denials with
      | d :: t => { s with tx := { s.tx with denials := { d with refusals := d.refusals + 1 } :: t } }
      | [] => s
    | .joinDone => { s with tx := { s.tx with joinDone := s.tx.joinDone.map fun d => { d with refusals := d.refusals + 1 } } }
    | .close n =>
      if n = s.ep.openNum then { s with tx := { s.tx with closeOpen := s.tx.closeOpen + 1 } }
      else { s with tx := { s.tx with closeNext := s.tx.closeNext + 1 } }
    | .snapshot => { s with tx := { s.tx with snapRefusals := s.tx.snapRefusals + 1 } }
  | none => s

/-- The attempt is over and has been reported. -/
def State.endAttempt (s : State) : State := { s with tx := { s.tx with attempt := none } }

/-- R35: an attempt reported taken: the packet leaves the queue, or the internal packet is cleared; a taken RETRACT drops
its batch's record (R36); a taken snapshot packet advances the snapshot position (R85). -/
def State.reportTaken (s : State) : State :=
  (match s.tx.attempt with
   | some a =>
     if !a.live then s else
     match a.cand with
     | .queueHead => { s with tx := { s.tx with queue := s.tx.queue.tail } }
     | .retract =>
       match s.tx.retracts with
       | r :: t => ({ s with tx := { s.tx with retracts := t } } : State).dropRecord r.tag
       | [] => s
     | .joinDeny => { s with tx := { s.tx with denials := s.tx.denials.tail } }
     | .joinDone => { s with tx := { s.tx with joinDone := none } }
     | .close _ => s
     | .snapshot =>
       { s with
         mb := { s.mb with snapPos := s.mb.snapPos.bind (SnapPos.advance s.store.freeList) }
         tx := { s.tx with snapRefusals := 0 } }
   | none => s).tidyBatches.endAttempt

/-- R14, R35: an attempt reported refused, counted unless it was a transfer refusal: the sender is a member and its own
decision was to refuse under condition 4 of R25. -/
def State.reportRefused (s : State) : State :=
  let transfer :=
    match s.link.decision with
    | some d => s.isMember && d.refuse && d.transfer
    | none => false
  (if transfer then s else s.countRefusal).endAttempt

/-- R16, R9: a packet ends, by its stop, a break or abandonment: a sender before the refusal slot reports a time-out (R9,
R35); drivers released; WAIT_FREE with the free-bus timer as given, or DISCONNECTED if a disconnection waits (R22). DESIGN CHOICE
(notes/assumptions/36.md): an abandonment before the refusal slot is reported, and counted, as a break is; R16 calls the packet not
taken and gives the sender no report, and R35 names a time-out and a break only. -/
def State.endPacket (s : State) (freeBus : Nat) : State :=
  let s := if s.sending && decide (s.link.slot = .pending) then s.countRefusal else s
  let s := s.endAttempt.releaseLink
  match s.link.disconnect with
  | .wanted => s.disconnectNow
  | d => { s with link := { s.link with
      state := .waitFree, fairWait := s.link.fairWait && decide (d = .no), freeBus := freeBus, role := none, slot := .pending,
      decision := none, rx := none, disconnect := .no } }

/-- R13, R14: the instant of taking: TLC has risen and TLD is high, so this station drives neither; the packet is delivered, and a
sender reports it taken and sets its fair-wait flag. Nothing happens where the slot cannot pass (notes/assumptions/1.md). -/
def State.taking (s : State) (deliver : State → State) : State :=
  if s.slotMayPass then
    let s1 := deliver { s.releaseLink with link := { s.link with slot := .taken } }
    if s.sending then
      let s2 := s1.reportTaken
      { s2 with link := { s2.link with fairWait := decide (s2.link.disconnect = .no) } }
    else s1
  else s

/-- R13, R14, R15: TLD is low at the refusal slot: no station takes the packet, and a sender reports a refusal. An observer drives
neither line there; an evaluator's TLD field stays as its hold point left it. Its release at the TLC fall before the stop (R16) is in
`State.drive`. -/
def State.refused (s : State) : State :=
  if s.slotOpen then
    let s1 := if s.sending then s.reportRefused else s
    let s1 := if s.link.role = some .observer then s1.releaseLink else s1
    { s1 with link := { s1.link with slot := .refused } }
  else s

/-! ### Entering membership states -/

/-- R71, R74: LISTENING entered: the listen interval restarts at 500 ms and the group-seen flag is cleared. -/
def State.enterListening (s : State) : State :=
  { s with mb := { s.mb with
      state := .listening, listenTimer := some Config.listenMs, requestTimer := none, groupSeen := false,
      foundBegun := false } }

/-- R74, R76, R79: REQUESTING entered: the request timer starts at 2000 ms and the rise-seen flag is cleared (R73). -/
def State.enterRequesting (s : State) : State :=
  { s with mb := { s.mb with
      state := .requesting, listenTimer := none, requestTimer := some Config.requestMs, riseSeen := false,
      foundBegun := false } }

/-- R73 to R75: evidence of a group. LISTENING asks to join; FOUNDING withdraws a FOUND whose first attempt has not begun and
asks to join; otherwise the group-seen flag is set. A rise seen in REQUESTING sets the rise-seen flag. -/
def State.evidence (s : State) (rise : Bool) : State :=
  let seen (s : State) : State := { s with mb := { s.mb with groupSeen := true } }
  match s.mb.state with
  | .listening => (seen s).enqueue .join |>.enterRequesting
  | .founding => if s.mb.foundBegun then seen s else (seen s.withdrawFound).enqueue .join |>.enterRequesting
  | .requesting =>
    let s := seen s
    if rise then { s with mb := { s.mb with riseSeen := true } } else s
  | _ => s

/-! ### Clearing and removal (R94, R95) -/

/-- R44, R100, R121, R154: the Epoch Unit, Pane Table, Cell Store and banks 1–3 cleared. -/
def State.clearShared (s : State) : State :=
  { s with ep := epochsCleared, panes := panesCleared, store := storeCleared, palettes := palettesCleared }

/-- R140: the removal's part of the Raster Engine: FOLLOWING from LOCKED or FREE_RUN, TLF released; a line of ACTIVE in progress is
marked as cut. -/
def State.unlock (s : State) : State :=
  { s with
    raster := { s.raster with
      sync := if s.raster.sync = .locked ∨ s.raster.sync = .freeRun then .following else s.raster.sync
      lineRest := s.raster.cutsLine
      holding := false
      pulled := false }
    pins := { s.pins with tlfLow := false } }

/-- R95: the panes this station owns, or is releasing: its RELEASE entry stands in OPEN or NEXT. -/
def State.ownPanes (s : State) : List Byte :=
  ((List.finRange 32).filter fun i =>
    match (s.pane i).control with
    | .owned o _ => decide (o = s.stationId)
    | .releasing _ => s.ep.staging.any fun e =>
        e.gathering && decide (e.sender = s.stationId) &&
          (match e.op with | .release p => decide (paneIx p = i) | _ => false)
    | _ => false).map fun i => byte i.val

/-- R94: a station's own removal from the group, or a joiner's leaving JOINING other than to MEMBER: the cause is posted, then,
at a member, BATCH_BROKEN and PANE_ORPHANED as R95 orders them; the Transmitter is purged, the host's batch discarded, the
shared state cleared, the raster unlocked, and the next state entered. -/
def State.removeSelf (s : State) (cause : EventKind) (arg : Byte) (offline : Bool) : State :=
  let stamp := s.removalStamp
  let member := s.isMember
  let tags := s.purgedTags
  let own := s.ownPanes
  let s := s.postAt stamp cause arg 0 0
  let s := if member then (s.postEach stamp .batchBroken tags).postEach stamp .paneOrphaned own else s
  let s := { s.purge.clearShared.unlock with
    mb := membershipCleared .offline
    host := { s.host with batch := .none } }
  let s := if offline then s.disconnect else s.enterListening
  s.revote

/-- R67, R93, R109: another member's removal: its id leaves the roster and both close sets, its OPEN and NEXT entries are
discarded, its panes become orphans; a member posts the event. -/
def State.removeOther (s : State) (i : StationId) (ev : EventKind) : State :=
  let gone (e : Entry) : Bool := e.gathering && decide (e.sender = i)
  let lostRelease (k : Fin 32) : Bool := s.ep.staging.any fun e =>
    gone e && (match e.op with | .release p => decide (paneIx p = k) | _ => false)
  let panes := Vector.ofFn fun k : Fin 32 =>
    let p := s.pane k
    match p.control with
    | .owned o e => if o = i then { p with control := .orphan e } else p
    | .releasing e => if lostRelease k then { p with control := .orphan e } else p
    | _ => p
  let s := { s with
    mb := { s.mb with roster := idDrop i s.mb.roster }
    ep := { s.ep with
      openClose := idDrop i s.ep.openClose
      nextClose := idDrop i s.ep.nextClose
      staging := s.ep.staging.filter fun e => !gone e }
    panes := panes }
  (if s.isMember then s.post ev (idByte i) 0 0 else s).revote

/-! ### Responses (R158, R159) -/

/-- R159: a command evaluated at the completion of its last parameter byte: the checks and effect `f`, and the response
formed at the same instant: status, then data. Outside a transaction whose command byte and parameters are being taken, no
command is evaluated (R158). -/
def State.evaluate (s : State) (paramBytes : Nat) (f : State → State × Status × List Byte) : State :=
  if s.host.spi = .command then
    let r := f s
    { r.1 with host := { r.1.host with
        spi := .response, bitCount := 8 * (1 + paramBytes), response := r.2.1.code :: r.2.2 } }
  else s

end Sys2Proof.Machine
end

