-- ==== Sys2Proof/Machine/CellStore.lean ====
section
/-! DEFINITION. The apply pass (R64): what each APPLYING entry writes into cells, pane display fields and palette banks. A row acts
when the entry that stands next in the running pass is of its kind; otherwise the event cannot occur and the state stays as it is
(notes/assumptions/1.md). -/

namespace Sys2Proof.Machine

/-- The operation of the entry the running pass takes next (R64). -/
def State.nextOp (s : State) : Option EntryOp := s.ep.nextToApply.map Entry.op

/-- R64: one more entry applied. -/
def State.advancePass (s : State) : State := { s with ep := { s.ep with passDone := s.ep.passDone + 1 } }

/-- The Cell Store's cells replaced. -/
def State.setCells (s : State) (m : Memory) : State := { s with store := { s.store with cells := m } }

/-- The display fields of the pane a byte names. -/
def State.displayOf (s : State) (pane : Byte) : Display := (s.pane (paneIx pane)).display

/-! ### The extent grid (R126) -/

/-- R126: P columns. -/
def Display.gridCols (d : Display) : Nat := d.pitch.toNat

/-- R126: R rows, 16S divided by P and rounded down. -/
def gridRows (e : Extent) (pitch : Nat) : Nat := 16 * e.size / pitch

/-- R126: the offset of the cell at a grid row and column. -/
def gridCell (e : Extent) (pitch row col : Nat) : Nat := 16 * e.base + row * pitch + col

/-- Every (row, column) of a rectangle of `n` rows and `m` columns. -/
def rectangle (n m : Nat) : List (Nat × Nat) := (List.range n).flatMap fun i => (List.range m).map fun j => (i, j)

/-! ### The cell writes (R127, R129, R131, R132, R134) -/

/-- R127: every cell of an extent back at the blank cell. -/
def clearExtent (m : Memory) (e : Extent) : Memory := Memory.clearRange m (32 * e.base) (32 * (e.base + e.size))

/-- R129: the carried cells that fit the extent, from the offset upward; those at 16S or more are dropped. -/
def putInto (m : Memory) (e : Extent) (a : PutCellsArgs) : Memory :=
  writeCells m (16 * e.base + a.offset.toNat) (a.cells.take (16 * e.size - a.offset.toNat))

/-- R132: the combined attribute, before the mask. -/
def combine (fn old given : Byte) : Byte :=
  if fn = 0 then given else if fn = 1 then old &&& given else if fn = 2 then old ||| given else old ^^^ given

/-- R132: one cell acted on by a FILL. -/
def fillCell (a : FillArgs) (c : Cell) : Cell where
  char := if a.charWrite = 1 then a.char else c.char
  attr := (combine a.fn c.attr a.attr &&& a.mask) ||| (c.attr &&& ~~~a.mask)

/-- R131: the cells a FILL acts on, clipped to the grid. -/
def fillCells (e : Extent) (pitch : Nat) (a : FillArgs) : List Nat :=
  let rows := min (a.top.toNat + a.rows.toNat) (gridRows e pitch) - a.top.toNat
  let cols := min (a.left.toNat + a.cols.toNat) pitch - a.left.toNat
  (rectangle rows cols).map fun p => gridCell e pitch (a.top.toNat + p.1) (a.left.toNat + p.2)

/-- R131, R132: a FILL's writes. -/
def fillInto (m : Memory) (e : Extent) (pitch : Nat) (a : FillArgs) : Memory :=
  (fillCells e pitch a).foldl (fun m o => writeCell m o (fillCell a (readCell m o))) m

/-- R134: the (source, destination) pairs of a COPY, clipped to the grid. -/
def copyPairs (e : Extent) (pitch : Nat) (a : CopyArgs) : List (Nat × Nat) :=
  let r := gridRows e pitch
  let rows := min a.rows.toNat (min (r - a.srcRow.toNat) (r - a.dstRow.toNat))
  let cols := min a.cols.toNat (min (pitch - a.srcCol.toNat) (pitch - a.dstCol.toNat))
  (rectangle rows cols).map fun p =>
    (gridCell e pitch (a.srcRow.toNat + p.1) (a.srcCol.toNat + p.2),
     gridCell e pitch (a.dstRow.toNat + p.1) (a.dstCol.toNat + p.2))

/-- R134: a COPY through a temporary copy: every source cell is read before the first destination cell is written. -/
def copyInto (m : Memory) (e : Extent) (pitch : Nat) (a : CopyArgs) : Memory :=
  let temp := (copyPairs e pitch a).map fun p => (p.2, readCell m p.1)
  temp.foldl (fun m p => writeCell m p.1 p.2) m

/-! ### The rows -/

/-- R125: a cell entry acts through the pane's display extent as it stands; an absent one writes no cell. -/
def State.cellEntry (s : State) (pane : Byte) (write : Memory → Extent → Nat → Memory) : Result :=
  match (s.displayOf pane).ext with
  | some e =>
    if e.inStore then .next (s.setCells (write s.store.cells e (s.displayOf pane).gridCols)).advancePass
    else .fault .outsideCellStore
  | none => .next s.advancePass

/-- R114, R127: APPLY_CLEAR. -/
def execApplyClear (s : State) : Result :=
  match s.nextOp with
  | some (.clear p e) =>
    if e.inStore then
      .next ((s.setCells (clearExtent s.store.cells e)).setDisplay (paneIx p) { displayDefaults with ext := some e }).advancePass
    else .fault .outsideCellStore
  | _ => .next s

/-- R129: APPLY_PUT_CELLS. -/
def execApplyPutCells (s : State) : Result :=
  match s.nextOp with
  | some (.update (.putCells a)) => s.cellEntry a.pane fun m e _ => putInto m e a
  | _ => .next s

/-- R131, R132: APPLY_FILL. -/
def execApplyFill (s : State) : Result :=
  match s.nextOp with
  | some (.update (.fill a)) => s.cellEntry a.pane fun m e pitch => fillInto m e pitch a
  | _ => .next s

/-- R134: APPLY_COPY. -/
def execApplyCopy (s : State) : Result :=
  match s.nextOp with
  | some (.update (.copy a)) => s.cellEntry a.pane fun m e pitch => copyInto m e pitch a
  | _ => .next s

/-- R113: APPLY_SET_PANE. -/
def execApplySetPane (s : State) : Result :=
  match s.nextOp with
  | some (.update (.setPane a)) => .next (s.setDisplay (paneIx a.pane) (applyFields a (s.displayOf a.pane))).advancePass
  | _ => .next s

/-- R156: APPLY_SET_PALETTE. -/
def execApplySetPalette (s : State) : Result :=
  match s.nextOp with
  | some (.update (.setPalette a)) => .next (s.writePalette a.bank a.first.toNat a.colours).advancePass
  | _ => .next s

/-- R115: APPLY_RELEASE. -/
def execApplyRelease (s : State) : Result :=
  match s.nextOp with
  | some (.release p) => .next (s.setDisplay (paneIx p) displayDefaults).advancePass
  | _ => .next s

end Sys2Proof.Machine
end

