-- ==== Sys2Proof/Machine/Delivery.lean ====
section
/-! DEFINITION. The delivery of a taken packet (R26, R27, R28, R47, R96) and its handing to an observer's Membership Unit
(R15): what the meanings of the ..._TAKEN commands share. -/

namespace Sys2Proof.Machine

/-- R96: a member that takes a packet void FOREIGN posts FOREIGN_TRAFFIC when its foreign-report count is 16, and sets the
count to 0. -/
def State.foreign (s : State) (sender : StationId) (k : Kind) : State :=
  if s.isMember ∧ Config.foreignLimit ≤ s.mb.foreignCount then
    let s := s.post .foreignTraffic (idByte sender) (k.code.1.setWidth 16) (k.code.2.setWidth 16)
    { s with mb := { s.mb with foreignCount := 0 } }
  else s

/-- R27: the epoch a tagged packet is attributed to; none: void STALE. -/
def State.attribute (s : State) (sender : StationId) (tag : Half) : Option EpochClass :=
  match s.ep.current sender with
  | some c => if tag = s.ep.numberOf c then some c else none
  | none => none

/-- R28: an event of a void packet, at the sender alone. -/
def State.voidEvent (s : State) (sender : StationId) (ev : EventKind) (r : Reason) (arg2 arg3 : Half) : State :=
  if s.isMember ∧ s.sentHere sender then s.post ev r.code arg2 arg3 else s

/-- R47: an entry appended in its attributed epoch. -/
def State.stage (s : State) (c : EpochClass) (sender : StationId) (tag : Option Byte) (op : EntryOp) : State :=
  { s with ep := { s.ep with staging := s.ep.staging ++ [⟨c, sender, tag, op⟩] } }

/-- R26, R101, R112, R128, R130, R133, R155: the delivery checks of an UPDATE packet, in order. -/
def State.updateCheck (s : State) (sender : StationId) (u : TaggedUpdate) : Except Reason EpochClass :=
  if !idIn sender s.mb.roster then .error .foreign
  else
    match s.attribute sender u.epochTag with
    | none => .error .stale
    | some c =>
      if !u.update.inRange then .error .range
      else
        match u.update.pane? with
        | some p => if ownedBy (s.pane (paneIx p)) sender then .ok c else .error .notOwner
        | none => .ok c

/-- Whether the attempt in progress is of a packet that the Transmitter no longer holds. -/
def State.attemptDropped (s : State) : Bool := s.tx.attempt.any fun a => !a.live

/-- R30, R35, R36: at its sender, an update taken and not void is noted in its batch's record. DEDUCED (notes/assumptions/53.md): where the batch was broken
while the update was in its attempt, with no update taken before, no RETRACT is pending for it; one is raised now, and the record of the batch,
which has an entry from here on, stands as broken until it is taken. -/
def State.noteTaken (s : State) (tag : Byte) : State :=
  if s.attemptDropped && !(s.tx.retracts.any fun r => decide (r.tag = tag)) then
    let s := s.dropRecord tag
    ({ s with tx := { s.tx with batches := s.tx.batches ++ [⟨tag, true, true, true⟩] } } : State).raiseRetract tag
  else s.changeRecord tag fun b => { b with anyTaken := true }

/-- R26, R28, R35, R47: an UPDATE packet delivered: void with its event, or staged; at the sender the batch record notes a taken
update. A payload outside the kind's allowance has no effect (notes/assumptions/12.md). -/
def State.deliverUpdate (s : State) (k : Kind) (sender : StationId) (payload : List Byte) : State :=
  match readUpdate k payload with
  | none => s
  | some u =>
    match s.updateCheck sender u with
    | .error .foreign => s.foreign sender k
    | .error r => s.voidEvent sender .updateVoid r (u.batchTag.setWidth 16) (k.code.2.setWidth 16)
    | .ok c =>
      let s := s.stage c sender (some u.batchTag) (.update u.update)
      if s.sentHere sender then s.noteTaken u.batchTag else s

/-! ### What an observer hears (R15, R73, R76, R82, R86) -/

/-- R77: the station founds a group and is its first member. A rise sampled high inside its FOUND is no rise of the group's, whose first
commit comes at the first rise after the founder's CLOSE: that sample is dropped (DEDUCED, notes/assumptions/18.md). -/
def State.foundGroup (s : State) : State :=
  let s := s.clearShared
  let s := { s with
    link := { s.link with riseSample := if s.link.riseSample = some true then none else s.link.riseSample }
    mb := { membershipCleared .member with roster := idSet s.stationId }
    store := ⟨[], [⟨0, Config.granules⟩]⟩ }
  (s.post .founded 0 0 0).revote

/-- R76: a station's own FOUND, found received: FOUNDING founds a group or, with the group-seen flag set, asks to join; in any
other state it has no effect (R78). DEDUCED (notes/assumptions/37.md): no JOIN is appended there, since the members have treated the FOUND
as one (R76), although R29 has a JOIN appended on entering REQUESTING. -/
def State.ownFound (s : State) : State :=
  if s.mb.state = .founding then (if s.mb.groupSeen then s.enterRequesting else s.foundGroup) else s

/-- R76, R15: a station's own FOUND reported taken but not found received: FOUNDING returns to LISTENING. -/
def State.ownFoundLost (s : State) : State := if s.mb.state = .founding then s.enterListening else s

/-- R82: a JOIN-DENY that names this station, in REQUESTING. DESIGN CHOICE (notes/assumptions/43.md): one whose length is out of its
allowance (R180) has no effect here, although R15 counts it as received; for a reason byte above 2 see notes/assumptions/39.md. -/
def State.hearDenial (s : State) (payload : List Byte) : State :=
  match readJoinDeny payload with
  | some (t, r) =>
    if s.mb.state = .requesting ∧ t = idByte s.stationId then
      ({ s with mb := { s.mb with state := .denied, requestTimer := none } } : State).post .denied r.code 0 0
    else s
  | none => s

/-- R68, R79, R86: a SNAP-HEAD that names this station, in REQUESTING: its JOIN is withdrawn, it enters JOINING and takes its
control state from the packet. DESIGN CHOICE (notes/assumptions/43.md): one whose length is out of its allowance (R180) has no effect here,
although R15 counts it as received; for an id byte above 15 see notes/assumptions/39.md. DESIGN CHOICE (notes/assumptions/50.md): the
group-seen and rise-seen flags are clear in JOINING, where nothing reads them. -/
def State.hearHead (s : State) (sender : StationId) (payload : List Byte) : State :=
  match readSnapHead payload with
  | some h =>
    if s.mb.state = .requesting ∧ h.joiner = idByte s.stationId then
      let s := s.withdrawJoin
      { s with
        mb := { membershipCleared .joining with
          roster := h.roster
          joinQueue := h.joinQueue
          transfer := some ⟨s.stationId, sender, 0, true⟩
          assembly := some ⟨1, 0, false⟩ }
        ep := { epochsCleared with openNum := h.openNum, applied := h.openNum - 1, openClose := h.openClose } }
    else s
  | none => s

/-- R15: a packet an observer received, handed to its Membership Unit. A FOUND or a CLOSE is evidence whatever its payload, and a JOIN-DENY or a
SNAP-HEAD out of its length allowance has no effect: DESIGN CHOICE (notes/assumptions/43.md). -/
def State.observe (s : State) (k : Kind) (sender : StationId) (payload : List Byte) : State :=
  match k with
  | .found => if s.sentHere sender then s.ownFound else s.evidence false
  | .close => s.evidence false
  | .joinDeny => s.hearDenial payload
  | .snapHead => s.hearHead sender payload
  | _ => s

/-- R14, R15: a taken packet handed to the station's own delivery at an evaluator, to the Membership Unit at an observer. DESIGN CHOICE
(notes/assumptions/54.md): an evaluator by its role that is neither a member nor in JOINING any more hands it to neither. -/
def State.take (s : State) (k : Kind) (sender : StationId) (payload : List Byte) (deliver : State → State) : State :=
  s.taking fun s =>
    if s.delivers then deliver s
    else if s.link.role = some .observer then s.observe k sender payload
    else s

/-- R15, R76: the refusal slot passed high at an observer: the packet counts as received when the check matches and the length is
0–32. -/
def State.observeReceipt (s : State) (rx : RxPacket) : State :=
  let ownFound := s.sending && decide (s.tx.attempt.map (fun a => (a.packet.cls, a.packet.kind)) = some Kind.found.code)
  s.taking fun s =>
    let s := { s with link := { s.link with rx := some rx.buffered } }
    if rx.checkOk ∧ rx.lengthOk then
      match rx.kind? with
      | some k => s.observe k rx.sender rx.payload
      | none => s
    else if ownFound then s.ownFoundLost
    else s

/-- R14, R15: OBSERVER_RECEIPT. -/
def execObserverReceipt (slotHigh : Bool) (rx : RxPacket) (s : State) : Result :=
  .next (if s.link.role = some .observer then (if slotHigh then s.observeReceipt rx else s.refused) else s)

end Sys2Proof.Machine
end

