-- ==== Sys2Proof/Machine/Epoch.lean ====
section
/-! DEFINITION. The Epoch Unit's commands (chapter 3): CLOSE_TAKEN, RETRACT_TAKEN, TLF_RISE_EFFECTS, STALL_LIMIT and the end of
the apply pass. -/

namespace Sys2Proof.Machine

/-- R26, R49: a CLOSE delivered: its sender joins the OPEN or NEXT close set by its tag; a tag of an epoch the sender has
already closed has no effect; any other tag is void STALE, which posts nothing (R28). -/
def State.deliverClose (s : State) (sender : StationId) (payload : List Byte) : State :=
  match readClose payload with
  | none => s
  | some tag =>
    if !idIn sender s.mb.roster then s.foreign sender .close
    else if !idIn sender s.ep.openClose then
      if tag = s.ep.openNum then ({ s with ep := { s.ep with openClose := idAdd sender s.ep.openClose } } : State).revote
      else s
    else if tag = s.ep.openNum + 1 ∧ !idIn sender s.ep.nextClose then
      { s with ep := { s.ep with nextClose := idAdd sender s.ep.nextClose } }
    else s

/-- CLOSE_TAKEN. -/
def execCloseTaken (sender : StationId) (payload : List Byte) (s : State) : Result :=
  .next (s.take .close sender payload fun s => s.deliverClose sender payload)

/-- R26, R53: a RETRACT delivered: the sender's entries of that batch tag in the attributed epoch are removed. -/
def State.deliverRetract (s : State) (sender : StationId) (payload : List Byte) : State :=
  match readTaggedByte payload with
  | none => s
  | some (tag, bt) =>
    if !idIn sender s.mb.roster then s.foreign sender .retract
    else
      match s.attribute sender tag with
      | none => s
      | some c =>
        let gone (e : Entry) : Bool := decide (e.sender = sender) && decide (e.tag = some bt) && decide (e.cls = c)
        { s with ep := { s.ep with staging := s.ep.staging.filter fun e => !gone e } }

/-- RETRACT_TAKEN. -/
def execRetractTaken (sender : StationId) (payload : List Byte) (s : State) : Result :=
  .next (s.take .retract sender payload fun s => s.deliverRetract sender payload)

/-! ### The commit decision (R58, R60, R84) -/

/-- R58, steps 1 and 2: an entry's class after a commit decision. -/
def Entry.promote (e : Entry) : Entry :=
  match e.cls with
  | .openE => { e with cls := .applying }
  | .nextE => { e with cls := .openE }
  | .applying => e

/-- The panes whose RELEASE entries stand in OPEN, in staging-queue order, each with its entry's sender. -/
def Epochs.openReleases (e : Epochs) : List (Byte × StationId) :=
  e.staging.filterMap fun x =>
    match x.cls, x.op with
    | .openE, .release p => some (p, x.sender)
    | _, _ => none

/-- R58, step 5, R108, R123: a RELEASING pane becomes FREE and its extent returns to the free-extent list. -/
def State.freePane (s : State) (i : Fin 32) : State :=
  match (s.pane i).control with
  | .releasing e =>
    let s := s.setControl i .free
    { s with store := { s.store with freeList := returnExtent e s.store.freeList } }
  | _ => s

/-- R58, steps 1 to 4 and 7, R60, R31, R96: the epochs, the CLOSE's refusal counts and the foreign-report count at a commit
decision. -/
def State.commitEpochs (s : State) : State :=
  let empty := !(s.ep.staging.any fun e => decide (e.cls = .openE))
  { s with
    ep := { s.ep with
      openNum := s.ep.openNum + 1
      applied := if empty then s.ep.openNum else s.ep.applied
      openClose := s.ep.nextClose
      nextClose := 0
      staging := s.ep.staging.map Entry.promote
      stall := 0
      pendingApply := s.ep.pendingApply || !empty }
    tx := { s.tx with closeOpen := s.tx.closeNext, closeNext := 0 }
    mb := { s.mb with foreignCount := min Config.foreignLimit (s.mb.foreignCount + 1) } }

/-- R84: a transfer starts: the joiner is the head of the join queue, the source the lowest id of the roster, age 0, head not
taken; the source sets its snapshot position to SNAP-HEAD. -/
def State.startTransfer (s : State) : State :=
  match s.mb.joinQueue, lowestId s.mb.roster with
  | j :: _, some src =>
    if s.ep.openClose = 0 ∧ !(s.ep.staging.any fun e => decide (e.cls = .openE)) then
      { s with
        mb := { s.mb with
          transfer := some ⟨j, src, 0, false⟩
          snapPos := if src = s.stationId then some .head else s.mb.snapPos }
        tx := { s.tx with snapRefusals := 0 } }
    else s
  | _, _ => s

/-- R58: the commit decision, steps 1 to 8 in order; BATCH_COMMITTED in ascending order of tag (notes/assumptions/9.md), then
RELEASE_DONE in ascending order of pane (R116). -/
def State.commit (s : State) : State :=
  let tags := s.tagsWhere fun b => s.ep.batchIn s.stationId b.tag .openE
  let releases := s.ep.openReleases
  let freed (i : Fin 32) : Bool :=
    (match (s.pane i).control with | .releasing _ => true | _ => false)
    && releases.any fun r => decide (paneIx r.1 = i) && decide (r.2 = s.stationId)
  let done := ((List.finRange 32).filter freed).map fun i => byte i.val
  let s := s.commitEpochs
  let s := releases.foldl (fun s r => s.freePane (paneIx r.1)) s
  let s := s.postEach s.ep.openNum .batchCommitted tags
  let s := tags.foldl State.dropRecord s
  let s := s.postEach s.ep.openNum .releaseDone done
  s.startTransfer.revote

/-! ### The other effects of a rise (R54, R61, R73, R90) -/

/-- R61: some member's id is not in the OPEN close set. -/
def State.someOpen (s : State) : Bool := !idSubset s.mb.roster s.ep.openClose

/-- R61: the stall step. A count of 16 stands until STALL_LIMIT takes it. -/
def State.stallStep (s : State) : State :=
  if !s.inTransfer && s.someOpen then
    { s with ep := { s.ep with stall := min Config.stallLimit (s.ep.stall + 1) } }
  else s

/-- R62: this member is evicted at this rise: the stall count reaches 16 and it is not in the OPEN close set. -/
def State.evictedNow (s : State) : Bool :=
  !s.inTransfer && s.someOpen && decide (Config.stallLimit ≤ s.ep.stall + 1) && !idIn s.stationId s.ep.openClose

/-- R54: the batches to break when the head of the queue is held for staging room: unfinished, not already broken, with
taken entries in the current epoch. -/
def State.shortBatches (s : State) : List Byte :=
  match s.tx.queue, s.ep.current s.stationId with
  | q :: _, some c =>
    if s.heldForRoom q.request then
      s.tagsWhere fun b => !b.broken && s.tx.unfinished b && s.ep.batchIn s.stationId b.tag c
    else []
  | _, _ => []

/-- R90: the transfer age grows by one. An age of 240 stands until TRANSFER_LIMIT takes it. -/
def State.ageStep (s : State) : State :=
  match s.mb.transfer with
  | some t => { s with mb := { s.mb with transfer := some { t with age := min Config.transferLimit (t.age + 1) } } }
  | none => s

/-- R54, R57, R58, R61, R90: a rise's shared effects at a member. Each reads the control state as the rise's effects began
(R57, R90), so the age step and R54's test are settled before the commit decision (DEDUCED, notes/assumptions/14.md). DESIGN CHOICE
(notes/assumptions/38.md): the batches are broken after the commit decision, so BATCH_BROKEN stands behind its records and carries the new
open number; and they are broken before a stall limit reached at the same rise is taken (notes/assumptions/49.md). -/
def State.memberRise (s : State) (sample : Bool) : State :=
  let short := if !sample && s.evictedNow then [] else s.shortBatches
  let s := s.ageStep
  let s := if sample then s.commit else s.stallStep
  short.foldl State.breakBatch s

/-- R57: TLF_RISE_EFFECTS. The deferred sample is taken once no packet is in progress (R19): a member takes the commit decision
or the stall step; the joiner ages its transfer; an outsider takes the rise as evidence (R73). -/
def execTlfRiseEffects (s : State) : Result :=
  .next (match s.link.riseSample with
    | some b =>
      if s.packetInProgress then s
      else
        let s := { s with link := { s.link with riseSample := none } }
        match s.mb.state with
        | .member => s.memberRise b
        | .joining => s.ageStep
        | _ => s.evidence true
    | none => s)

/-- R62: the ids to evict, ascending. -/
def State.evictees (s : State) : List StationId := idList (s.mb.roster &&& ~~~s.ep.openClose)

/-- R62, R93, R94: STALL_LIMIT. The stall count has reached 16: every member not in the OPEN close set is evicted, and the count
returns to 0; a station that finds itself in the list takes its own removal alone. DESIGN CHOICE (notes/assumptions/49.md): MEMBER_EVICTED stands behind
a BATCH_BROKEN of the same rise (R54), which TLF_RISE_EFFECTS posts. -/
def execStallLimit (s : State) : Result :=
  .next (if s.isMember ∧ Config.stallLimit ≤ s.ep.stall then
      if s.evictees.contains s.stationId then s.removeSelf .evicted 0 s.mb.leaveRequested
      else
        let ids := s.evictees
        let s := { s with ep := { s.ep with stall := 0 } }
        ids.foldl (fun s i => s.removeOther i .memberEvicted) s
    else s)

/-- R65: APPLY_PASS_END. Every APPLYING entry has been applied: they are removed, the applied number becomes the committed
number, the flag is cleared and TLV is re-evaluated. -/
def execApplyPassEnd (s : State) : Result :=
  .next (if s.ep.passRunning ∧ s.ep.applyingEntries.length ≤ s.ep.passDone then
      ({ s with ep := { s.ep with
          staging := s.ep.staging.filter Entry.gathering
          applied := s.ep.committed
          pendingApply := false
          passRunning := false
          passDone := 0 } } : State).revote
    else s)

end Sys2Proof.Machine
end

