-- ==== Sys2Proof/Machine/Sampling.lean ====
section
/-! DEFINITION. What is read from a clocked line: the samples at the clock's rises, the clock's falls, and the bytes that a run of bits makes
(R3, R9, R157, R158). The table has no row for an edge of TLC, PXCLK or SCK, so the levels are an argument here (notes/assumptions/2.md). -/

namespace Sys2Proof.Machine

/-- A line sampled at each rising edge of its clock. The list gives the levels of clock and line in time order; `clk` is the clock's level before it. -/
def risingSamples (clk : Bool) : List (Bool × Bool) → List Bool
  | [] => []
  | (c, bit) :: t => if c && !clk then bit :: risingSamples c t else risingSamples c t

/-- How many falling edges a clock makes in a run of levels; `clk` is its level before the run. -/
def fallingEdges (clk : Bool) : List Bool → Nat
  | [] => 0
  | c :: t => (if clk && !c then 1 else 0) + fallingEdges c t

/-- A byte of eight bits, most significant first. -/
def byteOfBits (b7 b6 b5 b4 b3 b2 b1 b0 : Bool) : Byte :=
  BitVec.ofBool b7 ++ BitVec.ofBool b6 ++ BitVec.ofBool b5 ++ BitVec.ofBool b4 ++ BitVec.ofBool b3 ++ BitVec.ofBool b2 ++ BitVec.ofBool b1
    ++ BitVec.ofBool b0

/-- R3, R158: the complete bytes of a run of bits. -/
def wholeBytes : List Bool → List Byte
  | b7 :: b6 :: b5 :: b4 :: b3 :: b2 :: b1 :: b0 :: t => byteOfBits b7 b6 b5 b4 b3 b2 b1 b0 :: wholeBytes t
  | _ => []

end Sys2Proof.Machine
end

