-- ==== Sys2Proof/WellFormed.lean ====
section
/-! DEFINITION. Which commands can be spelled on the part's three interfaces: counts fit their bytes, payloads
fit a packet, a received packet carries as many payload bytes as its length field says. -/

namespace Sys2Proof

open Sys2Proof.Machine

/-- The count byte of PUT-CELLS and SET-PALETTE holds the number of items (section 10.7). -/
def countFits (n : Nat) : Bool := decide (n ≤ 255)

/-- A taken packet's payload holds 0–32 bytes (R4: a longer one is refused by every member and joiner and
is not received by an observer). -/
def payloadFits (payload : List Byte) : Bool := decide (payload.length ≤ 32)

/-- Section 1.2: the payload occupies 8 × length slots. -/
def rxFits (rx : RxPacket) : Bool := decide (rx.payload.length = rx.length.toNat)

/-- R159, R160: a command is evaluated at its last parameter byte, so a framing error comes after fewer bits than the
longest command has: PUT-CELLS with a count byte of 255 is a command byte, four fixed bytes and 510 cell bytes; a
SET-PALETTE count byte of 255 calls for one command byte, three fixed bytes and 765 colour bytes, the longest. -/
def framingFits (bits : Nat) : Bool := decide (bits < 8 * 769)

/-- The bytes that name a command (section 10.7). -/
def commandBytes : List Byte :=
  [0x01, 0x02, 0x03, 0x04, 0x05, 0x10, 0x11, 0x20, 0x21, 0x22, 0x23, 0x24, 0x30, 0x31, 0x32,
   0x40, 0x41, 0x42, 0x43, 0x44]

/-- R160: BAD_COMMAND carries a byte that names no command. -/
def namesNoCommand (b : Byte) : Bool := !commandBytes.contains b

/-- R10: arbitration runs from the first class slot through the last check slot; a packet TL16 sends has at most 32
payload bytes, so at most 32 + 8 × 32 such slots. -/
def slotFits (slot : Nat) : Bool := decide (slot < 288)

/-- R136, R145: a tile has at most 48 cell rows. -/
def tileRowFits (row : Nat) : Bool := decide (row < 48)

/-- Whether a command can be spelled. -/
def Instr.wellFormed : Instr → Bool
  | .framingError bits => framingFits bits
  | .badCommand b => namesNoCommand b
  | .putCells a => countFits a.cells.length
  | .setPalette a => countFits a.colours.length
  | .holdPoint rx => rxFits rx
  | .observerReceipt _ rx => rxFits rx
  | .foundTaken _ p => payloadFits p
  | .joinTaken _ p => payloadFits p
  | .joinDenyTaken _ p => payloadFits p
  | .joinDoneTaken _ p => payloadFits p
  | .leaveTaken _ p => payloadFits p
  | .claimTaken _ p => payloadFits p
  | .handoverTaken _ p => payloadFits p
  | .releaseTaken _ p => payloadFits p
  | .retractTaken _ p => payloadFits p
  | .closeTaken _ p => payloadFits p
  | .putCellsTaken _ p => payloadFits p
  | .fillTaken _ p => payloadFits p
  | .copyTaken _ p => payloadFits p
  | .setPaneTaken _ p => payloadFits p
  | .setPaletteTaken _ p => payloadFits p
  | .snapHeadTaken _ p => payloadFits p
  | .snapPaneTaken _ p => payloadFits p
  | .snapFreeTaken _ p => payloadFits p
  | .snapPaletteTaken _ p => payloadFits p
  | .snapCellsTaken _ p => payloadFits p
  | .snapEndTaken _ p => payloadFits p
  | .lostInArbitration slot => slotFits slot
  | .spanListBuild row => tileRowFits row
  | .powerOnReset _ => true
  | .transactionStart => true
  | .configure _ => true
  | .loadFontB _ _ => true
  | .goOnline => true
  | .goOffline => true
  | .reset => true
  | .softReset _ => true
  | .beginBatch => true
  | .endBatch => true
  | .fill _ => true
  | .copy _ => true
  | .setPane _ => true
  | .claim _ _ => true
  | .handover _ _ => true
  | .release _ => true
  | .readStatus => true
  | .readEvent => true
  | .eventRecordRemoval => true
  | .readPane _ => true
  | .readCells _ _ => true
  | .readRoster => true
  | .startCondition _ => true
  | .startSeen => true
  | .packetRefused => true
  | .stopCondition => true
  | .packetBreak => true
  | .packetAbandoned => true
  | .linkTimeout => true
  | .busFreeInterval _ => true
  | .recoveryBusFree => true
  | .irregularTlcFall => true
  | .tlfRise _ => true
  | .tlfRiseEffects => true
  | .stallLimit => true
  | .transferLimit => true
  | .exhaustedUpdate => true
  | .exhaustedRequest => true
  | .selfDemotion => true
  | .listenIntervalExpiry => true
  | .requestTimerExpiry => true
  | .enterFront => true
  | .applyClear => true
  | .applyPutCells => true
  | .applyFill => true
  | .applyCopy => true
  | .applySetPane => true
  | .applySetPalette => true
  | .applyRelease => true
  | .applyPassEnd => true
  | .frontEnd => true
  | .syncEnd => true
  | .tlfRelease _ => true
  | .holdLineEnd _ => true
  | .followingWaitLimit => true
  | .frameHoldLimit => true
  | .backEnd => true
  | .transactionEnd => true

end Sys2Proof
end

