-- ==== Sys2Proof/Machine/Spi.lean ====
section
/-! DEFINITION. From MOSI to a command (R158, R160, section 10.7): the bits sampled, the bytes they make, how many parameter bytes a command byte
calls for, and the command they spell. The table has no row for an SCK edge, so the bits of a transaction are an argument here
(notes/assumptions/29.md). -/

namespace Sys2Proof.Machine

/-! ### The bits of a transaction (R158) -/

/-- R158: MOSI sampled at each rising edge of SCK. The list gives the levels of SCK and MOSI in time order; `sck` is SCK's level before it, low when
CSn falls (mode 0). -/
def mosiSamples (sck : Bool) (levels : List (Bool × Bool)) : List Bool := risingSamples sck levels

/-- R158: how many falling edges SCK makes in a run of levels, the edges at which MISO changes; `sck` is SCK's level before the run. -/
def sckFalls (sck : Bool) (levels : List (Bool × Bool)) : Nat := fallingEdges sck (levels.map (·.1))

/-! ### Parameters (R160, section 10.7) -/

/-- R158, R160: how many parameter bytes a command byte calls for, given those that have come; `none` while the count or mask that fixes the rest
has not. A byte that names no command has none. -/
def paramCount (cmd : Byte) (params : List Byte) : Option Nat :=
  match cmd.toNat with
  | 0x01 => some 19
  | 0x02 => some 17
  | 0x20 => params[3]?.map fun c => 4 + 2 * c.toNat
  | 0x21 => some 12
  | 0x22 => some 10
  | 0x23 => match params with
    | _ :: m1 :: m0 :: _ => some (3 + maskBytes (halfOf m1 m0))
    | _ => none
  | 0x24 => params[2]?.map fun c => 3 + 3 * c.toNat
  | 0x30 => some 3
  | 0x31 => some 2
  | 0x32 => some 1
  | 0x42 => some 1
  | 0x43 => some 3
  | _ => some 0

/-- The host command that carries an update (R168). -/
def Update.command : Update → Instr
  | .putCells a => .putCells a
  | .fill a => .fill a
  | .copy a => .copy a
  | .setPane a => .setPane a
  | .setPalette a => .setPalette a

/-- Section 10.7: the parameters of an update command are its packet's payload less the epoch tag and the batch tag. -/
def updateOf (k : Kind) (params : List Byte) : Option Instr :=
  (readUpdate k (0 :: 0 :: 0 :: params)).map fun u => u.update.command

/-- Section 10.7: the parameters of CONFIGURE. -/
def configureOf : List Byte → Option Instr
  | [a1, a0, t1, t0, s1, s0, e1, e0, v1, v0, front, sync, back, c1, c0, r1, r0, rate, irq] =>
    some (.configure ⟨halfOf a1 a0, halfOf t1 t0, halfOf s1 s0, halfOf e1 e0, halfOf v1 v0, front, sync, back, halfOf c1 c0, halfOf r1 r0,
      rate, irq⟩)
  | _ => none

/-- Section 10.7: the parameters of LOAD-FONT-B: the code, then sixteen row bytes. -/
def loadFontOf : List Byte → Option Instr
  | code :: rows => if rows.length = 16 then some (.loadFontB code (Vector.ofFn fun i : Fin 16 => rows.getD i.val 0)) else none
  | [] => none

/-- Section 10.7: the command of a command byte with all its parameter bytes. -/
def commandOf (cmd : Byte) (params : List Byte) : Option Instr :=
  match cmd.toNat with
  | 0x01 => configureOf params
  | 0x02 => loadFontOf params
  | 0x03 => some .goOnline
  | 0x04 => some .goOffline
  | 0x05 => some .reset
  | 0x10 => some .beginBatch
  | 0x11 => some .endBatch
  | 0x20 => updateOf .putCells params
  | 0x21 => updateOf .fill params
  | 0x22 => updateOf .copy params
  | 0x23 => updateOf .setPane params
  | 0x24 => updateOf .setPalette params
  | 0x30 => (readClaim params).map fun p => .claim p.1 p.2
  | 0x31 => (readHandover params).map fun p => .handover p.1 p.2
  | 0x32 => params.head?.map .release
  | 0x40 => some .readStatus
  | 0x41 => some .readEvent
  | 0x42 => params.head?.map .readPane
  | 0x43 => match params with
    | [o1, o0, n] => some (.readCells (halfOf o1 o0) n)
    | _ => none
  | 0x44 => some .readRoster
  | _ => some (.badCommand cmd)

/-! ### A transaction (R158, R160) -/

/-- R158: the command that the bytes of a transaction spell, once its last parameter byte is complete; later bytes are ignored. -/
def hostCommand : List Byte → Option Instr
  | [] => none
  | cmd :: t => (paramCount cmd t).bind fun n => if n ≤ t.length then commandOf cmd (t.take n) else none

/-- R158, R159: the command that the bits sampled so far in a transaction have made the port evaluate. -/
def mosiCommand (bits : List Bool) : Option Instr := hostCommand (wholeBytes bits)

/-- R158, R160: what a rise of CSn is after the bits given: the end of a transaction whose command was evaluated, or a framing error. -/
def riseOfCsn (bits : List Bool) : Instr :=
  if (mosiCommand bits).isSome then .transactionEnd else .framingError bits.length

/-- R158, R160, R174, R176: the commands that a transaction of the bits given makes, in order: its start, the command evaluated, the removal of the head
record once READ-EVENT's status and eight bytes have been clocked out, the soft reset that RESET leaves for the rise of CSn, and that rise. -/
def transaction (straps : StationId) (bits : List Bool) : List Instr :=
  [.transactionStart] ++ (mosiCommand bits).toList
  ++ (if mosiCommand bits = some .readEvent ∧ 80 ≤ bits.length then [.eventRecordRemoval] else [])
  ++ (if mosiCommand bits = some .reset then [.softReset straps] else [])
  ++ [riseOfCsn bits]

end Sys2Proof.Machine
end

