-- ==== Sys2Proof/Machine/HostPort.lean ====
section
/-! DEFINITION. The Host Port's commands (chapter 8): the transaction, every host command with its checks, answers and effect. A
command is evaluated only in a transaction whose bytes are being taken (R158), from the bits on MOSI as Machine/Spi.lean reads them; otherwise the event cannot occur and the state stays
as it is (notes/assumptions/1.md). -/

namespace Sys2Proof.Machine

/-- An answer with no effect. -/
def State.answer (s : State) (st : Status) (data : List Byte) : State × Status × List Byte := (s, st, data)

/-- The Host Port's fields replaced. -/
def State.setHost (s : State) (h : HostPort) : State := { s with host := h }

/-! ### The transaction (R158, R160) -/

/-- R158: TRANSACTION_START. -/
def execTransactionStart (s : State) : Result :=
  .next (if s.host.spi = .idle then
      s.setHost { s.host with spi := .command, bitCount := 0, response := [], headRead := false }
    else s)

/-- R160: FRAMING_ERROR. CSn rises after `bits` bits of a command not yet evaluated; with no SCK edge it is not a transaction and is
not counted. -/
def execFramingError (bits : Nat) (s : State) : Result :=
  .next (if s.host.spi = .command then
      s.setHost { s.host with
        spi := .idle
        bitCount := bits
        framing := if bits = 0 then s.host.framing else min Config.countStop (s.host.framing + 1) }
    else s)

/-- R160: BAD_COMMAND. A command byte that names no command is evaluated at once. A byte that names one is not this event. -/
def execBadCommand (b : Byte) (s : State) : Result :=
  .next (if namesNoCommand b then s.evaluate 0 fun s => s.answer .badCommand [] else s)

/-- R158, R159: TRANSACTION_END. The response not yet clocked is lost; a soft reset that waits is SOFT_RESET's (R176). -/
def execTransactionEnd (s : State) : Result :=
  .next (if s.host.spi = .response then s.setHost { s.host with spi := .idle, response := [], headRead := false } else s)

/-- R158, R177: MISO's bit `n`, counted from the first of the byte that follows the command's evaluation: high impedance (`none`) while CSn is high; 0 during the
command and parameter bytes; then the response, each byte's most significant bit first; then 0. -/
def State.miso (s : State) (n : Nat) : Option Bool :=
  match s.host.spi with
  | .idle => none
  | .command => some false
  | .response => some ((s.host.response.getD (n / 8) 0).getLsbD (7 - n % 8))

/-- R158, R159: MISO after the levels of SCK and MOSI given, in time order since the command was evaluated. It changes at each falling edge of
SCK alone. The evaluation falls on a rising edge, so SCK is high before them, and the first falling edge puts out the response's first bit, which
the host samples at the next rise. -/
def State.misoLine (s : State) (levels : List (Bool × Bool)) : Option Bool :=
  match s.host.spi, sckFalls true levels with
  | .response, 0 => some false
  | _, n => s.miso (n - 1)

/-! ### Configuration and fonts (R162, R163) -/

/-- R162: CONFIGURE's checks and effect. -/
def State.configure (s : State) (f : TileFields) : State × Status × List Byte :=
  if s.mb.state ≠ .offline then s.answer .notOffline []
  else if !f.inRange then s.answer .badField []
  else (({ s with raster := { s.raster with config := some f } } : State).reirq, .ok, [])

/-- CONFIGURE: 19 parameter bytes (section 10.7). -/
def execConfigure (f : TileFields) (s : State) : Result := .next (s.evaluate 19 fun s => s.configure f)

/-- R149, R150, R163: LOAD-FONT-B's checks and effect. -/
def State.loadFont (s : State) (code : Byte) (rows : Vector Byte 16) : State × Status × List Byte :=
  if s.mb.state ≠ .offline then s.answer .notOffline []
  else
    let m := Memory.writeRun fontZero s.raster.fontB (16 * code.toNat) rows.toList
    ({ s with raster := { s.raster with fontB := m, fontDigest := fontDigestOf m } }, .ok, [])

/-- LOAD_FONT_B: 17 parameter bytes. -/
def execLoadFontB (code : Byte) (rows : Vector Byte 16) (s : State) : Result :=
  .next (s.evaluate 17 fun s => s.loadFont code rows)

/-! ### Online and offline (R164, R165) -/

/-- R139: the raster started if it was STOPPED: FOLLOWING, at the first line of FRONT, with the configuration held. -/
def State.startRaster (s : State) : State :=
  if s.raster.sync = .stopped then
    { s with raster := { s.raster with
        timing := s.raster.config, sync := .following, phase := some .front, holding := false, pulled := false
        riseRead := false, waiting := false, holdEnding := false } }
  else s

/-- R164: GO-ONLINE's checks and effect. -/
def State.goOnline (s : State) : State × Status × List Byte :=
  if s.mb.state ≠ .offline then s.answer .notOffline []
  else
    match s.raster.config with
    | none => s.answer .notConfigured []
    | some f => ((s.enterListening.connect (some f.linkRate)).startRaster, .ok, [])

/-- GO_ONLINE. -/
def execGoOnline (s : State) : Result := .next (s.evaluate 0 State.goOnline)

/-- R72, R40: an outsider goes offline: purged, cleared, disconnecting; a joiner's replicated state is cleared as it leaves JOINING. -/
def State.outsiderOffline (s : State) : State :=
  let joiner := s.isJoiner
  let s := s.purge
  let s := if joiner then s.clearShared.unlock else s
  ({ s with mb := membershipCleared .offline } : State).disconnect.revote

/-- R165: the places a LEAVE may take: the free ones, and those of the host's open batch. -/
def State.leaveRoom (s : State) : Nat :=
  (Config.queueRoom - s.tx.queue.length)
  + (match s.host.batch with
     | .opened t _ => (s.tx.queue.filter fun q => decide (q.request.tag? = some t)).length
     | _ => 0)

/-- R165, R36: the host's batch discarded: an open one is broken. -/
def State.discardBatch (s : State) : State :=
  let s :=
    match s.host.batch with
    | .opened t _ => s.breakBatch t
    | _ => s
  s.setHost { s.host with batch := .none }

/-- R165: GO-OFFLINE's checks and effect. -/
def State.goOffline (s : State) : State × Status × List Byte :=
  match s.mb.state with
  | .offline => s.answer .ok []
  | .member =>
    if s.mb.leaveRequested then s.answer .ok []
    else if s.leaveRoom = 0 then s.answer .queueFull []
    else
      let s := s.discardBatch.enqueue .leave
      ({ s with mb := { s.mb with leaveRequested := true } }, .ok, [])
  | _ => (s.outsiderOffline, .ok, [])

/-- GO_OFFLINE. -/
def execGoOffline (s : State) : Result := .next (s.evaluate 0 State.goOffline)

/-- R176: RESET is answered OK, and the soft reset waits for the rise of CSn. -/
def execReset (s : State) : Result :=
  .next (s.evaluate 0 fun s => (s.setHost { s.host with resetWaiting := true }, .ok, []))

/-! ### Batches (R166, R167) -/

/-- R166, R30: a tag given: the counter moves past it and the Transmitter opens a record for it. -/
def State.giveTag (s : State) (tag : BitVec 4) (ended : Bool) : State :=
  { s with
    host := { s.host with nextTag := tag + 1 }
    tx := { s.tx with batches := s.tx.batches ++ [⟨tag.setWidth 8, ended, false, false⟩] } }

/-- R167: BEGIN-BATCH's checks and effect. -/
def State.beginBatch (s : State) : State × Status × List Byte :=
  match s.groupWork with
  | some st => s.answer st []
  | none =>
    match s.host.batch with
    | .opened t _ => s.answer .batchOpen [t]
    | .broken t _ => s.answer .broken [t]
    | .none =>
      match s.freeTag with
      | none => s.answer .noTag []
      | some tag =>
        let s := s.giveTag tag false
        (s.setHost { s.host with batch := .opened (tag.setWidth 8) 0 }, .ok, [tag.setWidth 8])

/-- BEGIN_BATCH. -/
def execBeginBatch (s : State) : Result := .next (s.evaluate 0 State.beginBatch)

/-- R167: END-BATCH's checks and effect. -/
def State.endBatch (s : State) : State × Status × List Byte :=
  match s.groupWork with
  | some st => s.answer st []
  | none =>
    match s.host.batch with
    | .none => s.answer .noBatch []
    | .broken t _ => (s.setHost { s.host with batch := .none }, .broken, [t])
    | .opened t n =>
      let s := s.setHost { s.host with batch := .none }
      ((s.changeRecord t fun b => { b with ended := true }).tidyBatches, .ok, [t, byte n])

/-- END_BATCH. -/
def execEndBatch (s : State) : Result := .next (s.evaluate 0 State.endBatch)

/-! ### Updates (R168) -/

/-- R168, check 2: the named pane is OWNED with this station as owner; SET-PALETTE names none. -/
def State.ownsNamed (s : State) (u : Update) : Bool :=
  match u.pane? with
  | some p => ownedBy (s.pane (paneIx p)) s.stationId
  | none => true

/-- R168: an update command's checks, in order, and its effect. DESIGN CHOICE (notes/assumptions/48.md): R168's order holds with the batch
BROKEN too, so an update out of range or of a pane not owned is answered BAD_FIELD or NOT_OWNER there, where R169 says every update command is
answered BROKEN. -/
def State.submit (s : State) (u : Update) : State × Status × List Byte :=
  match s.groupWork with
  | some st => s.answer st []
  | none =>
    if !u.inRange then s.answer .badField []
    else if !s.ownsNamed u then s.answer .notOwner []
    else
      match s.host.batch with
      | .broken t _ => s.answer .broken [t]
      | .opened t n =>
        if Config.batchRoom ≤ n then s.answer .batchFull []
        else if !s.queueHasRoom then s.answer .queueFull []
        else
          let s := s.enqueue (.update t u)
          (s.setHost { s.host with batch := .opened t (n + 1) }, .ok, [t])
      | .none =>
        match s.freeTag with
        | none => s.answer .noTag []
        | some tag =>
          if !s.queueHasRoom then s.answer .queueFull []
          else ((s.giveTag tag true).enqueue (.update (tag.setWidth 8) u), .ok, [tag.setWidth 8])

/-- PUT_CELLS. -/
def execPutCells (a : PutCellsArgs) (s : State) : Result :=
  .next (s.evaluate (Update.putCells a).body.length fun s => s.submit (.putCells a))

/-- FILL. -/
def execFill (a : FillArgs) (s : State) : Result :=
  .next (s.evaluate (Update.fill a).body.length fun s => s.submit (.fill a))

/-- COPY. -/
def execCopy (a : CopyArgs) (s : State) : Result :=
  .next (s.evaluate (Update.copy a).body.length fun s => s.submit (.copy a))

/-- SET_PANE. -/
def execSetPane (a : SetPaneArgs) (s : State) : Result :=
  .next (s.evaluate (Update.setPane a).body.length fun s => s.submit (.setPane a))

/-- SET_PALETTE. -/
def execSetPalette (a : SetPaletteArgs) (s : State) : Result :=
  .next (s.evaluate (Update.setPalette a).body.length fun s => s.submit (.setPalette a))

/-! ### Pane requests (R170) -/

/-- R170: a pane request: the mode, then the ranges, then the queue's room; then it is appended. -/
def State.request (s : State) (inRange : Bool) (r : Request) : State × Status × List Byte :=
  match s.groupWork with
  | some st => s.answer st []
  | none =>
    if !inRange then s.answer .badField []
    else if !s.queueHasRoom then s.answer .queueFull []
    else (s.enqueue r, .ok, [])

/-- CLAIM: pane 1, count 2. -/
def execClaim (pane : Byte) (count : Half) (s : State) : Result :=
  .next (s.evaluate 3 fun s =>
    s.request (paneInRange pane && decide (count.toNat ≤ Config.granules)) (.claim pane count))

/-- HANDOVER: pane 1, target 1. -/
def execHandover (pane target : Byte) (s : State) : Result :=
  .next (s.evaluate 2 fun s => s.request (paneInRange pane && decide (target.toNat ≤ 15)) (.handover pane target))

/-- RELEASE: pane 1. -/
def execRelease (pane : Byte) (s : State) : Result :=
  .next (s.evaluate 1 fun s => s.request (paneInRange pane) (.release pane))

/-! ### Reading the station (R171, R172, R174) -/

/-- R171: the host batch state, tag and count; in NONE the tag and count are free values (notes/assumptions/4.md). -/
def State.batchBytes (s : State) : List Byte :=
  match s.host.batch with
  | .none => [0, (Config.idleBatchTag s.freeCount).setWidth 8, byte (Config.idleBatchCount s.freeCount).val]
  | .opened t n => [1, t, byte n]
  | .broken t n => [2, t, byte n]

/-- R171, section 10.6: the status record, 23 bytes. -/
def State.statusRecord (s : State) : List Byte :=
  [idByte s.stationId, s.mb.state.code, flagByte s.mb.leaveRequested, s.link.state.code, s.raster.sync.code,
   flagByte s.raster.config.isSome]
  ++ halfBytes s.ep.openNum ++ halfBytes s.ep.committed ++ halfBytes s.ep.applied
  ++ [byte s.ep.stall, flagByte s.inTransfer, byte s.tx.queue.length]
  ++ halfBytes (half s.ep.staging.length) ++ [byte s.host.events.length]
  ++ s.batchBytes ++ [byte s.host.lost, byte s.host.framing]

/-- READ_STATUS. A reading of the free values of NONE moves the model's own counter. -/
def execReadStatus (s : State) : Result :=
  .next (s.evaluate 0 fun s =>
    (if s.host.batch = .none then { s with freeCount := s.freeCount + 1 } else s, .ok, s.statusRecord))

/-- R174: READ-EVENT's answer. -/
def State.readEvent (s : State) : State × Status × List Byte :=
  match s.host.events with
  | e :: _ => (s.setHost { s.host with headRead := true }, .ok, e.bytes)
  | [] => s.answer .empty []

/-- READ_EVENT. -/
def execReadEvent (s : State) : Result := .next (s.evaluate 0 State.readEvent)

/-- R173: the queue after its head has left: EVENTS_LOST is appended when events were lost. -/
def State.eventsAfterRemoval (s : State) : List EventRec :=
  s.host.events.tail
  ++ (if s.host.lost = 0 then [] else [⟨.eventsLost, s.ep.openNum, byte s.host.lost, 0, 0⟩])

/-- R173, R174, R175: EVENT_RECORD_REMOVAL. The head record's last bit has been clocked out; status and record are nine bytes. -/
def execEventRecordRemoval (s : State) : Result :=
  .next (if s.host.spi = .response ∧ s.host.headRead ∧ s.host.events ≠ [] then
      (s.setHost { s.host with
        events := s.eventsAfterRemoval, lost := 0, headRead := false, bitCount := s.host.bitCount + 72 }).reirq
    else s)

/-- R172: READ_PANE. -/
def execReadPane (pane : Byte) (s : State) : Result :=
  .next (s.evaluate 1 fun s =>
    if paneInRange pane then s.answer .ok (paneRecord (paneIx pane) (s.pane (paneIx pane))) else s.answer .badField [])

/-- R172: READ-CELLS: offset 0–8191, count 1–64, offset plus count at most 8192. -/
def readCellsInRange (offset : Half) (count : Byte) : Bool :=
  decide (offset.toNat < Config.cells) && decide (1 ≤ count.toNat ∧ count.toNat ≤ 64)
  && decide (offset.toNat + count.toNat ≤ Config.cells)

/-- R172: READ_CELLS. -/
def execReadCells (offset : Half) (count : Byte) (s : State) : Result :=
  .next (s.evaluate 3 fun s =>
    if readCellsInRange offset count then
      s.answer .ok ((readCellRun s.store.cells offset.toNat count.toNat).flatMap cellBytes)
    else s.answer .badField [])

/-- R172, section 10.7: the roster, the join queue, and the source and joiner of a transfer in flight. -/
def State.rosterBytes (s : State) : List Byte :=
  halfBytes s.mb.roster ++ [byte s.mb.joinQueue.length] ++ s.mb.joinQueue.map idByte
  ++ (match s.mb.transfer with
      | some t => [1, idByte t.source, idByte t.joiner]
      | none => [0, absentId, absentId])

/-- R172: READ_ROSTER. -/
def execReadRoster (s : State) : Result := .next (s.evaluate 0 fun s => s.answer .ok s.rosterBytes)

end Sys2Proof.Machine
end

