-- ==== Sys2Proof/Machine/Transmit.lean ====
section
/-! DEFINITION. The Transmitter: the content of a packet at the start of its attempt (R34, R85, R111, R135), and what
becomes of an exhausted packet (R36, R37, R38): the meanings of EXHAUSTED_UPDATE, EXHAUSTED_REQUEST and SELF_DEMOTION. -/

namespace Sys2Proof.Machine

/-- A packet of a kind, from this station (R24: the sender id is the id sampled at the last reset). -/
def State.packet (s : State) (k : Kind) (payload : List Byte) : Packet := ⟨k.code.1, s.stationId, k.code.2, payload⟩

/-- R34: the tag of this station's epoch-bearing packets: the open number if it has not closed OPEN, one more otherwise. -/
def State.ownTag (s : State) : Half :=
  if idIn s.stationId s.ep.openClose then s.ep.openNum + 1 else s.ep.openNum

/-- R74: FOUND and JOIN carry the font-B digest and the protocol level. -/
def State.joinPayload (s : State) : List Byte := halfBytes s.raster.fontDigest ++ [Config.protocolLevel]

/-- R34: a queued request's packet. -/
def State.requestPacket (s : State) (r : Request) : Packet :=
  s.packet r.kind
    (match r with
     | .update tag u => u.payload s.ownTag tag
     | .claim p n => [p] ++ halfBytes n
     | .handover p t => [p, t]
     | .release p => halfBytes s.ownTag ++ [p]
     | .found => s.joinPayload
     | .join => s.joinPayload
     | .leave => [])

/-- R85, R135: the bytes of all 8192 cells in offset order, character then attribute. -/
def storeBytes (m : Memory) : List Byte := (List.range cellBytesLimit).map fun a => Memory.read blankByte m a

/-- R85: the cell digest. -/
def cellDigest (m : Memory) : Half := crc16 (storeBytes m)

/-- R154: a palette bank's colours. -/
def State.bankColours (s : State) (bank : Fin 3) : Vector Colour 16 := s.palettes[bank.val]

/-- R85, R86, R87, R111, R135: the snapshot packet at a position. -/
def State.snapPacket (s : State) (pos : SnapPos) : Packet :=
  match pos with
  | .head =>
    let j := match s.mb.transfer with | some t => idByte t.joiner | none => absentId
    s.packet .snapHead ([j] ++ halfBytes s.ep.openNum ++ halfBytes s.mb.roster ++ halfBytes s.ep.openClose
      ++ [byte s.mb.joinQueue.length] ++ s.mb.joinQueue.map idByte)
  | .pane i => let k := paneIx (byte i); s.packet .snapPane (paneRecord k (s.pane k))
  | .free c => s.packet .snapFree ([byte c] ++ ((s.store.freeList.drop (7 * c)).take 7).flatMap fun e => extentBytes (some e))
  | .palette j =>
    let bank : Fin 3 := ⟨j / 2 % 3, Nat.mod_lt _ (by decide)⟩
    let first := 8 * (j % 2)
    s.packet .snapPalette ([byte (bank.val + 1), byte first]
      ++ (((s.bankColours bank).toList.drop first).take 8).flatMap colourBytes)
  | .cells k =>
    let o := 15 * k
    s.packet .snapCells (halfBytes (half o) ++ (readCellRun s.store.cells o (min 15 (Config.cells - o))).flatMap cellBytes)
  | .tail =>
    s.packet .snapEnd (halfBytes (half (586 + chunkCount s.store.freeList)) ++ halfBytes (cellDigest s.store.cells))

/-- R34: the content of the offered candidate, formed from the station's state at the start condition. -/
def State.formPacket (s : State) (c : Candidate) : Packet :=
  match c with
  | .queueHead =>
    match s.tx.queue with
    | q :: _ => s.requestPacket q.request
    | [] => s.packet .leave []
  | .retract =>
    match s.tx.retracts with
    | r :: _ => s.packet .retract (halfBytes s.ownTag ++ [r.tag])
    | [] => s.packet .leave []
  | .joinDeny =>
    match s.tx.denials with
    | d :: _ => s.packet .joinDeny [idByte d.target, d.reason.code]
    | [] => s.packet .leave []
  | .joinDone =>
    match s.tx.joinDone with
    | some d => s.packet .joinDone (halfBytes d.epoch ++ [if d.good then 0 else 1])
    | none => s.packet .leave []
  | .close n => s.packet .close (halfBytes n)
  | .snapshot =>
    match s.mb.snapPos with
    | some p => s.snapPacket p
    | none => s.packet .leave []

/-- Whether the head of the queue is exhausted (R35: its eighth refusal has been counted). -/
def Queued.exhausted (q : Queued) : Bool := decide (Config.refusalLimit ≤ q.refusals)

/-- R36: EXHAUSTED_UPDATE. The exhausted update at the head of the queue is dropped and its batch is broken. -/
def execExhaustedUpdate (s : State) : Result :=
  .next (match s.tx.queue with
    | q :: _ =>
      match q.request with
      | .update tag _ => if q.exhausted then s.breakBatch tag else s
      | _ => s
    | [] => s)

/-- The head of the queue dropped. -/
def State.dropHead (s : State) : State := { s with tx := { s.tx with queue := s.tx.queue.tail } }

/-- R37: EXHAUSTED_REQUEST. The exhausted request at the head of the queue is dropped with its outcome. -/
def execExhaustedRequest (s : State) : Result :=
  .next (match s.tx.queue with
    | q :: _ =>
      if q.exhausted then
        match q.request with
        | .update _ _ => s
        | .claim p _ => s.dropHead.post .claimLost Reason.link.code (p.setWidth 16) 0
        | .handover p _ => s.dropHead.post .handoverFailed Reason.link.code (p.setWidth 16) 0
        | .release p => s.dropHead.post .releaseFailed Reason.link.code (p.setWidth 16) 0
        | .found => if s.mb.state = .founding then s.dropHead.enterListening else s.dropHead
        | .join => if s.mb.state = .requesting then s.dropHead.enterListening else s.dropHead
        | .leave => if s.isMember then s.dropHead.removeSelf .memberLeft (idByte s.stationId) true else s.dropHead
      else s
    | [] => s)

/-- R38: whether a CLOSE, RETRACT or JOIN-DONE is exhausted. -/
def State.demotes (s : State) : Bool :=
  s.evaluates
  && (s.tx.retracts.any (fun r => decide (Config.refusalLimit ≤ r.refusals))
      || s.tx.joinDone.any (fun d => decide (Config.refusalLimit ≤ d.refusals))
      || decide (Config.refusalLimit ≤ s.tx.closeOpen) || decide (Config.refusalLimit ≤ s.tx.closeNext))

/-- R38: an exhausted JOIN-DENY is dropped; an exhausted snapshot packet ends the source's sending. -/
def State.dropExhausted (s : State) : State :=
  let s := { s with tx := { s.tx with denials := s.tx.denials.filter fun d => decide (d.refusals < Config.refusalLimit) } }
  if Config.refusalLimit ≤ s.tx.snapRefusals then
    { s with mb := { s.mb with snapPos := none }, tx := { s.tx with snapRefusals := 0 } }
  else s

/-- R38: SELF_DEMOTION. LINK_FAILED is posted and the station leaves the group, to LISTENING, or to OFFLINE when its leave
was requested; an exhausted JOIN-DENY or snapshot packet is dropped. -/
def execSelfDemotion (s : State) : Result :=
  .next (if s.demotes then s.removeSelf .linkFailed 0 s.mb.leaveRequested else s.dropExhausted)

end Sys2Proof.Machine
end

