-- ==== Sys2Proof/Machine/Link.lean ====
section
/-! DEFINITION. The Link Controller's commands: starts, arbitration loss, the hold point, the refusal, the ends of a packet,
time-out, bus-free intervals (chapter 1). An event that the rules rule out in the present state leaves it as it is
(notes/assumptions/1.md). -/

namespace Sys2Proof.Machine

/-- R6, R8, R12, R32, R34: START_CONDITION. In IDLE, with a packet offered and TLF high at the pin for at least one bit time, the
station pulls TLD low, is TRANSMITTING, and the packet's content is fixed; half a bit later it pulls TLC low, which opens the first
class slot. The driver fields stand as at that pull, the last edge of this row; what the sender drives in each slot that follows is `State.drive`
(Machine/Wire.lean, notes/assumptions/2.md). -/
def execStartCondition (tlfHighBits : Nat) (s : State) : Result :=
  .next (match s.offer with
    | some c =>
      if s.link.state = .idle ∧ 1 ≤ tlfHighBits ∧ s.pins.tlfLow = false then
        let founding := decide (c = .queueHead) && decide (s.tx.queue.head?.map (·.request) = some .found)
        let a : Attempt := ⟨c, s.formPacket c, true⟩
        { s.beginPacket .transmitting with
          tx := { s.tx with attempt := some a }
          mb := { s.mb with foundBegun := s.mb.foundBegun || founding }
          pins := { s.pins with tldLow := true, tlcLow := true } }
      else s
    | none => s)

/-- R7, R12, R17, R18, R21: START_SEEN. Another station's start moves WAIT_FREE, IDLE or RECOVERY to RECEIVING, fixes the
role and clears the fair-wait flag. -/
def execStartSeen (s : State) : Result :=
  .next (if s.link.state = .waitFree ∨ s.link.state = .idle ∨ s.link.state = .recovery
    then s.beginPacket .receiving else s)

/-- R10, R22: LOST_IN_ARBITRATION. A sender that released TLD for a 1 at the slot and sampled a 0 drives neither line, enters
RECEIVING and reports the attempt lost, its refusal count unchanged; a disconnection that waited for the attempt is taken. -/
def execLostInArbitration (slot : Nat) (s : State) : Result :=
  .next (match s.tx.attempt with
    | some a =>
      if s.sending ∧ s.link.slot = .pending ∧ s.link.decision = none ∧ a.packet.bits[slot]? = some true then
        let s := s.endAttempt.releaseLink
        match s.link.disconnect with
        | .wanted => s.disconnectNow
        | _ => { s with link := { s.link with state := .receiving, disconnect := .no } }
      else s
    | none => s)

/-- R13: the hold point opens: the sender releases TLD and keeps TLC low for its low half, and every evaluator pulls TLC low. -/
def State.holdOpens (s : State) : State :=
  { s with pins := { s.pins with
      tldLow := s.pins.tldLow && !s.sending
      tlcLow := s.sending || decide (s.link.role = some .evaluator) } }

/-- R13, R25: an evaluator's decision is ready: it pulls TLD low if it refuses, then releases TLC. -/
def State.holdDecided (s : State) (rx : RxPacket) : State :=
  let d := s.admission rx
  { s with
    link := { s.link with decision := some d, rx := some rx.buffered }
    pins := { s.pins with tldLow := d.refuse, tlcLow := false } }

/-- R4, R13, R25: HOLD_POINT. The hold point opens; an evaluator, its receive buffer holding the packet, keeps TLC low until its
admission decision is made. An observer holds nothing: one that sends has TLD released and releases TLC after its low half, and one
that receives drives neither line. -/
def execHoldPoint (rx : RxPacket) (s : State) : Result :=
  .next (if s.packetInProgress ∧ s.link.slot = .pending then
      match s.link.role with
      | some .evaluator => if s.link.decision = none then s.holdOpens.holdDecided rx else s
      | some .observer => s.holdOpens.releaseLink
      | none => s
    else s)

/-- R14, R35: PACKET_REFUSED. -/
def execPacketRefused (s : State) : Result := .next s.refused

/-- R9, R16, R22: STOP_CONDITION. TLD rises while TLC is high: the packet ends and the free-bus timer starts at the stop. Before
the refusal slot has ended the same rise is a break (R9). -/
def execStopCondition (s : State) : Result := .next (if s.packetInProgress then s.endPacket 0 else s)

/-- R9: PACKET_BREAK. A TLD change while TLC is high inside a packet ends it. -/
def execPacketBreak (s : State) : Result := .next (if s.packetInProgress then s.endPacket 0 else s)

/-- R16: PACKET_ABANDONED. TLD and TLC have both been high for a bus-free interval of 8 bit times: the packet ends, and the
free-bus timer has counted from the moment both went high. -/
def execPacketAbandoned (s : State) : Result :=
  .next (if s.packetInProgress then s.endPacket Config.busFreeBits else s)

/-- R20, R21, R22, R41: LINK_TIMEOUT. Inside a packet the station releases TLD and TLC, reports a time-out if the slot has not
been sampled, enters RECOVERY and posts LINK_TIMEOUT. DESIGN CHOICE (notes/assumptions/42.md): where a disconnection waits, it enters
DISCONNECTED at once and posts no LINK_TIMEOUT, since it enters no RECOVERY (R21); R20 has every time-out enter RECOVERY, and R22 has the
station enter DISCONNECTED when the attempt has run through the time-out. -/
def execLinkTimeout (s : State) : Result :=
  .next (if s.packetInProgress then
      let wanted := decide (s.link.disconnect = .wanted)
      let s := s.endPacket 0
      if wanted then s
      else ({ s with link := { s.link with state := .recovery } } : State).post .linkTimeout 0 0 0
    else s)

/-- R17: the interval the station needs in WAIT_FREE. -/
def Link.requiredBits (l : Link) : Nat := if l.fairWait then Config.fairWaitBits else Config.busFreeBits

/-- R17, R18: BUS_FREE_INTERVAL. Both lines have been high for `elapsed` bit times more: at 8, or 16 with the fair-wait flag set, the
station enters IDLE and the flag is cleared. -/
def execBusFreeInterval (elapsed : Nat) (s : State) : Result :=
  .next (if s.link.state = .waitFree then
      let t := s.link.freeBus + elapsed
      if s.link.requiredBits ≤ t then
        { s with link := { s.link with state := .idle, fairWait := false, freeBus := t } }
      else { s with link := { s.link with freeBus := t } }
    else s)

/-- R21: RECOVERY_BUS_FREE. In RECOVERY, both lines high for 8 bit times: WAIT_FREE, timer restarted from zero. -/
def execRecoveryBusFree (s : State) : Result :=
  .next (if s.link.state = .recovery then { s with link := { s.link with state := .waitFree, freeBus := 0 } } else s)

/-- R17, R18, R21: IRREGULAR_TLC_FALL. A TLC fall without a start condition, outside a packet: IDLE goes back to WAIT_FREE, and the
free-bus timer restarts from zero there as in WAIT_FREE and RECOVERY. -/
def execIrregularTlcFall (s : State) : Result :=
  .next (if s.link.state = .idle then { s with link := { s.link with state := .waitFree, freeBus := 0 } }
    else if s.link.state = .waitFree ∨ s.link.state = .recovery then { s with link := { s.link with freeBus := 0 } }
    else s)

end Sys2Proof.Machine
end

