-- ==== Sys2Proof/Machine/Membership.lean ====
section
/-! DEFINITION. The Membership Unit's commands (chapter 4): the join kinds, LEAVE and the snapshot packets as they are taken,
the transfer limit, the listen interval and the request timer. -/

namespace Sys2Proof.Machine

/-! ### JOIN, FOUND and JOIN-DENY (R78 to R82) -/

/-- R80: the outcome of a JOIN, or of a FOUND treated as one. -/
inductive JoinOutcome where
  | denied (r : DenyReason)
  | queued
  | appended
  deriving DecidableEq, Repr

/-- R80: the checks of a JOIN, in order. -/
def State.joinOutcome (s : State) (sender : StationId) (digest : Half) (level : Byte) : JoinOutcome :=
  if idIn sender s.mb.roster then .denied .duplicateId
  else if digest ≠ s.raster.fontDigest then .denied .font
  else if level ≠ Config.protocolLevel then .denied .level
  else if s.mb.joinQueue.contains sender then .queued
  else .appended

/-- R81, R31: a denial raises a pending JOIN-DENY at the lowest-id member, unless 16 are pending. -/
def State.raiseDenial (s : State) (target : StationId) (r : DenyReason) : State :=
  if s.isLowest ∧ s.tx.denials.length < Config.denialRoom then
    { s with tx := { s.tx with denials := s.tx.denials ++ [⟨target, r, 0⟩] } }
  else s

/-- R80: a JOIN, or a FOUND treated as one, delivered. -/
def State.deliverJoin (s : State) (sender : StationId) (payload : List Byte) : State :=
  match readJoin payload with
  | none => s
  | some (digest, level) =>
    match s.joinOutcome sender digest level with
    | .denied r => s.raiseDenial sender r
    | .queued => s
    | .appended => { s with mb := { s.mb with joinQueue := s.mb.joinQueue ++ [sender] } }

/-- R76, R77, R78: FOUND_TAKEN. -/
def execFoundTaken (sender : StationId) (payload : List Byte) (s : State) : Result :=
  .next (s.take .found sender payload fun s => if s.sentHere sender then s else s.deliverJoin sender payload)

/-- R80: JOIN_TAKEN. -/
def execJoinTaken (sender : StationId) (payload : List Byte) (s : State) : Result :=
  .next (s.take .join sender payload fun s => s.deliverJoin sender payload)

/-- R81, R82: JOIN_DENY_TAKEN. At an evaluator it is void or has no effect on control state. -/
def execJoinDenyTaken (sender : StationId) (payload : List Byte) (s : State) : Result :=
  .next (s.take .joinDeny sender payload fun s => s)

/-! ### The end of a transfer (R83, R89, R90) -/

/-- The transfer's end at a member or the joiner: the transfer state becomes none, the joiner's id leaves the head of the join
queue, and the source drops its snapshot position. -/
def State.endTransfer (s : State) : State :=
  { s with mb := { s.mb with transfer := none, joinQueue := s.mb.joinQueue.tail, snapPos := none } }

/-- R81: a member that has stopped being the lowest-id member drops its pending JOIN-DENYs. -/
def State.dropDenials (s : State) : State :=
  if s.isLowest then s else { s with tx := { s.tx with denials := [] } }

/-- R89: whether a JOIN-DONE passes: its sender is the joiner of a transfer in flight whose head is taken, and its snapshot epoch is
the open number. -/
def State.joinDoneValid (s : State) (sender : StationId) (epoch : Half) : Bool :=
  match s.mb.transfer with
  | some t => decide (t.joiner = sender) && t.headTaken && decide (epoch = s.ep.openNum)
  | none => false

/-- R89: status OK. The joiner joins the roster; it enters MEMBER and posts JOINED, and every member posts MEMBER_JOINED. -/
def State.admitJoiner (s : State) (sender : StationId) : State :=
  let joiner := s.isJoiner
  let s := s.endTransfer
  let s := { s with mb := { s.mb with roster := idAdd sender s.mb.roster } }
  let s := if joiner then
      ({ s with mb := { s.mb with state := .member, assembly := none } } : State).post .joined 0 0 0
    else (s.post .memberJoined (idByte sender) 0 0).dropDenials
  s.revote

/-- R89, R180: a JOIN-DONE delivered; one whose status names no value is void, as is one that fails the checks of R89. -/
def State.deliverJoinDone (s : State) (sender : StationId) (payload : List Byte) : State :=
  match readJoinDone payload with
  | none => s
  | some (epoch, good) =>
    if !s.joinDoneValid sender epoch then s
    else if good then s.admitJoiner sender
    else if s.isJoiner then s.removeSelf .transferAbandoned causeDigestFail false
    else s.endTransfer.revote

/-- R89: JOIN_DONE_TAKEN. -/
def execJoinDoneTaken (sender : StationId) (payload : List Byte) (s : State) : Result :=
  .next (s.take .joinDone sender payload fun s => s.deliverJoinDone sender payload)

/-- R90: TRANSFER_LIMIT. The transfer age has reached 240: the transfer is abandoned, and the joiner leaves it for LISTENING. -/
def execTransferLimit (s : State) : Result :=
  .next (match s.mb.transfer with
    | some t =>
      if Config.transferLimit ≤ t.age then
        if s.isJoiner then s.removeSelf .transferAbandoned causeLimit false
        else if s.isMember then s.endTransfer.revote
        else s
      else s
    | none => s)

/-! ### LEAVE (R92 to R95) -/

/-- R92: a LEAVE delivered: its sender is removed, by R94 at the sender and by R93 at every other member. DESIGN CHOICE
(notes/assumptions/12.md): a LEAVE has no field to read, so one whose payload is not empty is delivered as any other; every member refuses
it at admission (R25, R180). -/
def State.deliverLeave (s : State) (sender : StationId) : State :=
  if !idIn sender s.mb.roster then s.foreign sender .leave
  else if s.isMember ∧ sender = s.stationId then s.removeSelf .memberLeft (idByte sender) true
  else s.removeOther sender .memberLeft

/-- R92: LEAVE_TAKEN. -/
def execLeaveTaken (sender : StationId) (payload : List Byte) (s : State) : Result :=
  .next (s.take .leave sender payload fun s => s.deliverLeave sender)

/-! ### The snapshot (R86 to R88) -/

/-- R87: the assembly-fault flag set. -/
def State.assemblyFault (s : State) : State :=
  { s with mb := { s.mb with assembly := s.mb.assembly.map fun a => { a with fault := true } } }

/-- R86, R180: a SNAP-HEAD delivered: at a member one that passes sets the head-taken flag and the transfer age to 0; at the joiner,
which has taken its own, one out of its allowance sets the assembly-fault flag and any other has no effect. -/
def State.deliverHead (s : State) (sender : StationId) (payload : List Byte) : State :=
  if s.isJoiner then (if lengthAllowed .snapHead payload then s else s.assemblyFault) else
  match readSnapHead payload, s.mb.transfer with
  | some h, some t =>
    if s.isMember ∧ t.source = sender ∧ t.headTaken = false ∧ h.joiner = idByte t.joiner ∧ h.openNum = s.ep.openNum then
      { s with mb := { s.mb with transfer := some { t with headTaken := true, age := 0 } } }
    else s
  | _, _ => s

/-- R86: SNAP_HEAD_TAKEN. A REQUESTING station that the packet names hears it as an observer. -/
def execSnapHeadTaken (sender : StationId) (payload : List Byte) (s : State) : Result :=
  .next (s.take .snapHead sender payload fun s => s.deliverHead sender payload)

/-- R87: one more packet taken. -/
def State.countPacket (s : State) : State :=
  { s with mb := { s.mb with assembly := s.mb.assembly.map fun a => { a with packets := a.packets + 1 } } }

/-- R87: whether the sender is the source of the transfer. -/
def State.fromSource (s : State) (sender : StationId) : Bool :=
  match s.mb.transfer with
  | some t => decide (t.source = sender)
  | none => false

/-- R87: a snapshot packet at the joiner: not from the source, out of its allowance or out of range, it only sets the assembly-fault
flag; otherwise it is counted and written. At a member it has no effect. -/
def State.assemble {α : Type} (s : State) (sender : StationId) (content : Option α) (write : State → α → State) : State :=
  if s.isJoiner then
    match s.fromSource sender, content with
    | true, some c => write s.countPacket c
    | _, _ => s.assemblyFault
  else s

/-- R87: SNAP_PANE_TAKEN. -/
def execSnapPaneTaken (sender : StationId) (payload : List Byte) (s : State) : Result :=
  .next (s.take .snapPane sender payload fun s =>
    s.assemble sender (readPaneRecord payload) fun s r => s.setPane r.1 r.2)

/-- R87: a SNAP-FREE's extents appended when its index is the number of chunks taken and the list stays within 256; otherwise the
assembly-fault flag is set. -/
def State.appendFree (s : State) (index : Byte) (es : List Extent) : State :=
  match s.mb.assembly with
  | some a =>
    if index.toNat = a.chunks ∧ s.store.freeList.length + es.length ≤ Config.freeListRoom then
      { s with
        mb := { s.mb with assembly := some { a with chunks := a.chunks + 1 } }
        store := { s.store with freeList := s.store.freeList ++ es } }
    else s.assemblyFault
  | none => s

/-- R87: SNAP_FREE_TAKEN. -/
def execSnapFreeTaken (sender : StationId) (payload : List Byte) (s : State) : Result :=
  .next (s.take .snapFree sender payload fun s =>
    s.assemble sender (readSnapFree payload) fun s r => s.appendFree r.1 r.2)

/-- R87: SNAP_PALETTE_TAKEN. -/
def execSnapPaletteTaken (sender : StationId) (payload : List Byte) (s : State) : Result :=
  .next (s.take .snapPalette sender payload fun s =>
    s.assemble sender (readSnapPalette payload) fun s r => s.writePalette r.1 r.2.1.toNat r.2.2)

/-- R87: SNAP_CELLS_TAKEN. -/
def execSnapCellsTaken (sender : StationId) (payload : List Byte) (s : State) : Result :=
  .next (s.take .snapCells sender payload fun s =>
    s.assemble sender (readSnapCells payload) fun s r =>
      { s with store := { s.store with cells := writeCells s.store.cells r.1 r.2 } })

/-- R88: whether the snapshot is good against the count and digest carried. -/
def State.snapshotGood (s : State) (count digest : Half) : Bool :=
  match s.mb.assembly with
  | some a => !a.fault && decide (a.packets = count.toNat) && decide (cellDigest s.store.cells = digest)
  | none => false

/-- R88, R180: a SNAP-END at the joiner: out of its allowance it sets the assembly-fault flag; from the source, JOIN-DONE is raised. -/
def State.deliverEnd (s : State) (sender : StationId) (payload : List Byte) : State :=
  if s.isJoiner then
    match readSnapEnd payload with
    | none => s.assemblyFault
    | some (count, digest) =>
      if s.fromSource sender then
        { s with tx := { s.tx with joinDone := some ⟨s.ep.openNum, s.snapshotGood count digest, 0⟩ } }
      else s
  else s

/-- R88: SNAP_END_TAKEN. -/
def execSnapEndTaken (sender : StationId) (payload : List Byte) (s : State) : Result :=
  .next (s.take .snapEnd sender payload fun s => s.deliverEnd sender payload)

/-! ### Timers (R74, R79) -/

/-- R74: LISTEN_INTERVAL_EXPIRY. With no evidence of a group, a FOUND is appended and FOUNDING entered. -/
def execListenIntervalExpiry (s : State) : Result :=
  .next (if s.mb.state = .listening ∧ s.mb.listenTimer.isSome then
      let s := s.enqueue .found
      { s with mb := { s.mb with state := .founding, listenTimer := none, foundBegun := false } }
    else s)

/-- R79: REQUEST_TIMER_EXPIRY. With a rise seen the JOIN is sent again and the timer restarts; with none the queued JOIN is
withdrawn and LISTENING entered. -/
def execRequestTimerExpiry (s : State) : Result :=
  .next (if s.mb.state = .requesting ∧ s.mb.requestTimer.isSome then
      if s.mb.riseSeen then
        let s := s.withdrawJoin.enqueue .join
        { s with mb := { s.mb with requestTimer := some Config.requestMs, riseSeen := false } }
      else s.withdrawJoin.enterListening
    else s)

end Sys2Proof.Machine
end

