-- ==== Sys2Proof/Machine/Panes.lean ====
section
/-! DEFINITION. The taken packets that move panes and stage entries (chapters 5 to 7): CLAIM, HANDOVER, RELEASE and the five
UPDATE kinds. -/

namespace Sys2Proof.Machine

/-- R102: the outcome of a CLAIM's own checks. -/
inductive ClaimOutcome where
  | void (r : Reason)
  | claimed (base : Nat) (freeList : List Extent)
  | adopted (ext : Extent)
  deriving DecidableEq, Repr

/-- R102: a CLAIM's own checks, in order. -/
def claimOutcome (p : Pane) (fl : List Extent) (count : Nat) : ClaimOutcome :=
  if count = 0 then
    match p.control with
    | .free => .void .badCount
    | .owned _ _ => .void .taken
    | .releasing _ => .void .taken
    | .orphan e => .adopted e
  else
    match p.control with
    | .free =>
      match firstFit count fl with
      | some (b, fl') => .claimed b fl'
      | none => .void .noRoom
    | _ => .void .taken

/-- R26, R102 to R104: a CLAIM delivered. -/
def State.deliverClaim (s : State) (sender : StationId) (payload : List Byte) : State :=
  match readClaim payload with
  | none => s
  | some (p, count) =>
    if !idIn sender s.mb.roster then s.foreign sender .claim
    else
      let n := count.toNat
      match (if n = 0 then some EpochClass.openE else s.ep.current sender) with
      | none => s.voidEvent sender .claimLost .stale (p.setWidth 16) 0
      | some c =>
        if !(paneInRange p && decide (n ≤ Config.granules)) then s.voidEvent sender .claimLost .range (p.setWidth 16) 0
        else
          let i := paneIx p
          match claimOutcome (s.pane i) s.store.freeList n with
          | .void r => s.voidEvent sender .claimLost r (p.setWidth 16) 0
          | .claimed b fl =>
            let e : Extent := ⟨b, n⟩
            let s := { s with store := { s.store with freeList := fl } }
            let s := (s.setControl i (.owned sender e)).stage c sender none (.clear p e)
            if s.isMember ∧ s.sentHere sender then s.post .claimWon p (half b) (half n) else s
          | .adopted e =>
            let s := s.setControl i (.owned sender e)
            if s.isMember ∧ s.sentHere sender then s.post .claimWon p (half e.base) (half e.size) else s

/-- CLAIM_TAKEN. -/
def execClaimTaken (sender : StationId) (payload : List Byte) (s : State) : Result :=
  .next (s.take .claim sender payload fun s => s.deliverClaim sender payload)

/-- R26, R105: a HANDOVER delivered. -/
def State.deliverHandover (s : State) (sender : StationId) (payload : List Byte) : State :=
  match readHandover payload with
  | none => s
  | some (p, t) =>
    if !idIn sender s.mb.roster then s.foreign sender .handover
    else
      match paneInRange p, idOfByte t with
      | true, some target =>
        let i := paneIx p
        match (s.pane i).control with
        | .owned o e =>
          if o ≠ sender then s.voidEvent sender .handoverFailed .notOwner (p.setWidth 16) 0
          else if !idIn target s.mb.roster ∨ target = sender then
            s.voidEvent sender .handoverFailed .badTarget (p.setWidth 16) 0
          else
            let s := s.setControl i (.owned target e)
            let s := if s.isMember ∧ target = s.stationId then s.post .paneReceived p (idByte sender |>.setWidth 16) 0 else s
            if s.isMember ∧ s.sentHere sender then s.post .handoverDone p (t.setWidth 16) 0 else s
        | _ => s.voidEvent sender .handoverFailed .notOwner (p.setWidth 16) 0
      | _, _ => s.voidEvent sender .handoverFailed .range (p.setWidth 16) 0

/-- HANDOVER_TAKEN. -/
def execHandoverTaken (sender : StationId) (payload : List Byte) (s : State) : Result :=
  .next (s.take .handover sender payload fun s => s.deliverHandover sender payload)

/-- R26, R107: a RELEASE delivered. -/
def State.deliverRelease (s : State) (sender : StationId) (payload : List Byte) : State :=
  match readTaggedByte payload with
  | none => s
  | some (tag, p) =>
    if !idIn sender s.mb.roster then s.foreign sender .release
    else
      match s.attribute sender tag with
      | none => s.voidEvent sender .releaseFailed .stale (p.setWidth 16) 0
      | some c =>
        match paneInRange p, (s.pane (paneIx p)).control with
        | true, .owned o e =>
          if o = sender then (s.setControl (paneIx p) (.releasing e)).stage c sender none (.release p)
          else s.voidEvent sender .releaseFailed .notOwner (p.setWidth 16) 0
        | _, _ => s.voidEvent sender .releaseFailed .notOwner (p.setWidth 16) 0

/-- RELEASE_TAKEN. -/
def execReleaseTaken (sender : StationId) (payload : List Byte) (s : State) : Result :=
  .next (s.take .release sender payload fun s => s.deliverRelease sender payload)

/-- R128: PUT_CELLS_TAKEN. -/
def execPutCellsTaken (sender : StationId) (payload : List Byte) (s : State) : Result :=
  .next (s.take .putCells sender payload fun s => s.deliverUpdate .putCells sender payload)

/-- R130: FILL_TAKEN. -/
def execFillTaken (sender : StationId) (payload : List Byte) (s : State) : Result :=
  .next (s.take .fill sender payload fun s => s.deliverUpdate .fill sender payload)

/-- R133: COPY_TAKEN. -/
def execCopyTaken (sender : StationId) (payload : List Byte) (s : State) : Result :=
  .next (s.take .copy sender payload fun s => s.deliverUpdate .copy sender payload)

/-- R112: SET_PANE_TAKEN. -/
def execSetPaneTaken (sender : StationId) (payload : List Byte) (s : State) : Result :=
  .next (s.take .setPane sender payload fun s => s.deliverUpdate .setPane sender payload)

/-- R155: SET_PALETTE_TAKEN. -/
def execSetPaletteTaken (sender : StationId) (payload : List Byte) (s : State) : Result :=
  .next (s.take .setPalette sender payload fun s => s.deliverUpdate .setPalette sender payload)

end Sys2Proof.Machine
end

