-- ==== Sys2Proof/Machine/Raster.lean ====
section
/-! DEFINITION. The Raster Engine's timing: the rise of TLF at the pin, the vertical phases, the sync states, and the span list of a
tile cell row (sections 7.2 to 7.4). -/

namespace Sys2Proof.Machine

/-- The vertical phase entered; a HOLD's marks, and the mark of a cut line of ACTIVE, are cleared with it. -/
def State.enterPhase (s : State) (p : Phase) : State :=
  { s with raster := { s.raster with phase := some p, waiting := false, holdEnding := false, lineRest := false } }

/-- R138, R142: a rise read at the pin counts for the frame interval floor while the raster runs. -/
def State.noteRise (s : State) : State :=
  { s with raster := { s.raster with riseRead := s.raster.riseRead || s.raster.phase.isSome } }

/-- R2, R19: a station that is not DISCONNECTED samples TLV, as it stood just before the rise, for the rise's shared effects. -/
def State.sampleVote (s : State) (tlvHigh : Bool) : State :=
  if s.link.state = .disconnected then s
  else { s with link := { s.link with riseSample := some (tlvHigh && !s.pins.tlvLow) } }

/-- R144: a rise seen in FREE_RUN: LOCKED, and FRAME_RELOCKED is posted; the timing does not move and TLF was not pulled in this
frame. -/
def State.relock (s : State) : State :=
  ({ s with raster := { s.raster with sync := .locked, holding := false, pulled := false } } : State).post .frameRelocked 0 0 0

/-- R2, R138, R141 to R144: TLF_RISE. `tlvHigh`: no other station pulled TLV just before the rise. No rise is read while this
station pulls TLF itself. DESIGN CHOICE (notes/assumptions/49.md): a FREE_RUN station posts FRAME_RELOCKED here, before what TLF_RISE_EFFECTS posts for the
same rise, and so with the open number that stands before that rise's commit. -/
def execTlfRise (tlvHigh : Bool) (s : State) : Result :=
  .next (if s.pins.tlfLow then s
    else
      let ends := s.waitsForRise
      let s := (s.sampleVote tlvHigh).noteRise
      if s.raster.sync = .freeRun then s.relock
      else if ends then s.enterPhase .back
      else s)

/-- R139: a configuration held takes effect at the entry to FRONT. -/
def State.takeTiming (s : State) : State :=
  match s.raster.config with
  | some f => { s with raster := { s.raster with timing := some f } }
  | none => s

/-- R140: a member becomes LOCKED at its next entry to FRONT. -/
def State.lockMember (s : State) : State :=
  if s.raster.sync = .following ∧ s.isMember then { s with raster := { s.raster with sync := .locked } } else s

/-- R142: a LOCKED station pulls TLF low at FRONT and sets its holding flag. -/
def State.pullFrame (s : State) : State :=
  let on := decide (s.raster.sync = .locked)
  { s with
    raster := { s.raster with holding := on, pulled := on }
    pins := { s.pins with tlfLow := on } }

/-- R63: the apply pass starts at FRONT while the pending-apply flag is set. -/
def State.startPass (s : State) : State :=
  if s.ep.pendingApply then { s with ep := { s.ep with passRunning := true, passDone := 0 } } else s

/-- R63, R138, R139, R140, R142: ENTER_FRONT, at the end of ACTIVE's last line. -/
def execEnterFront (s : State) : Result :=
  .next (if s.inPhase .active then (s.enterPhase .front).takeTiming.lockMember.pullFrame.startPass else s)

/-- R138: FRONT_END. -/
def execFrontEnd (s : State) : Result := .next (if s.inPhase .front then s.enterPhase .sync else s)

/-- R138: SYNC_END. -/
def execSyncEnd (s : State) : Result := .next (if s.inPhase .sync then s.enterPhase .hold else s)

/-- R142: TLF_RELEASE. In HOLD a LOCKED station that holds TLF releases it once its apply pass has ended and the frame interval floor
is met. -/
def execTlfRelease (sinceRiseUs : Nat) (s : State) : Result :=
  .next (if s.inPhase .hold ∧ s.raster.sync = .locked ∧ s.raster.holding ∧ ¬ s.ep.passRunning ∧ s.floorMet sinceRiseUs then
      { s with
        raster := { s.raster with holding := false }
        pins := { s.pins with tlfLow := false } }
    else s)

/-- R141, R143, R144: whether BACK begins after a HOLD line that ends with TLF at the level given. DESIGN CHOICE
(notes/assumptions/40.md): once a limit has passed, HOLD ends at the end of the line in progress whatever the sync state has become in
that line by a removal, a soft reset or a relock. -/
def State.holdGoesOn (s : State) (pinHigh : Bool) : Bool :=
  !s.ep.passRunning
  && (s.raster.holdEnding
      || (match s.raster.sync with
          | .following => pinHigh
          | .locked => !s.raster.pulled && pinHigh
          | .freeRun => true
          | .stopped => false))

/-- R138, R141, R144: HOLD_LINE_END. `tlfHigh`: no other station pulls TLF. A FOLLOWING station that finds TLF low waits. -/
def execHoldLineEnd (tlfHigh : Bool) (s : State) : Result :=
  .next (if s.inPhase .hold then
      let pinHigh := tlfHigh && !s.pins.tlfLow
      if s.holdGoesOn pinHigh then s.enterPhase .back
      else if s.raster.sync = .following ∧ pinHigh = false then { s with raster := { s.raster with waiting := true } }
      else s
    else s)

/-- R141: FOLLOWING_WAIT_LIMIT. The wait of a FOLLOWING station has reached 100 ms with TLF low: HOLD ends at the end of the line in
progress. -/
def execFollowingWaitLimit (s : State) : Result :=
  .next (if s.inPhase .hold ∧ s.raster.sync = .following ∧ s.raster.waiting then
      { s with raster := { s.raster with holdEnding := true } }
    else s)

/-- R143: FRAME_HOLD_LIMIT. The frame-hold timer of a LOCKED station has passed 100 ms: FREE_RUN, FRAME_LOST, and HOLD ends at the
end of the line in progress. The timer runs with no apply pass running and the station's own TLF driver released. -/
def execFrameHoldLimit (s : State) : Result :=
  .next (if s.inPhase .hold ∧ s.raster.sync = .locked ∧ ¬ s.ep.passRunning ∧ ¬ s.pins.tlfLow then
      ({ s with raster := { s.raster with sync := .freeRun, holdEnding := true } } : State).post .frameLost 0 0 0
    else s)

/-- R138, R146, R152: BACK_END. ACTIVE begins; the blink and cursor phases are taken from the applied number, and the overflow mark
is cleared. -/
def execBackEnd (s : State) : Result :=
  .next (if s.inPhase .back then
      let s := s.enterPhase .active
      { s with raster := { s.raster with
          blinkOn := !s.ep.applied.getLsbD 4, cursorOn := !s.ep.applied.getLsbD 3, overflowMark := false } }
    else s)

/-! ### The span list (R146) -/

/-- R99: a pane is drawn when its visible field is 1 and its display extent is present. -/
def Display.drawn (d : Display) : Bool := d.visible && d.ext.isSome

/-- The last row or column of a window side that begins at `start`, clipped at 4095. -/
def windowEnd (start size : Nat) : Nat := min (start + size - 1) 4095

/-- Whether a pane's canvas rows include a canvas row. -/
def Display.coversRow (d : Display) (row : Nat) : Bool :=
  decide (d.row.toNat ≤ row) && decide (row ≤ windowEnd d.row.toNat d.height.toNat)

/-- Whether a pane's canvas columns include a canvas column. -/
def Display.coversCol (d : Display) (col : Nat) : Bool :=
  decide (d.col.toNat ≤ col) && decide (col ≤ windowEnd d.col.toNat d.width.toNat)

/-- R146: whether a pane qualifies for a tile cell row. -/
def Display.qualifies (d : Display) (f : TileFields) (row : Nat) : Bool :=
  d.drawn && d.coversRow (f.originRow.toNat + row)
  && decide (d.col.toNat ≤ f.originCol.toNat + f.cols - 1)
  && decide (f.originCol.toNat ≤ windowEnd d.col.toNat d.width.toNat)

/-- R146: the order of the span list: depth, highest first, then the lower pane id. -/
def State.above (s : State) (i j : Fin 32) : Bool :=
  let a := (s.pane i).display.depth
  let b := (s.pane j).display.depth
  decide (b < a) || (decide (a = b) && decide (i < j))

/-- A pane placed in the order of the span list. -/
def State.insertSpan (s : State) (i : Fin 32) : List (Fin 32) → List (Fin 32)
  | [] => [i]
  | j :: t => if s.above i j then i :: j :: t else j :: s.insertSpan i t

/-- R146: the panes that qualify for a tile cell row, in the order of the span list. -/
def State.qualifying (s : State) (f : TileFields) (row : Nat) : List (Fin 32) :=
  ((List.finRange 32).filter fun i => (s.pane i).display.qualifies f row).foldr s.insertSpan []

/-- R146: SPAN_LIST_BUILD, at the start of a tile cell row in ACTIVE. -/
def execSpanListBuild (row : Nat) (s : State) : Result :=
  .next (match s.raster.timing with
    | some f =>
      if s.inPhase .active ∧ s.raster.composites ∧ row < f.rows then
        let q := s.qualifying f row
        let s := { s with raster := { s.raster with spanRow := row, spanList := q.take Config.spanRoom } }
        if Config.spanRoom < q.length ∧ s.raster.overflowMark = false then
          let s := { s with raster := { s.raster with overflowMark := true } }
          s.post .rasterOverflow (byte row) (half q.length) 0
        else s
      else s
    | none => s)

end Sys2Proof.Machine
end

