-- ==== Sys2Proof/Machine/Reset.lean ====
section
/-! DEFINITION. Power-on reset and soft reset (R23, R41, R44, R69, R100, R121, R140, R149, R154, R176, R177). -/

namespace Sys2Proof.Machine

/-- R177: POWER_ON_RESET. Every block is reset and the straps are sampled. The commands that wait and the model's own counter are not
part of the chip. -/
def execPowerOnReset (straps : StationId) (s : State) : Result :=
  .next { State.reset with stationId := straps, freeCount := s.freeCount, pending := s.pending }

/-- R140, R157: the Raster Engine at soft reset: configuration and font B kept; FOLLOWING if configured, STOPPED otherwise; a raster
that is running keeps its line and phase timing, and one that is not starts as GO-ONLINE would start it (notes/assumptions/16.md). -/
def Raster.softReset (r : Raster) : Raster :=
  match r.config with
  | none => { rasterReset with fontB := r.fontB, fontDigest := r.fontDigest }
  | some f =>
    if r.phase.isSome then { r with sync := .following, holding := false, pulled := false, lineRest := r.cutsLine }
    else { rasterReset with
      config := some f, timing := some f, sync := .following, phase := some .front, fontB := r.fontB, fontDigest := r.fontDigest }

/-- R176: SOFT_RESET, at the rise of CSn that ends a RESET transaction. DEDUCED (notes/assumptions/47.md): RESET_DONE, posted into the queue the
reset has emptied, carries the open number as the reset left it (R44, R173). -/
def execSoftReset (straps : StationId) (s : State) : Result :=
  .next (if s.host.resetWaiting then
      ({ State.reset with
          stationId := straps
          raster := s.raster.softReset
          freeCount := s.freeCount
          pending := s.pending } : State).post .resetDone (idByte straps) 0 0
    else s)

end Sys2Proof.Machine
end

