-- ==== Sys2Proof/Machine/Dispatch.lean ====
section
/-! DEFINITION. One arm per command: each is one call of its meaning. -/

namespace Sys2Proof.Machine

open Sys2Proof

/-- The effect of a command on everything but the queue of waiting commands. -/
def exec (i : Instr) (s : State) : Host.Outcome State Fault Refusal :=
  match i with
  | .powerOnReset straps => Sys2Proof.Machine.execPowerOnReset straps s
  | .transactionStart => Sys2Proof.Machine.execTransactionStart s
  | .framingError bits => Sys2Proof.Machine.execFramingError bits s
  | .badCommand byte => Sys2Proof.Machine.execBadCommand byte s
  | .configure f => Sys2Proof.Machine.execConfigure f s
  | .loadFontB code rows => Sys2Proof.Machine.execLoadFontB code rows s
  | .goOnline => Sys2Proof.Machine.execGoOnline s
  | .goOffline => Sys2Proof.Machine.execGoOffline s
  | .reset => Sys2Proof.Machine.execReset s
  | .softReset straps => Sys2Proof.Machine.execSoftReset straps s
  | .beginBatch => Sys2Proof.Machine.execBeginBatch s
  | .endBatch => Sys2Proof.Machine.execEndBatch s
  | .putCells a => Sys2Proof.Machine.execPutCells a s
  | .fill a => Sys2Proof.Machine.execFill a s
  | .copy a => Sys2Proof.Machine.execCopy a s
  | .setPane a => Sys2Proof.Machine.execSetPane a s
  | .setPalette a => Sys2Proof.Machine.execSetPalette a s
  | .claim pane count => Sys2Proof.Machine.execClaim pane count s
  | .handover pane target => Sys2Proof.Machine.execHandover pane target s
  | .release pane => Sys2Proof.Machine.execRelease pane s
  | .readStatus => Sys2Proof.Machine.execReadStatus s
  | .readEvent => Sys2Proof.Machine.execReadEvent s
  | .eventRecordRemoval => Sys2Proof.Machine.execEventRecordRemoval s
  | .readPane pane => Sys2Proof.Machine.execReadPane pane s
  | .readCells offset count => Sys2Proof.Machine.execReadCells offset count s
  | .readRoster => Sys2Proof.Machine.execReadRoster s
  | .startCondition tlfHighBits => Sys2Proof.Machine.execStartCondition tlfHighBits s
  | .startSeen => Sys2Proof.Machine.execStartSeen s
  | .holdPoint rx => Sys2Proof.Machine.execHoldPoint rx s
  | .packetRefused => Sys2Proof.Machine.execPacketRefused s
  | .observerReceipt slotHigh rx => Sys2Proof.Machine.execObserverReceipt slotHigh rx s
  | .foundTaken sender payload => Sys2Proof.Machine.execFoundTaken sender payload s
  | .joinTaken sender payload => Sys2Proof.Machine.execJoinTaken sender payload s
  | .joinDenyTaken sender payload => Sys2Proof.Machine.execJoinDenyTaken sender payload s
  | .joinDoneTaken sender payload => Sys2Proof.Machine.execJoinDoneTaken sender payload s
  | .leaveTaken sender payload => Sys2Proof.Machine.execLeaveTaken sender payload s
  | .claimTaken sender payload => Sys2Proof.Machine.execClaimTaken sender payload s
  | .handoverTaken sender payload => Sys2Proof.Machine.execHandoverTaken sender payload s
  | .releaseTaken sender payload => Sys2Proof.Machine.execReleaseTaken sender payload s
  | .retractTaken sender payload => Sys2Proof.Machine.execRetractTaken sender payload s
  | .closeTaken sender payload => Sys2Proof.Machine.execCloseTaken sender payload s
  | .putCellsTaken sender payload => Sys2Proof.Machine.execPutCellsTaken sender payload s
  | .fillTaken sender payload => Sys2Proof.Machine.execFillTaken sender payload s
  | .copyTaken sender payload => Sys2Proof.Machine.execCopyTaken sender payload s
  | .setPaneTaken sender payload => Sys2Proof.Machine.execSetPaneTaken sender payload s
  | .setPaletteTaken sender payload => Sys2Proof.Machine.execSetPaletteTaken sender payload s
  | .snapHeadTaken sender payload => Sys2Proof.Machine.execSnapHeadTaken sender payload s
  | .snapPaneTaken sender payload => Sys2Proof.Machine.execSnapPaneTaken sender payload s
  | .snapFreeTaken sender payload => Sys2Proof.Machine.execSnapFreeTaken sender payload s
  | .snapPaletteTaken sender payload => Sys2Proof.Machine.execSnapPaletteTaken sender payload s
  | .snapCellsTaken sender payload => Sys2Proof.Machine.execSnapCellsTaken sender payload s
  | .snapEndTaken sender payload => Sys2Proof.Machine.execSnapEndTaken sender payload s
  | .stopCondition => Sys2Proof.Machine.execStopCondition s
  | .packetBreak => Sys2Proof.Machine.execPacketBreak s
  | .packetAbandoned => Sys2Proof.Machine.execPacketAbandoned s
  | .linkTimeout => Sys2Proof.Machine.execLinkTimeout s
  | .busFreeInterval elapsed => Sys2Proof.Machine.execBusFreeInterval elapsed s
  | .recoveryBusFree => Sys2Proof.Machine.execRecoveryBusFree s
  | .irregularTlcFall => Sys2Proof.Machine.execIrregularTlcFall s
  | .tlfRise tlvHigh => Sys2Proof.Machine.execTlfRise tlvHigh s
  | .tlfRiseEffects => Sys2Proof.Machine.execTlfRiseEffects s
  | .stallLimit => Sys2Proof.Machine.execStallLimit s
  | .transferLimit => Sys2Proof.Machine.execTransferLimit s
  | .exhaustedUpdate => Sys2Proof.Machine.execExhaustedUpdate s
  | .exhaustedRequest => Sys2Proof.Machine.execExhaustedRequest s
  | .selfDemotion => Sys2Proof.Machine.execSelfDemotion s
  | .listenIntervalExpiry => Sys2Proof.Machine.execListenIntervalExpiry s
  | .requestTimerExpiry => Sys2Proof.Machine.execRequestTimerExpiry s
  | .enterFront => Sys2Proof.Machine.execEnterFront s
  | .applyClear => Sys2Proof.Machine.execApplyClear s
  | .applyPutCells => Sys2Proof.Machine.execApplyPutCells s
  | .applyFill => Sys2Proof.Machine.execApplyFill s
  | .applyCopy => Sys2Proof.Machine.execApplyCopy s
  | .applySetPane => Sys2Proof.Machine.execApplySetPane s
  | .applySetPalette => Sys2Proof.Machine.execApplySetPalette s
  | .applyRelease => Sys2Proof.Machine.execApplyRelease s
  | .applyPassEnd => Sys2Proof.Machine.execApplyPassEnd s
  | .frontEnd => Sys2Proof.Machine.execFrontEnd s
  | .syncEnd => Sys2Proof.Machine.execSyncEnd s
  | .tlfRelease sinceRiseUs => Sys2Proof.Machine.execTlfRelease sinceRiseUs s
  | .holdLineEnd tlfHigh => Sys2Proof.Machine.execHoldLineEnd tlfHigh s
  | .followingWaitLimit => Sys2Proof.Machine.execFollowingWaitLimit s
  | .frameHoldLimit => Sys2Proof.Machine.execFrameHoldLimit s
  | .backEnd => Sys2Proof.Machine.execBackEnd s
  | .spanListBuild row => Sys2Proof.Machine.execSpanListBuild row s
  | .lostInArbitration slot => Sys2Proof.Machine.execLostInArbitration slot s
  | .transactionEnd => Sys2Proof.Machine.execTransactionEnd s

end Sys2Proof.Machine
end

