-- ==== Sys2Proof/Machine/Video.lean ====
section
/-! DEFINITION. What the panel is shown (R137, R145, R147 to R153, R157): pure functions of the state, the line of the vertical
phase, and the pixel period within the line. The part counts lines and pixels; the model's state does not (notes/assumptions/2.md), so a
function here takes them. -/

namespace Sys2Proof.Machine

/-- R117: the blank cell. -/
def blankCell : Cell := ⟨0x20, 0x07⟩

/-! ### Glyphs (R149) -/

/-- R149: font A. Codes 00h and 20h have no pixel set and code FFh every pixel; the others are ROM contents the spec does not list
(notes/assumptions/3.md). -/
def glyphRowA (code : Byte) (scan : Fin 16) : Byte :=
  if code = 0x00 then 0x00 else if code = 0x20 then 0x00 else if code = 0xFF then 0xFF else Config.fontARow code scan

/-- R149: the row byte of a code's glyph in the pane's font. -/
def State.glyphRow (s : State) (f : Font) (code : Byte) (scan : Fin 16) : Byte :=
  match f with
  | .a => glyphRowA code scan
  | .b => fontBRow s.raster.fontB code.toNat scan.val

/-- R149: pixel x of a scanline, counted from the left, is bit 7 − x of the row byte. -/
def glyphPixel (row : Byte) (x : Nat) : Bool := row.getLsbD (7 - x)

/-! ### The attribute (R118) -/

/-- R118: foreground index, the four lowest positions. -/
def foreground (attr : Byte) : BitVec 4 := attr.extractLsb' 0 4
/-- R118: background index, the next three positions. -/
def background (attr : Byte) : BitVec 4 := (attr.extractLsb' 4 3).setWidth 4
/-- R118: the mode bit, the highest position. -/
def modeBit (attr : Byte) : Bool := attr.getLsbD 7

/-! ### A tile cell (R147, R148) -/

/-- R147: the first pane of the span list whose columns contain a canvas column. -/
def State.paneOnTop (s : State) (canvasCol : Nat) : Option (Fin 32) :=
  s.raster.spanList.find? fun i => (s.pane i).display.coversCol canvasCol

/-- R148: the cell a pane shows at a window row and column. -/
def State.cellShown (s : State) (d : Display) (winRow winCol : Nat) : Cell :=
  match d.ext with
  | some e =>
    let p := d.gridCols
    let r := gridRows e p
    let viewCol := d.scrollCol.toNat + winCol
    if p ≤ viewCol ∨ r = 0 then blankCell
    else readCell s.store.cells (gridCell e p ((d.scrollRow.toNat + winRow) % r) viewCol)
  | none => blankCell

/-- R99: the cursor is present when its bottom scanline is not less than its top. -/
def Cursor.present (c : Cursor) : Bool := decide (c.top ≤ c.bottom)

/-- R153: whether a pane's cursor covers a scanline of the cell at a window position. -/
def Display.cursorAt (d : Display) (winRow winCol : Nat) (scan : Fin 16) : Bool :=
  d.cursor.present && decide (d.cursor.row.toNat < d.height.toNat) && decide (d.cursor.col.toNat < d.width.toNat)
  && decide (d.cursor.row.toNat = winRow) && decide (d.cursor.col.toNat = winCol)
  && decide (d.cursor.top.toNat ≤ scan.val) && decide (scan.val ≤ d.cursor.bottom.toNat)

/-! ### Colour (R151) -/

/-- R151: the foreground and background indices of a cell on a scanline, after the BRIGHT, BLINK and cursor steps. -/
def cellIndices (d : Display) (attr : Byte) (blinkOn cursorHere : Bool) : BitVec 4 × BitVec 4 :=
  let fg := foreground attr
  let bg := if d.mode = .bright ∧ modeBit attr then background attr ||| 8 else background attr
  let fg := if d.mode = .blink ∧ modeBit attr ∧ blinkOn = false then bg else fg
  if cursorHere then (bg, fg) else (fg, bg)

/-- R151, step 2: whether a pixel of a cell is set. -/
def pixelSet (d : Display) (attr row : Byte) (scan : Fin 16) (x : Nat) : Bool :=
  glyphPixel row x || (decide (d.mode = .underline) && modeBit attr && decide (scan.val = d.underline.toNat))

/-- R154: an entry of a palette bank; bank 0 is the ROM bank. -/
def State.colour (s : State) (bank : BitVec 2) (i : BitVec 4) : Colour :=
  if bank = 0 then bank0[i.toNat]'i.isLt
  else (s.palettes[(bank.toNat + 2) % 3]'(Nat.mod_lt _ (by decide)))[i.toNat]'i.isLt

/-- R147: the background, bank 0 entry 0. -/
def backgroundColour : Colour := bank0[0]

/-- R151: a pixel of the cell that pane `i` shows at a canvas position. -/
def State.panePixel (s : State) (i : Fin 32) (canvasRow canvasCol : Nat) (scan : Fin 16) (x : Nat) : Colour :=
  let d := (s.pane i).display
  let winRow := canvasRow - d.row.toNat
  let winCol := canvasCol - d.col.toNat
  let c := s.cellShown d winRow winCol
  let (fg, bg) := cellIndices d c.attr s.raster.blinkOn (s.raster.cursorOn && d.cursorAt winRow winCol scan)
  s.colour d.bank (if pixelSet d c.attr (s.glyphRow d.font c.char scan) scan x then fg else bg)

/-- R145: the tile cell row that an ACTIVE line, counted from 0, lies in: row r covers the lines 16r to 16r + 15. -/
def tileCellRow (line : Nat) : Nat := line / 16

/-- R145, R149: the scanline of that row's cells that the line shows. -/
def scanlineOf (line : Nat) : Fin 16 := ⟨line % 16, Nat.mod_lt _ (by decide)⟩

/-- R145: the tile cell column that an active pixel lies in: column c covers the pixels 8c to 8c + 7. -/
def tileCellCol (pixel : Nat) : Nat := pixel / 8

/-- R140, R145, R147, R151: an active pixel of an ACTIVE line, by the span list held. `begun`: the line had begun when the sync
state last changed. In a line cut by a change to FOLLOWING the pixels are free values (notes/assumptions/41.md); the background shows from
the next line on. -/
def State.activePixel (s : State) (f : TileFields) (begun : Bool) (line pixel : Nat) : Colour :=
  if s.raster.composites then
    let canvasCol := f.originCol.toNat + tileCellCol pixel
    match s.paneOnTop canvasCol with
    | some i => s.panePixel i (f.originRow.toNat + tileCellRow line) canvasCol (scanlineOf line) (pixel % 8)
    | none => backgroundColour
  else if s.raster.lineRest && begun then Config.scanlineRest (tileCellRow line) (scanlineOf line) pixel
  else backgroundColour

/-! ### The outputs (R137, R157) -/

/-- R157: the panel outputs at one pixel period. -/
structure VideoOut where
  pclk : Bool
  de : Bool
  rgb : Colour
  hs : Bool
  vs : Bool
  deriving DecidableEq, Repr

/-- R157: the outputs in STOPPED. -/
def videoStopped : VideoOut := ⟨false, false, 0, true, true⟩

/-- R137, R157: the outputs at pixel `pixel`, below horizontal total, of line `line` of the vertical phase, `pxclk` being the level of the PXCLK input.
`begun` says that the line had begun when the sync state last changed. `State.panel` gives the pixel. -/
def State.video (s : State) (pxclk begun : Bool) (line pixel : Nat) : VideoOut :=
  match s.raster.phase, s.raster.timing with
  | some ph, some f =>
    let de := decide (ph = .active) && decide (pixel < f.hActive.toNat)
    { pclk := pxclk
      de := de
      rgb := if de then s.activePixel f begun line pixel else 0
      hs := !(decide (f.hSyncStart.toNat ≤ pixel) && decide (pixel < f.hSyncEnd.toNat))
      vs := decide (ph ≠ .sync) }
  | _, _ => videoStopped

/-! ### Lines of pixel periods (R137, R138, R157) -/

/-- R138: how many lines a vertical phase has; HOLD has 1 or more, as the sync state gives. -/
def TileFields.phaseLines (f : TileFields) : Phase → Option Nat
  | .active => some f.vActive.toNat
  | .front => some f.vFront.toNat
  | .sync => some f.vSync.toNat
  | .hold => none
  | .back => some f.vBack.toNat

/-- R137, R138: how many pixel periods a vertical phase lasts, each of its lines being horizontal total of them. -/
def TileFields.phasePeriods (f : TileFields) (p : Phase) : Option Nat := (f.phaseLines p).map (· * f.hTotal.toNat)

/-- R137: the line of a vertical phase, counted from 0, and the pixel of that line, `n` pixel periods after the phase began with lines none of
which was cut short. -/
def TileFields.beam (f : TileFields) (n : Nat) : Nat × Nat := (n / f.hTotal.toNat, n % f.hTotal.toNat)

/-- R145, R146: the span list held is that of an ACTIVE line's tile cell row, which SPAN_LIST_BUILD makes it at the row's start; where the raster draws
no composited canvas, no list is read. -/
def State.listStands (s : State) (line : Nat) : Bool :=
  !s.inPhase .active || !s.raster.composites || decide (s.raster.spanRow = tileCellRow line)

/-- R137, R145, R157: the outputs along line `line` of the vertical phase. The list gives the levels of PXCLK in time order from the falling edge at which pixel 0 came out; the outputs
go to the next pixel at each falling edge. `none` once the line has ended, after pixel horizontal total − 1, and in ACTIVE while the span list of the
line's tile cell row is not yet built. DESIGN CHOICE (notes/assumptions/55.md): where a TLF rise between two falling edges ends a HOLD line (R138), pixel 0
of BACK comes out at the next falling edge, and until then the outputs stand as they were at the rise. -/
def State.panel (s : State) (begun : Bool) (line : Nat) (pxclk : List Bool) : Option VideoOut :=
  match s.raster.phase, s.raster.timing with
  | some _, some f =>
    let pixel := fallingEdges false pxclk
    if pixel < f.hTotal.toNat ∧ s.listStands line then some (s.video (pxclk.getLast?.getD false) begun line pixel) else none
  | _, _ => some videoStopped

end Sys2Proof.Machine
end

