-- ==== Sys2Proof/Machine/Wire.lean ====
section
/-! DEFINITION. A packet slot by slot as its sender drives it and as a receiver samples it (R3 to R6, R8, R9, R13, R14, R16).
The table has no row for a slot, so the place in the packet is an argument here, as the bits clocked are one of `State.miso`
(notes/assumptions/2.md). -/

namespace Sys2Proof.Machine

/-! ### The fields (R3) -/

/-- The parts of a packet after its start condition, in the order of section 1.2. -/
inductive Field where
  | cls | sender | kind | length | payload | check | refusal | stop
  deriving DecidableEq, Repr

/-- R3, R4: how many slots run from the first class slot through the last check slot, by the length signalled (33–63 too). -/
def bitSlots (length : BitVec 6) : Nat := 32 + 8 * length.toNat

/-- R3: the field a slot is in, the first class slot being slot 0. A receiver that has read the length finds the refusal slot by it. -/
def fieldAt (length : BitVec 6) (slot : Nat) : Field :=
  if slot < 2 then .cls
  else if slot < 6 then .sender
  else if slot < 10 then .kind
  else if slot < 16 then .length
  else if slot < 16 + 8 * length.toNat then .payload
  else if slot < bitSlots length then .check
  else if slot = bitSlots length then .refusal
  else .stop

/-! ### A sender's clock (R8) -/

/-- Where a sender's TLC driver stands in a slot: `low`, pulling for its half-bit; `released`, its half-bit over and TLC not yet risen, held by a
slower sender or at the hold point; `high`, timing its high half from the rise. -/
inductive Clock where
  | low | released | high
  deriving DecidableEq, Repr

/-- What moves a sender's clock: TLC seen to fall, TLC seen to rise, or its own half-bit run. -/
inductive ClockEvent where
  | fall | rise | halfBit
  deriving DecidableEq, Repr

/-- R8: a fall starts the low half, the sender's own pull or another's alike; after a half-bit TLC is released; the rise starts the high half, and
after a half-bit TLC is pulled again. -/
def Clock.next : Clock → ClockEvent → Clock
  | _, .fall => .low
  | .low, .halfBit => .released
  | .released, .rise => .high
  | .high, .halfBit => .low
  | c, _ => c

/-- R8: a sender pulls TLC in its low half alone. -/
def Clock.pulls (c : Clock) : Bool := decide (c = .low)

/-- R8: whether an event ends the slot, the next slot's low half beginning. -/
def Clock.slotEnds (c : Clock) (e : ClockEvent) : Bool := decide (c = .high) && (c.next e).pulls

/-! ### The places of a packet, and the drivers there -/

/-- Where a packet stands: the start condition, before and after the sender pulls TLC; bit slot `slot`, counted from the first class slot; the
refusal slot, whose low half is the hold point; the stop condition. -/
inductive Place where
  | start (tlcPulled : Bool)
  | bit (slot : Nat) (clock : Clock)
  | refusal (clock : Clock)
  | stop (clock : Clock)
  deriving DecidableEq, Repr

/-- R6, R8, R13, R16: where a sender of `slots` bit slots stands after an event; `none` when it releases TLD, which ends the packet. The first
fall of TLC, its own pull after a half-bit or a co-sender's earlier one, opens slot 0. -/
def Place.next (slots : Nat) (e : ClockEvent) : Place → Option Place
  | .start tlcPulled => some (if e = .fall then .bit 0 .low else .start (tlcPulled || decide (e = .halfBit)))
  | .bit k c =>
    some (if c.slotEnds e then (if k + 1 < slots then .bit (k + 1) .low else .refusal .low) else .bit k (c.next e))
  | .refusal c => some (if c.slotEnds e then .stop .low else .refusal (c.next e))
  | .stop c => if c = .high ∧ e = .halfBit then none else some (.stop (c.next e))

/-- A station's drivers on TLD and TLC: true when pulling low. -/
structure Drive where
  tldLow : Bool
  tlcLow : Bool
  deriving DecidableEq, Repr

/-- R3, R9: a sender pulls TLD low through a slot of a 0 and releases it in a slot of a 1. -/
def Packet.pullsTld (p : Packet) (slot : Nat) : Bool := decide (p.bits[slot]? = some false)

/-- R6, R8, R9, R13, R15, R16: what this station drives at a place of the packet in progress. At the start a sender pulls TLD, half a bit later
TLC. In a bit slot it sends its bit and clocks; no receiver drives there. At the hold point and in the refusal slot the sender clocks with TLD
released, and an evaluator holds TLC until its decision and pulls TLD if it refuses. At the fall before the stop a refusing evaluator releases
TLD, and the sender pulls both lines. -/
def State.drive (s : State) : Place → Drive
  | .start tlcPulled => ⟨s.sending, s.sending && tlcPulled⟩
  | .bit k c => ⟨s.sending && s.tx.attempt.any fun a => a.packet.pullsTld k, s.sending && c.pulls⟩
  | .refusal c =>
    ⟨s.link.decision.any (·.refuse),
     (s.sending && c.pulls) || (decide (s.link.role = some .evaluator) && s.link.decision.isNone)⟩
  | .stop c => ⟨s.sending, s.sending && c.pulls⟩

/-! ### The receiver's samples (R9) -/

/-- R9: a station in TRANSMITTING or RECEIVING samples TLD at each TLC rise, and the level is the slot's bit. The list gives the levels of TLC and TLD
at its pins in time order from the start condition, where TLC is high; sample `k` is slot `k`. -/
def State.tldSamples (s : State) (levels : List (Bool × Bool)) : List Bool :=
  if s.packetInProgress then risingSamples true levels else []

/-- R3, R4: the packet that the sampled slot bits spell, once its last check slot has been sampled: class, sender, kind and length, each most significant
bit first, then as many payload bytes as the length says, then the check. It is the operand of HOLD_POINT and of OBSERVER_RECEIPT. -/
def RxPacket.ofBits (bits : List Bool) : Option RxPacket :=
  match wholeBytes bits with
  | h1 :: h0 :: t =>
    let header := halfOf h1 h0
    let length : BitVec 6 := header.extractLsb' 0 6
    match t.drop length.toNat with
    | c1 :: c0 :: _ =>
      some ⟨header.extractLsb' 14 2, header.extractLsb' 10 4, header.extractLsb' 6 4, length, t.take length.toNat, halfOf c1 c0⟩
    | _ => none
  | _ => none

/-- R13, R14: the bit sampled in the refusal slot, at the TLC rise that ends the hold point; false, TLD low, is a refusal. -/
def refusalSample (length : BitVec 6) (bits : List Bool) : Option Bool := bits[bitSlots length]?

end Sys2Proof.Machine
end

