-- ==== Sys2Proof/Safety.lean ====
section
/-! DEFINITION. What counts as a sound state of one station: the relations between fields that the spec states and every command
keeps; and the situations in which a taken packet reaches a station, in the words the statements use. -/

namespace Sys2Proof.Machine

/-! ### Relations every command keeps -/

/-- The Cell Store and font B stand in canonical form, and the digest held is font B's (R117, R149, R150). -/
def State.memorySound (s : State) : Prop :=
  s.store.cells.cellsWf = true ∧ s.raster.fontB.fontWf = true ∧ s.raster.fontDigest = fontDigestOf s.raster.fontB

/-- The drivers follow their owners: TLV the vote (R55, R56), IRQn the event queue (R175), TLF the holding flag of a LOCKED station
(R142). -/
def State.driversSound (s : State) : Prop :=
  s.pins.tlvLow = s.voteLow ∧ s.pins.irqnLow = s.irqWanted ∧ s.pins.tlfLow = s.raster.holding
  ∧ (s.raster.holding = true → s.raster.sync = .locked)

/-- The Link Controller is DISCONNECTED, or finishing its last attempt, exactly while the Membership Unit is OFFLINE, drives TLD and TLC
only inside a packet, and has an attempt in progress only in TRANSMITTING (R16, R22, section 1.10). -/
def State.linkSound (s : State) : Prop :=
  (s.mb.state = .offline ↔ (s.link.state = .disconnected ∨ s.link.disconnect = .wanted))
  ∧ (s.link.disconnect = .wanted → s.link.state = .transmitting)
  ∧ (s.packetInProgress = false → s.pins.tldLow = false ∧ s.pins.tlcLow = false)
  ∧ (s.tx.attempt ≠ none → s.link.state = .transmitting)

/-- R49: the NEXT close set is always contained in the OPEN close set. -/
def State.closeSetsNested (s : State) : Prop := ∀ i : StationId, idIn i s.ep.nextClose = true → idIn i s.ep.openClose = true

/-- R43: the applied number is the committed number, or one less, and APPLYING entries exist exactly when it is one less. The pending-apply
flag is set exactly then, at a member only (R55, R57); a pass runs only then (R63). A rise sampled high and not yet taken found the
flag clear (R2, R57, R58). -/
def State.epochsSound (s : State) : Prop :=
  (s.ep.pendingApply = false → s.ep.applied = s.ep.committed ∧ s.ep.applyingEntries = [])
  ∧ (s.ep.pendingApply = true → s.ep.applied = s.ep.committed - 1 ∧ s.ep.applyingEntries ≠ [])
  ∧ (s.ep.pendingApply = true → s.isMember = true)
  ∧ (s.ep.passRunning = true → s.ep.pendingApply = true)
  ∧ (s.link.riseSample = some true → s.ep.pendingApply = false)

/-- Whether an extent holds a granule (R119). -/
def Extent.covers (e : Extent) (g : Nat) : Bool := decide (e.base ≤ g) && decide (g < e.base + e.size)

/-- R120: ascending order of base, no two overlapping, no two adjacent. -/
def freeListOrdered : List Extent → Bool
  | e :: f :: t => decide (e.base + e.size < f.base) && freeListOrdered (f :: t)
  | _ => true

/-- The extents of all panes that are not FREE, and those of the free-extent list. -/
def State.allExtents (s : State) : List Extent :=
  ((List.finRange 32).filterMap fun i => (s.pane i).control.extent?) ++ s.store.freeList

/-- R119, R120: every extent is in range, the free-extent list is ordered, and the extents cover each granule exactly once. -/
def State.accountSound (s : State) : Prop :=
  (∀ e ∈ s.allExtents, e.inRange = true) ∧ freeListOrdered s.store.freeList = true
  ∧ ∀ g, g < Config.granules → (s.allExtents.filter fun e => e.covers g).length = 1

/-- A member is in its own roster (chapter 0, Terms), and a joiner is the joiner of the transfer it holds (R86). -/
def State.rosterSound (s : State) : Prop :=
  (s.isMember = true → idIn s.stationId s.mb.roster = true)
  ∧ (s.isJoiner = true → ∃ t, s.mb.transfer = some t ∧ t.joiner = s.stationId)

/-- R83, R84: the join queue holds no duplicate and no member, and its head is the joiner of a transfer in flight. -/
def State.joinQueueSound (s : State) : Prop :=
  s.mb.joinQueue.Nodup ∧ (∀ i ∈ s.mb.joinQueue, idIn i s.mb.roster = false)
  ∧ (∀ t, s.mb.transfer = some t → s.mb.joinQueue.head? = some t.joiner)

/-- The host batch's update count; NONE has none. -/
def BatchState.countOf : BatchState → Nat
  | .none => 0
  | .opened _ n => n
  | .broken _ n => n

/-- The stated capacities and stops: event queue and counts (R160, R173), foreign-report count (R70, R96), pending denials (R31), host batch
count (section 8.5), span list (R146), stall count and transfer age up to the value at which their limit is taken (R61, R62, R90). -/
def State.countsSound (s : State) : Prop :=
  s.host.events.length ≤ 32 ∧ s.host.lost ≤ 255 ∧ s.host.framing ≤ 255 ∧ s.mb.foreignCount ≤ 16 ∧ s.tx.denials.length ≤ 16
  ∧ s.host.batch.countOf ≤ 40 ∧ s.raster.spanList.length ≤ 16 ∧ s.ep.stall ≤ 16
  ∧ (∀ t, s.mb.transfer = some t → t.age ≤ 240)

/-- Every extent an entry or a pane would write through lies in the Cell Store (R119). -/
def State.extentsInStore (s : State) : Prop :=
  (∀ i : Fin 32, ∀ e, (s.pane i).display.ext = some e → e.inStore = true)
  ∧ (∀ x ∈ s.ep.staging, ∀ p e, x.op = .clear p e → e.inStore = true)

/-- The fields of a queued packet in the ranges of R168 and R170: an update's fields, a pane id of 0–31, a count of 0–512, a target of 0–15. -/
def Request.inRange : Request → Bool
  | .update _ u => u.inRange
  | .claim p n => decide (p.toNat ≤ 31) && decide (n.toNat ≤ 512)
  | .handover p g => decide (p.toNat ≤ 31) && decide (g.toNat ≤ 15)
  | .release p => decide (p.toNat ≤ 31)
  | .found | .join | .leave => true

/-- The fields of a staged entry in range: an update's (R26), the pane id and the extent of a CLEAR (R98, R119), the pane id of a RELEASE (R98). -/
def EntryOp.inRange : EntryOp → Bool
  | .clear p e => decide (p.toNat ≤ 31) && e.inStore
  | .update u => u.inRange
  | .release p => decide (p.toNat ≤ 31)

/-- R85: the index of a snapshot position in range: SNAP-PANE 0–31, SNAP-PALETTE 0–5, SNAP-CELLS 0–546. The number of SNAP-FREE packets follows the
free-extent list. -/
def SnapPos.inRange : SnapPos → Bool
  | .pane i => decide (i ≤ 31)
  | .palette j => decide (j ≤ 5)
  | .cells k => decide (k ≤ 546)
  | .head | .free _ | .tail => true

/-- The fields that `Obligations.StepKeepsFieldsInRange` names lie in their stated ranges: display fields (R99), extents (R119), the fields of staged
entries (R26, R98) and of queued packets (R168, R170), configuration and timing (R136), and the snapshot position's pane, palette and cell
index (R85). -/
def State.fieldsSound (s : State) : Prop :=
  (∀ i : Fin 32, (fullFields (byte i.val) (s.pane i).display).inRange = true)
  ∧ (∀ e ∈ s.allExtents, e.inRange = true) ∧ s.extentsInStore
  ∧ (∀ x ∈ s.ep.staging, x.op.inRange = true)
  ∧ (∀ q ∈ s.tx.queue, q.request.inRange = true)
  ∧ (∀ f, s.raster.config = some f → f.inRange = true) ∧ (∀ f, s.raster.timing = some f → f.inRange = true)
  ∧ ∀ k, s.mb.snapPos = some k → k.inRange = true

/-! ### Situations -/

/-- The station receives another station's packet, its refusal slot is not yet sampled, and it does not refuse it: an evaluator that has
admitted it (R13, R14). -/
def State.admitted (s : State) : Prop :=
  s.link.state = .receiving ∧ s.link.role = some .evaluator ∧ s.link.slot = .pending
  ∧ ∃ d, s.link.decision = some d ∧ d.refuse = false

/-- The station observes another station's packet whose refusal slot is not yet sampled (R12, R15). -/
def State.observing (s : State) : Prop :=
  s.link.state = .receiving ∧ s.link.role = some .observer ∧ s.link.slot = .pending ∧ s.link.decision = none

/-- The link after the refusal slot has passed high (R13, R14): TLC has risen and TLD is high, so the station drives neither. -/
def State.slotPassed (s : State) : State :=
  { s with link := { s.link with slot := .taken }, pins := { s.pins with tldLow := false, tlcLow := false } }

/-- A member whose leave is not requested and whose host's transaction is at the instant of evaluation (R159, R161). -/
def State.takesWork (s : State) : Prop := s.host.spi = .command ∧ s.isMember = true ∧ s.mb.leaveRequested = false

/-- The Host Port's answer (R159): the status, then the data; `n` parameter bytes were taken. -/
def State.answered (s : State) (n : Nat) (st : Status) (data : List Byte) : State :=
  { s with host := { s.host with spi := .response, bitCount := 8 * (1 + n), response := st.code :: data } }

/-- The bytes, sent on MOSI most significant bit first, spell the command: the port evaluates it as the last of their bits comes and no earlier,
whatever bits follow (R158, R159). -/
def spells (bytes : List Byte) (c : Instr) : Prop :=
  (∀ rest : List Bool, mosiCommand (bytes.flatMap byteBits ++ rest) = some c)
  ∧ ∀ n, n < 8 * bytes.length → mosiCommand ((bytes.flatMap byteBits).take n) = none

/-- The taking of the UPDATE packet that carries an update, with the tags given (R128, R130, R133, R112, R155). -/
def Update.taken (u : Update) (sender : StationId) (epochTag : Half) (batchTag : Byte) : Instr :=
  match u with
  | .putCells _ => .putCellsTaken sender (u.payload epochTag batchTag)
  | .fill _ => .fillTaken sender (u.payload epochTag batchTag)
  | .copy _ => .copyTaken sender (u.payload epochTag batchTag)
  | .setPane _ => .setPaneTaken sender (u.payload epochTag batchTag)
  | .setPalette _ => .setPaletteTaken sender (u.payload epochTag batchTag)

/-- Whether an update's items fit its count byte (section 10.7). -/
def Update.countFits : Update → Prop
  | .putCells a => a.cells.length ≤ 255
  | .setPalette a => a.colours.length ≤ 255
  | _ => True

/-- One record at the tail of an event queue with room (R173), and IRQn as the interrupt enable gives (R175). -/
def State.withEvent (s : State) (kind : EventKind) (a1 : Byte) (a2 a3 : Half) : State :=
  { s with
    host := { s.host with events := s.host.events ++ [⟨kind, s.ep.openNum, a1, a2, a3⟩] }
    pins := { s.pins with irqnLow := s.raster.irqEnabled } }

/-- The row of the opcode table that takes a packet of a kind. -/
def Kind.taken (k : Kind) (sender : StationId) (p : List Byte) : Instr :=
  match k with
  | .found => .foundTaken sender p
  | .join => .joinTaken sender p
  | .joinDeny => .joinDenyTaken sender p
  | .joinDone => .joinDoneTaken sender p
  | .leave => .leaveTaken sender p
  | .claim => .claimTaken sender p
  | .handover => .handoverTaken sender p
  | .release => .releaseTaken sender p
  | .retract => .retractTaken sender p
  | .close => .closeTaken sender p
  | .putCells => .putCellsTaken sender p
  | .fill => .fillTaken sender p
  | .copy => .copyTaken sender p
  | .setPane => .setPaneTaken sender p
  | .setPalette => .setPaletteTaken sender p
  | .snapHead => .snapHeadTaken sender p
  | .snapPane => .snapPaneTaken sender p
  | .snapFree => .snapFreeTaken sender p
  | .snapPalette => .snapPaletteTaken sender p
  | .snapCells => .snapCellsTaken sender p
  | .snapEnd => .snapEndTaken sender p

/-- An evaluator that sends the candidate given and has admitted its own packet (R12 to R14). -/
def State.sendingOwn (s : State) (c : Candidate) : Prop :=
  s.link.state = .transmitting ∧ s.link.role = some .evaluator ∧ s.link.slot = .pending ∧ s.link.disconnect = .no
  ∧ (∃ d, s.link.decision = some d ∧ d.refuse = false)
  ∧ ∃ a, s.tx.attempt = some a ∧ a.cand = c ∧ a.live = true

/-- An attempt over and reported taken (R30, R35, R17): no attempt, the fair-wait flag set, and of the batch records those that are still
unfinished or hold entries in OPEN or NEXT. -/
def State.reportedTaken (s : State) : State :=
  { s with
    tx := { s.tx with
      attempt := none
      batches := s.tx.batches.filter fun b =>
        s.tx.unfinished b || s.ep.batchIn s.stationId b.tag .openE || s.ep.batchIn s.stationId b.tag .nextE }
    link := { s.link with fairWait := true } }

/-- The head of the transmit queue gone (R35). -/
def State.headGone (s : State) : State := { s with tx := { s.tx with queue := s.tx.queue.tail } }

/-- The Transmitter after one more counted refusal of a candidate (R29, R31, R35): the head of the queue, the oldest RETRACT, the oldest
JOIN-DENY, the JOIN-DONE, the CLOSE of an epoch number, the snapshot packet. -/
def State.countedTx (s : State) (c : Candidate) : Transmitter :=
  match c with
  | .queueHead => { s.tx with queue := s.tx.queue.modifyHead fun q => { q with refusals := q.refusals + 1 } }
  | .retract => { s.tx with retracts := s.tx.retracts.modifyHead fun r => { r with refusals := r.refusals + 1 } }
  | .joinDeny => { s.tx with denials := s.tx.denials.modifyHead fun d => { d with refusals := d.refusals + 1 } }
  | .joinDone => { s.tx with joinDone := s.tx.joinDone.map fun d => { d with refusals := d.refusals + 1 } }
  | .close n =>
    if n = s.ep.openNum then { s.tx with closeOpen := s.tx.closeOpen + 1 } else { s.tx with closeNext := s.tx.closeNext + 1 }
  | .snapshot => { s.tx with snapRefusals := s.tx.snapRefusals + 1 }

/-- A packet over (R16, R9, R20): drivers released, no attempt, no role, the state and the free-bus timer as given. -/
def State.packetOver (s : State) (st : LinkState) (freeBus : Nat) : State :=
  { s with
    pins := { s.pins with tldLow := false, tlcLow := false }
    tx := { s.tx with attempt := none }
    link := { s.link with
      state := st, freeBus := freeBus, role := none, slot := .pending, decision := none, rx := none } }

/-- The records of R95, in its order: the cause, then at a member BATCH_BROKEN for each batch with queued packets or entries in OPEN or NEXT,
ascending, and PANE_ORPHANED for each pane owned or being released, ascending. -/
def State.removalRecords (s : State) (cause : EventKind) (arg : Byte) : List (EventKind × Byte) :=
  (cause, arg) :: (if s.isMember then
    s.purgedTags.map (fun t => (EventKind.batchBroken, t)) ++ s.ownPanes.map (fun p => (EventKind.paneOrphaned, p)) else [])

/-- What R94 leaves of a station that is removed from the group, the link apart: `t` after `s`. The records carry an open epoch number that is
a free value between the one before the clearing and the one after (notes/assumptions/5.md). -/
def State.leftGroup (s t : State) (cause : EventKind) (arg : Byte) (next : MemberState) : Prop :=
  t.mb = { membershipCleared next with listenTimer := if next = .listening then some 500 else none }
  ∧ (t.tx.queue = [] ∧ t.tx.retracts = [] ∧ t.tx.denials = [] ∧ t.tx.joinDone = none ∧ t.tx.batches = []
      ∧ t.tx.closeOpen = 0 ∧ t.tx.closeNext = 0 ∧ t.tx.snapRefusals = 0)
  ∧ t.ep = epochsCleared ∧ t.panes = panesCleared ∧ t.store = storeCleared ∧ t.palettes = palettesCleared
  ∧ t.raster = { s.raster with
      sync := if s.raster.sync = .locked ∨ s.raster.sync = .freeRun then .following else s.raster.sync
      lineRest := s.raster.cutsLine
      holding := false
      pulled := false }
  ∧ t.pins.tlfLow = false ∧ t.pins.tlvLow = false
  ∧ (∃ e : Half, (e = s.ep.openNum ∨ e = 1)
      ∧ (s.host.events.length + (s.removalRecords cause arg).length ≤ 32 →
          t.host = { s.host with
            batch := .none
            events := s.host.events ++ (s.removalRecords cause arg).map fun r => ⟨r.1, e, r.2, 0, 0⟩ }
          ∧ t.pins.irqnLow = s.raster.irqEnabled))
  ∧ t.stationId = s.stationId ∧ t.freeCount = s.freeCount ∧ t.pending = s.pending

/-- A station with no packet in progress (R19). -/
def State.quiet (s : State) : Prop := s.link.state ≠ .transmitting ∧ s.link.state ≠ .receiving

end Sys2Proof.Machine
end

