-- ==== Sys2Proof/Certificates/Slice0/Obligations.lean ====
section
/-! DEFINITION. The statements for the provers: the invariants every step keeps, the encodings, and, family by family, what each command
does: the next state in full, or the fields that change and those that do not. -/

open Sys2Proof Sys2Proof.Machine

/-! ### The machine -/

/-- A step runs the command at the front of the queue on the state with the queue's rest. On an empty queue the block idles: that clause is the
model's choice (notes/assumptions/6.md). -/
def Obligations.StepRunsFrontCommand : Prop :=
  (∀ (c : Instr) (q : List Instr) (s : State), step { s with pending := c :: q } = exec c { s with pending := q })
  ∧ ∀ s : State, s.pending = [] → step s = .next s

/-- No command touches the queue of waiting commands, and only READ-STATUS moves the model's own counter (notes/assumptions/4.md). -/
def Obligations.CommandsLeaveTheQueue : Prop :=
  ∀ (c : Instr) (s t : State), exec c s = .next t →
    t.pending = s.pending ∧ (c ≠ .readStatus → t.freeCount = s.freeCount)

/-- No command is refused, and where every extent that a pane shows or a CLEAR entry carries lies in the Cell Store, every command completes. -/
def Obligations.EveryCommandCompletes : Prop :=
  (∀ (c : Instr) (s : State) (r : Refusal), exec c s ≠ .refused r)
  ∧ ∀ (c : Instr) (s : State), s.extentsInStore → ∃ t, exec c s = .next t

/-- The values power-on reset leaves (the tables of R44, R70, R100, R121, R154; R23, R41, R140, R149, R177), and that the reset state is sound. The
station id 0, the blink and cursor phases and the empty span list of State.reset are the model's choices (notes/assumptions/7.md and 8.md), and
no clause rests on them. -/
def Obligations.ResetState : Prop :=
  let s := State.reset
  (s.link.state = .disconnected ∧ s.link.fairWait = false ∧ s.link.role = none ∧ s.link.rx = none)
  ∧ (s.tx.queue = [] ∧ s.tx.retracts = [] ∧ s.tx.denials = [] ∧ s.tx.joinDone = none ∧ s.tx.batches = [])
  ∧ (s.ep.openNum = 1 ∧ s.ep.committed = 0 ∧ s.ep.applied = 0 ∧ s.ep.openClose = 0 ∧ s.ep.nextClose = 0 ∧ s.ep.staging = []
      ∧ s.ep.stall = 0 ∧ s.ep.pendingApply = false ∧ s.ep.passRunning = false)
  ∧ (s.mb.state = .offline ∧ s.mb.roster = 0 ∧ s.mb.joinQueue = [] ∧ s.mb.transfer = none ∧ s.mb.snapPos = none ∧ s.mb.assembly = none
      ∧ s.mb.listenTimer = none ∧ s.mb.requestTimer = none ∧ s.mb.groupSeen = false ∧ s.mb.riseSeen = false
      ∧ s.mb.leaveRequested = false ∧ s.mb.foreignCount = 16)
  ∧ (∀ i : Fin 32, s.pane i = ⟨.free, ⟨0, 0, 16, 1, 0, 16, 0, 0, .a, 0, .blink, 15, ⟨0, 0, 15, 0⟩, false, none⟩⟩)
  ∧ ((∀ o, o < 8192 → readCell s.store.cells o = ⟨0x20, 0x07⟩) ∧ s.store.freeList = [])
  ∧ (∀ b : Fin 3, s.palettes[b] = bank0)
  ∧ (s.raster.config = none ∧ s.raster.sync = .stopped ∧ ∀ a, a < 4096 → Memory.read fontZero s.raster.fontB a = 0)
  ∧ (s.host.batch = .none ∧ s.host.nextTag = 0 ∧ s.host.events = [] ∧ s.host.lost = 0 ∧ s.host.framing = 0)
  ∧ s.pins = ⟨false, false, false, false, false⟩
  ∧ (s.memorySound ∧ s.driversSound ∧ s.linkSound ∧ s.closeSetsNested ∧ s.epochsSound ∧ s.rosterSound ∧ s.countsSound
    ∧ s.fieldsSound)

/-! ### What every step keeps -/

/-- Every step keeps the canonical form of the Cell Store and of font B, and the digest held is font B's (R117, R149, R150). -/
def Obligations.StepKeepsMemory : Prop :=
  ∀ s t : State, s.memorySound → step s = .next t → t.memorySound

/-- Every step keeps each driver with its owner: TLV low exactly when this member's vote is low (R55, R56), IRQn low exactly while the event queue
holds a record and the enable is on (R175), TLF low exactly while a LOCKED station's holding flag is set (R142). -/
def Obligations.StepKeepsDrivers : Prop :=
  ∀ s t : State, s.driversSound → step s = .next t → t.driversSound

/-- Every step keeps the Link Controller in step with the Membership Unit: DISCONNECTED, or finishing its last attempt, exactly while OFFLINE, with
TLD and TLC released outside a packet and an attempt in progress only in TRANSMITTING (R22, R16, section 1.10). -/
def Obligations.StepKeepsLink : Prop :=
  ∀ s t : State, s.linkSound → step s = .next t → t.linkSound

/-- Every step keeps the NEXT close set within the OPEN close set (R49). -/
def Obligations.StepKeepsCloseSets : Prop :=
  ∀ s t : State, s.closeSetsNested → step s = .next t → t.closeSetsNested

/-- Every step keeps the epoch numbers as R43 says: the applied number equals the committed number or the committed number less one, and APPLYING
entries, the pending-apply flag and an unapplied commit go together. -/
def Obligations.StepKeepsEpochs : Prop :=
  ∀ s t : State, s.driversSound → s.epochsSound → step s = .next t → t.epochsSound

/-- R120: while a station stays a member, every step keeps the account of granules: the extents of all panes that are not FREE and of the free-extent
list cover each granule exactly once, and the list stays in ascending order with no two extents adjacent. -/
def Obligations.StepKeepsGranuleAccount : Prop :=
  ∀ s t : State, s.isMember = true → s.accountSound → step s = .next t → t.isMember = true → t.accountSound

/-- Every step keeps these fields in their stated ranges: display fields (R99); the extents of panes and free list (R119); of a staged entry an update's
fields (R26, R112, R128, R130, R133, R155), a CLEAR's pane and extent and a RELEASE's pane; of a queued packet an update's fields (R168), a CLAIM's pane and
count, a HANDOVER's pane and target, and a RELEASE's pane (R170); configuration and timing (R136); and the snapshot position's pane, palette and cell index
(R85). It bounds no other field: the SNAP-FREE index follows the free-extent list. -/
def Obligations.StepKeepsFieldsInRange : Prop :=
  ∀ s t : State, s.fieldsSound → step s = .next t → t.fieldsSound

/-- Every step keeps a member in its own roster and a joiner the joiner of its transfer; while a station stays a member, every step keeps the join
queue free of duplicates and members, with the joiner of a transfer at its head (R83, R84, R86, R89). -/
def Obligations.StepKeepsRosterAndJoinQueue : Prop :=
  (∀ s t : State, s.rosterSound → step s = .next t → t.rosterSound)
  ∧ ∀ s t : State, s.isMember = true → s.joinQueueSound → step s = .next t → t.isMember = true → t.joinQueueSound

/-- Every step keeps the stated capacities: 32 event records, counts that stop at 255, 16 pending denials, 40 updates in the host's batch, 16 panes in
a span list, a foreign-report count of at most 16 (R31, R96, R146, R160, R173, section 8.5), and a stall count of at most 16 and a transfer age of at
most 240, the values at which their limits are taken (R61, R90; notes/assumptions/10.md). A member's transmit queue keeps to 48 packets, and an
outsider's grows by one at most (R29). OPEN and NEXT grow by no more than the entries a taken packet adds, and at a member that evaluated the packet
at its hold point they keep to 256 (R48). The relations kept elsewhere hold a member's join queue to 15 ids (R83) and the free-extent list to 256 (R120). -/
def Obligations.StepKeepsCapacities : Prop :=
  (∀ s t : State, s.countsSound → step s = .next t → t.countsSound)
  ∧ (∀ s t : State, step s = .next t →
      (s.isMember = true → s.tx.queue.length ≤ 48 → t.tx.queue.length ≤ 48)
      ∧ (s.isMember = false → t.tx.queue.length ≤ s.tx.queue.length + 1))
  ∧ (∀ (c : Instr) (s t : State) (n : Nat), exec c s = .next t →
      (∀ k i p, c = k.taken i p → entriesAdded k p ≤ n) → t.ep.gatheringCount ≤ s.ep.gatheringCount + n)
  ∧ (∀ (s h t : State) (rx : RxPacket) (k : Kind), s.isMember = true → s.packetInProgress = true → s.link.role = some .evaluator →
      s.link.slot = .pending → s.link.decision = none → s.ep.gatheringCount ≤ 256 → exec (.holdPoint rx) s = .next h →
      rx.kind? = some k → exec (k.taken rx.sender rx.payload) h = .next t → t.ep.gatheringCount ≤ 256)
  ∧ (∀ s : State, s.isMember = true → s.rosterSound → s.joinQueueSound → s.mb.joinQueue.length ≤ 15)
  ∧ ∀ s : State, s.accountSound → s.store.freeList.length ≤ 256

/-! ### Encodings -/

/-- Every UPDATE payload reads back as the update it was formed from, with its two tags, and its length is within the kind's allowance (section 10.1,
R180): no field of an update is dropped on the link. -/
def Obligations.UpdatePayloadReadsBack : Prop :=
  ∀ (u : Update) (epochTag : Half) (batchTag : Byte), u.countFits →
    readUpdate u.kind (u.payload epochTag batchTag) = some ⟨epochTag, batchTag, u⟩
    ∧ lengthAllowed u.kind (u.payload epochTag batchTag) = true

/-- A pane record is 30 bytes and reads back as the pane it was formed from, when its fields lie in the ranges of R98 and R99 (section 10.3). -/
def Obligations.PaneRecordReadsBack : Prop :=
  ∀ (i : Fin 32) (p : Pane), (fullFields (byte i.val) p.display).inRange = true →
    (∀ e, p.control.extent? = some e → e.inRange = true) → (∀ e, p.display.ext = some e → e.inRange = true) →
    (paneRecord i p).length = 30 ∧ readPaneRecord (paneRecord i p) = some (i, p)

/-- The joiner reads from each snapshot packet what the source formed it from (R85, R87, R111, R135, section 10.1). -/
def Obligations.SnapshotReadsBack : Prop :=
  ∀ s : State,
    (∀ t, s.mb.transfer = some t → s.mb.joinQueue.length ≤ 15 →
      readSnapHead (s.snapPacket .head).payload
        = some ⟨idByte t.joiner, s.ep.openNum, s.mb.roster, s.ep.openClose, s.mb.joinQueue⟩)
    ∧ (∀ i : Fin 32, (fullFields (byte i.val) (s.pane i).display).inRange = true →
        (∀ e, (s.pane i).control.extent? = some e → e.inRange = true) → (∀ e, (s.pane i).display.ext = some e → e.inRange = true) →
        readPaneRecord (s.snapPacket (.pane i.val)).payload = some (i, s.pane i))
    ∧ (∀ c, c < 256 → (∀ e ∈ s.store.freeList, e.inRange = true) →
        readSnapFree (s.snapPacket (.free c)).payload = some (byte c, (s.store.freeList.drop (7 * c)).take 7))
    ∧ (∀ j, j < 6 →
        readSnapPalette (s.snapPacket (.palette j)).payload
          = some (byte (j / 2 + 1), byte (8 * (j % 2)),
              ((s.bankColours ⟨j / 2 % 3, Nat.mod_lt _ (by decide)⟩).toList.drop (8 * (j % 2))).take 8))
    ∧ (∀ k, k ≤ 546 →
        readSnapCells (s.snapPacket (.cells k)).payload
          = some (15 * k, readCellRun s.store.cells (15 * k) (min 15 (8192 - 15 * k))))
    ∧ readSnapEnd (s.snapPacket .tail).payload
        = some (half (586 + chunkCount s.store.freeList), cellDigest s.store.cells)

/-- A packet with L payload bytes occupies 35 + 8L bit times (R3), and every receiver that samples its bits as sent finds the check good and the
length valid (R4). The check is the CRC-16 of R5 over class through payload: initial value FFFFh, then for each bit, most significant first, one shift
with the generator 1021h where the bit shifted out and the bit taken in differ; the sixteen check bits are sent most significant first. A sender
pulls TLD low in exactly the slots of a 0 and TLC in the low half of every slot, and no other station drives there (R8, R9); TLD is its own at the
start and the stop (R6, R16); in the refusal slot an evaluator holds TLC until its decision and pulls TLD if it refuses (R13). A fall of TLC in the
start condition, the sender's own or a co-sender's, opens the first slot; the last bit slot is followed by the refusal slot, whose number the length
field gives. A station in a packet samples TLD at each TLC rise (R9), and from the slot bits sampled as sent it reads the packet as sent, at the last check
slot and no earlier, a length of 33–63 included (R3, R4); the next sample is the refusal slot's (R14). -/
def Obligations.PacketBitsAndCheck : Prop :=
  (∀ p : Packet, p.payload.length ≤ 32 →
    p.bitTimes = 35 + 8 * p.payload.length ∧ p.received.checkOk = true ∧ p.received.lengthOk = true
    ∧ p.received.payload = p.payload ∧ p.received.length.toNat = p.payload.length
    ∧ (let covered := halfBytes (p.cls ++ p.sender ++ p.kind ++ BitVec.ofNat 6 p.payload.length) ++ p.payload
      p.check = crc16 covered ∧ p.received.check = p.check
      ∧ p.bits = (covered ++ [p.check.extractLsb' 8 8, p.check.extractLsb' 0 8]).flatMap fun b =>
          [7, 6, 5, 4, 3, 2, 1, 0].map fun n => b.getLsbD n))
  ∧ crc16 [] = 0xFFFF
  ∧ (∀ (bytes : List Byte) (b : Byte), crc16 (bytes ++ [b])
      = [7, 6, 5, 4, 3, 2, 1, 0].foldl
          (fun (c : Half) n => if c.getLsbD 15 = b.getLsbD n then c <<< 1 else (c <<< 1) ^^^ 0x1021) (crc16 bytes))
  ∧ (∀ (s : State) (k : Nat) (c : Clock),
      (∀ a, s.link.state = .transmitting → s.tx.attempt = some a → s.drive (.bit k c) = ⟨decide (a.packet.bits[k]? = some false), decide (c = .low)⟩)
      ∧ (s.link.state ≠ .transmitting → s.drive (.bit k c) = ⟨false, false⟩))
  ∧ (∀ (s : State) (b : Bool) (c : Clock),
      (s.link.state = .transmitting → s.drive (.start b) = ⟨true, b⟩ ∧ s.drive (.stop c) = ⟨true, decide (c = .low)⟩)
      ∧ (s.link.state ≠ .transmitting → s.drive (.start b) = ⟨false, false⟩ ∧ s.drive (.stop c) = ⟨false, false⟩)
      ∧ (s.link.role = some .evaluator → s.link.decision = none → s.drive (.refusal c) = ⟨false, true⟩)
      ∧ (∀ d, s.link.decision = some d → s.drive (.refusal c) = ⟨d.refuse, decide (s.link.state = .transmitting ∧ c = .low)⟩)
      ∧ (s.link.role ≠ some .evaluator → s.link.decision = none →
          s.drive (.refusal c) = ⟨false, decide (s.link.state = .transmitting ∧ c = .low)⟩))
  ∧ (∀ slots b, (Place.start b).next slots .fall = some (.bit 0 .low) ∧ (Place.start b).next slots .halfBit = some (.start true))
  ∧ (∀ (p : Packet) (k : Nat) (e : ClockEvent), p.payload.length ≤ 32 → (e = .fall ∨ e = .halfBit) →
      (k + 1 < p.bits.length → (Place.bit k .high).next p.bits.length e = some (.bit (k + 1) .low))
      ∧ (k + 1 = p.bits.length → (Place.bit k .high).next p.bits.length e = some (.refusal .low) ∧ fieldAt p.length (k + 1) = .refusal))
  ∧ (∀ s : State, ((s.link.state = .transmitting ∨ s.link.state = .receiving) →
        s.tldSamples [] = [] ∧ ∀ levels tlc tld, s.tldSamples (levels ++ [(tlc, tld)])
          = s.tldSamples levels ++ if tlc = true ∧ (levels.getLast?.map (·.1)).getD true = false then [tld] else [])
      ∧ (s.link.state ≠ .transmitting → s.link.state ≠ .receiving → ∀ levels, s.tldSamples levels = []))
  ∧ ∀ (p : Packet) (rest : List Bool), p.payload.length ≤ 63 →
      RxPacket.ofBits (p.bits ++ rest) = some p.received ∧ (∀ n, n < p.bits.length → RxPacket.ofBits (p.bits.take n) = none)
      ∧ ∀ b, refusalSample p.length (p.bits ++ b :: rest) = some b

/-- R33, its last sentence: a member that keeps the stated invariants does not offer a packet that members, sharing its state, would refuse; and an
update, a CLAIM or a RELEASE it offers carries the tag of its current epoch, which it has, as does a RETRACT while it has one, so that members do not
make it void STALE. -/
def Obligations.OfferedPacketIsAdmitted : Prop :=
  ∀ (s : State) (c : Candidate), s.isMember = true → s.offer = some c → s.fieldsSound → s.rosterSound → s.joinQueueSound →
    (s.admission (s.formPacket c).received).refuse = false
    ∧ (∀ q rest, c = .queueHead → s.tx.queue = q :: rest → q.request.goesIntoEpoch = true →
        ∃ e, s.ep.current s.stationId = some e ∧ s.ownTag = s.ep.numberOf e)
    ∧ (c = .retract → ∀ e, s.ep.current s.stationId = some e → s.ownTag = s.ep.numberOf e)

/-! ### The Host Port -/

/-- POWER_ON_RESET leaves the reset state with the straps sampled, whatever the state was (R177); RESET is answered OK and its soft reset waits
(R176); SOFT_RESET resets every block, keeps the configuration, font B and its digest, lets a running raster of a configured station go on in
its phase (R140), empties the event queue and posts RESET_DONE with the id just sampled (R69, R176). MISO is high impedance after each. That RESET_DONE carries the
open number 1 of the cleared Epoch Unit is DEDUCED (notes/assumptions/47.md). The commands that wait and the model's own counter are no part of the
chip. -/
def Obligations.Resets : Prop :=
  (∀ (i : StationId) (s : State), exec (.powerOnReset i) s
      = .next { State.reset with stationId := i, freeCount := s.freeCount, pending := s.pending })
  ∧ (∀ (i : StationId) (s t : State) (n : Nat), exec (.powerOnReset i) s = .next t → t.miso n = none)
  ∧ (∀ s : State, s.host.spi = .command →
      exec .reset s = .next (({ s with host := { s.host with resetWaiting := true } } : State).answered 0 .ok []))
  ∧ ∀ (i : StationId) (s : State), s.host.resetWaiting = true →
      ∃ t, exec (.softReset i) s = .next t
        ∧ t.stationId = i ∧ t.link = linkReset ∧ t.tx = transmitterEmpty ∧ t.ep = epochsCleared ∧ t.mb = membershipCleared .offline
        ∧ t.panes = panesCleared ∧ t.store = storeCleared ∧ t.palettes = palettesCleared
        ∧ t.raster.config = s.raster.config ∧ t.raster.fontB = s.raster.fontB ∧ t.raster.fontDigest = s.raster.fontDigest
        ∧ t.raster.sync = (if s.raster.config.isSome then .following else .stopped)
        ∧ (s.raster.config.isSome = true → s.raster.phase.isSome = true →
            t.raster.phase = s.raster.phase ∧ t.raster.timing = s.raster.timing)
        ∧ t.host = { hostReset with events := [⟨.resetDone, 1, idByte i, 0, 0⟩] }
        ∧ t.pins = { pinsReleased with irqnLow := s.raster.irqEnabled } ∧ (∀ n, t.miso n = none)
        ∧ t.freeCount = s.freeCount ∧ t.pending = s.pending

/-- The transaction (R158, R160): a fall of CSn starts one with the bit count at zero; a rise before evaluation is a framing error, counted up to 255
and not counted where no SCK edge came; a byte that names no command is answered BAD_COMMAND at once with no data; a rise after evaluation ends it.
MISO is high impedance while CSn is high, 0 during the command and parameter bytes, then the response, each byte's most significant bit first, then
0. It changes at falling edges of SCK alone, and the first after the evaluation puts out the response's first bit. On MOSI, the command byte and parameters of section 10.7, most significant bit and byte first, spell their command as the last of their bits
comes and no earlier, whatever bits follow; a byte that names no command spells BAD_COMMAND; a rise of CSn is a framing error while none is spelled. -/
def Obligations.TransactionPhases : Prop :=
  ((∀ f : TileFields, spells ([0x01] ++ halfBytes f.hActive ++ halfBytes f.hTotal ++ halfBytes f.hSyncStart ++ halfBytes f.hSyncEnd
        ++ halfBytes f.vActive ++ [f.vFront, f.vSync, f.vBack] ++ halfBytes f.originCol ++ halfBytes f.originRow ++ [f.rate, f.irqEnable])
        (.configure f))
    ∧ (∀ (code : Byte) (rows : Vector Byte 16), spells ([0x02, code] ++ rows.toList) (.loadFontB code rows))
    ∧ spells [0x03] .goOnline ∧ spells [0x04] .goOffline ∧ spells [0x05] .reset ∧ spells [0x10] .beginBatch ∧ spells [0x11] .endBatch
    ∧ (∀ a : PutCellsArgs, a.cells.length ≤ 255 → spells ([0x20] ++ (Update.putCells a).body) (.putCells a))
    ∧ (∀ a : FillArgs, spells ([0x21] ++ (Update.fill a).body) (.fill a))
    ∧ (∀ a : CopyArgs, spells ([0x22] ++ (Update.copy a).body) (.copy a))
    ∧ (∀ a : SetPaneArgs, spells ([0x23] ++ (Update.setPane a).body) (.setPane a))
    ∧ (∀ a : SetPaletteArgs, a.colours.length ≤ 255 → spells ([0x24] ++ (Update.setPalette a).body) (.setPalette a))
    ∧ (∀ p n, spells ([0x30, p] ++ halfBytes n) (.claim p n)) ∧ (∀ p i, spells [0x31, p, i] (.handover p i))
    ∧ (∀ p, spells [0x32, p] (.release p)) ∧ spells [0x40] .readStatus ∧ spells [0x41] .readEvent
    ∧ (∀ p, spells [0x42, p] (.readPane p)) ∧ (∀ o n, spells ([0x43] ++ halfBytes o ++ [n]) (.readCells o n)) ∧ spells [0x44] .readRoster
    ∧ ∀ b : Byte, b ∉ [0x01, 0x02, 0x03, 0x04, 0x05, 0x10, 0x11, 0x20, 0x21, 0x22, 0x23, 0x24, 0x30, 0x31, 0x32, 0x40, 0x41, 0x42, 0x43, 0x44] →
        spells [b] (.badCommand b) ∧ namesNoCommand b = true)
  ∧ (∀ bits : List Bool, (mosiCommand bits = none → riseOfCsn bits = .framingError bits.length)
      ∧ ∀ c, mosiCommand bits = some c → riseOfCsn bits = .transactionEnd)
  ∧ ∀ s : State,
    (s.host.spi = .idle → ∀ n, s.miso n = none) ∧ (s.host.spi = .command → ∀ n, s.miso n = some false)
    ∧ (s.host.spi = .response → ∀ i k, k < 8 →
        (∀ h : i < s.host.response.length, s.miso (8 * i + k) = some ((s.host.response[i]).getLsbD (7 - k)))
        ∧ (s.host.response.length ≤ i → s.miso (8 * i + k) = some false))
    ∧ (∀ levels clk bit, s.misoLine (levels ++ [(clk, bit)]) ≠ s.misoLine levels →
        clk = false ∧ (levels.getLast?.map (·.1)).getD true = true)
    ∧ (s.host.spi = .response → ∀ levels, (sckFalls true levels = 0 → s.misoLine levels = some false)
        ∧ ∀ n, sckFalls true levels = n + 1 → s.misoLine levels = s.miso n)
    ∧
    (s.host.spi = .idle → exec .transactionStart s
      = .next { s with host := { s.host with spi := .command, bitCount := 0, response := [], headRead := false } })
    ∧ (∀ n, s.host.spi = .command → 0 < n → exec (.framingError n) s
        = .next { s with host := { s.host with spi := .idle, bitCount := n, framing := min 255 (s.host.framing + 1) } })
    ∧ (s.host.spi = .command → exec (.framingError 0) s = .next { s with host := { s.host with spi := .idle, bitCount := 0 } })
    ∧ (∀ b, s.host.spi = .command → namesNoCommand b = true → exec (.badCommand b) s = .next (s.answered 0 .badCommand []))
    ∧ (s.host.spi = .response → exec .transactionEnd s
        = .next { s with host := { s.host with spi := .idle, response := [], headRead := false } })

/-- CONFIGURE (R136, R161, R162): NOT_OFFLINE outside OFFLINE, before the ranges are looked at; BAD_FIELD with the configuration kept when a field is
out of range; otherwise OK, the configuration replaced whole and IRQn as the new interrupt enable and the event queue give (R175). The timing in
effect does not move. The ranges are the table's of R136. -/
def Obligations.ConfigureCommand : Prop :=
  (∀ f : TileFields, f.inRange = true ↔
    (320 ≤ f.hActive.toNat ∧ f.hActive.toNat ≤ 1280 ∧ 8 ∣ f.hActive.toNat)
    ∧ (f.hActive.toNat + 32 ≤ f.hTotal.toNat ∧ f.hTotal.toNat ≤ 2048)
    ∧ (f.hActive.toNat ≤ f.hSyncStart.toNat ∧ f.hSyncStart.toNat ≤ f.hTotal.toNat - 1)
    ∧ (f.hSyncStart.toNat + 1 ≤ f.hSyncEnd.toNat ∧ f.hSyncEnd.toNat ≤ f.hTotal.toNat)
    ∧ (192 ≤ f.vActive.toNat ∧ f.vActive.toNat ≤ 768 ∧ 16 ∣ f.vActive.toNat)
    ∧ 1 ≤ f.vFront.toNat ∧ 1 ≤ f.vSync.toNat ∧ 1 ≤ f.vBack.toNat ∧ f.originCol.toNat ≤ 4095 ∧ f.originRow.toNat ≤ 4095
    ∧ f.rate.toNat ≤ 3 ∧ f.irqEnable.toNat ≤ 1)
  ∧ ∀ (s : State) (f : TileFields), s.host.spi = .command →
    (s.mb.state ≠ .offline → exec (.configure f) s = .next (s.answered 19 .notOffline []))
    ∧ (s.mb.state = .offline → f.inRange = false → exec (.configure f) s = .next (s.answered 19 .badField []))
    ∧ (s.mb.state = .offline → f.inRange = true → exec (.configure f) s
        = .next (({ s with
            raster := { s.raster with config := some f }
            pins := { s.pins with irqnLow := decide (f.irqEnable = 1) && !s.host.events.isEmpty } } : State).answered 19 .ok []))

/-- LOAD-FONT-B (R163, R149, R150): NOT_OFFLINE outside OFFLINE; otherwise OK, the sixteen rows of the glyph named replaced, every other row byte
of font B as it was, the digest computed anew over font B, and nothing else changed. -/
def Obligations.LoadFontCommand : Prop :=
  ∀ (s : State) (code : Byte) (rows : Vector Byte 16), s.host.spi = .command →
    (s.mb.state ≠ .offline → exec (.loadFontB code rows) s = .next (s.answered 17 .notOffline []))
    ∧ (s.mb.state = .offline → s.raster.fontB.fontWf = true →
        ∃ font, exec (.loadFontB code rows) s
            = .next (({ s with raster := { s.raster with fontB := font, fontDigest := fontDigestOf font } } : State).answered 17 .ok [])
          ∧ (∀ r : Fin 16, fontBRow font code.toNat r = rows[r])
          ∧ ∀ a, (a < 16 * code.toNat ∨ 16 * code.toNat + 16 ≤ a) → Memory.read fontZero font a = Memory.read fontZero s.raster.fontB a)

/-- GO-ONLINE (R71, R139, R161, R164, R22): NOT_OFFLINE outside OFFLINE, NOT_CONFIGURED without a configuration; otherwise OK: LISTENING with a
listen interval of 500 ms and the group-seen flag clear, the link in WAIT_FREE with its timer at zero and the configured rate, or a waiting
disconnection cancelled, and a STOPPED raster started in FOLLOWING at the first line of FRONT. -/
def Obligations.GoOnlineCommand : Prop :=
  ∀ s : State, s.host.spi = .command →
    (s.mb.state ≠ .offline → exec .goOnline s = .next (s.answered 0 .notOffline []))
    ∧ (s.mb.state = .offline → s.raster.config = none → exec .goOnline s = .next (s.answered 0 .notConfigured []))
    ∧ (∀ f, s.mb.state = .offline → s.raster.config = some f →
        exec .goOnline s = .next (({ s with
          mb := { s.mb with
            state := .listening, listenTimer := some 500, requestTimer := none, groupSeen := false, foundBegun := false }
          link := if s.link.state = .transmitting
            then { s.link with disconnect := .cancelled, fairWait := false, rate := some f.linkRate }
            else { linkReset with state := .waitFree, rate := some f.linkRate }
          raster := if s.raster.sync = .stopped
            then { s.raster with
              timing := some f, sync := .following, phase := some .front, holding := false, pulled := false, riseRead := false
              waiting := false, holdEnding := false }
            else s.raster } : State).answered 0 .ok []))

/-- GO-OFFLINE at an outsider (R72, R40, R165, R22): OK with no effect in OFFLINE; in LISTENING, FOUNDING, REQUESTING, JOINING and DENIED the station
is OFFLINE at once, its Membership Unit and Transmitter cleared and its link disconnected, after its attempt if it is sending; a joiner's epochs,
panes, cells and palette banks are cleared, and any other outsider's stay. That no purge of an outsider posts anything is DEDUCED
(notes/assumptions/30.md). -/
def Obligations.GoOfflineOutsider : Prop :=
  ∀ s : State, s.host.spi = .command →
    (s.mb.state = .offline → exec .goOffline s = .next (s.answered 0 .ok []))
    ∧ (s.mb.state ≠ .offline → s.mb.state ≠ .member →
        ∃ t, exec .goOffline s = .next t
          ∧ t.mb = membershipCleared .offline
          ∧ t.tx.queue = [] ∧ t.tx.retracts = [] ∧ t.tx.denials = [] ∧ t.tx.joinDone = none ∧ t.tx.batches = []
          ∧ (s.link.state ≠ .transmitting → t.link = { linkReset with rate := s.link.rate } ∧ t.pins.tldLow = false ∧ t.pins.tlcLow = false)
          ∧ (s.link.state = .transmitting → t.link = { s.link with disconnect := .wanted, fairWait := false })
          ∧ (s.mb.state = .joining → t.ep = epochsCleared ∧ t.panes = panesCleared ∧ t.store = storeCleared ∧ t.palettes = palettesCleared)
          ∧ (s.mb.state = .joining → t.pins.tlfLow = false ∧ t.raster = { s.raster with
              sync := if s.raster.sync = .locked ∨ s.raster.sync = .freeRun then .following else s.raster.sync
              lineRest := s.raster.cutsLine, holding := false, pulled := false })
          ∧ (s.mb.state ≠ .joining → t.ep = s.ep ∧ t.panes = s.panes ∧ t.store = s.store ∧ t.palettes = s.palettes ∧ t.raster = s.raster)
          ∧ t.pins.tlvLow = false ∧ t.pins.irqnLow = s.pins.irqnLow
          ∧ t.host = (s.answered 0 .ok []).host ∧ t.stationId = s.stationId ∧ t.freeCount = s.freeCount ∧ t.pending = s.pending)

/-- GO-OFFLINE at a member (R165, R36): OK with no effect when the leave is already requested; QUEUE_FULL with no effect when neither a free place nor an
update of the open batch makes room; otherwise a LEAVE is appended behind what stays of the queue and the leave is requested; an open batch is
first broken: its queued updates go, and BATCH_BROKEN is posted; a broken one is discarded with no second record. An update of it that is in its attempt
is attempted to the end (notes/assumptions/22.md). -/
def Obligations.GoOfflineMember : Prop :=
  ∀ s : State, s.host.spi = .command → s.mb.state = .member →
    (s.mb.leaveRequested = true → exec .goOffline s = .next (s.answered 0 .ok []))
    ∧ (s.mb.leaveRequested = false → 48 ≤ s.tx.queue.length →
        (∀ g n q, s.host.batch = .opened g n → q ∈ s.tx.queue → q.request.tag? ≠ some g) →
        exec .goOffline s = .next (s.answered 0 .queueFull []))
    ∧ (s.mb.leaveRequested = false → s.host.batch = .none → s.tx.queue.length < 48 →
        exec .goOffline s = .next (({ s with
          tx := { s.tx with queue := s.tx.queue ++ [⟨.leave, 0⟩] }
          mb := { s.mb with leaveRequested := true } } : State).answered 0 .ok []))
    ∧ (∀ g n, s.mb.leaveRequested = false → s.host.batch = .broken g n → s.tx.queue.length < 48 →
        exec .goOffline s = .next (({ s with
          tx := { s.tx with queue := s.tx.queue ++ [⟨.leave, 0⟩] }
          host := { s.host with batch := .none }
          mb := { s.mb with leaveRequested := true } } : State).answered 0 .ok []))
    ∧ (∀ g n, s.mb.leaveRequested = false → s.host.batch = .opened g n →
        (s.tx.queue.length < 48 ∨ ∃ q ∈ s.tx.queue, q.request.tag? = some g) → s.host.events.length < 32 →
        ∃ t, exec .goOffline s = .next t
          ∧ t.tx.queue = s.tx.queue.filter (fun q => decide (q.request.tag? ≠ some g)) ++ [⟨.leave, 0⟩]
          ∧ t.tx.retracts = (if s.batchTaken g then s.tx.retracts ++ [⟨g, 0⟩] else s.tx.retracts)
          ∧ t.tx.batches = (if s.batchTaken g then s.tx.batches.map fun b => if b.tag = g then { b with broken := true } else b
              else s.tx.batches.filter fun b => decide (b.tag ≠ g))
          ∧ t.mb = { s.mb with leaveRequested := true }
          ∧ t.host.batch = .none ∧ t.host.events = s.host.events ++ [⟨.batchBroken, s.ep.openNum, g, 0, 0⟩]
          ∧ t.host.response = [0x00]
          ∧ t.link = s.link ∧ t.ep = s.ep ∧ t.panes = s.panes ∧ t.store = s.store ∧ t.palettes = s.palettes ∧ t.raster = s.raster)

/-- BEGIN-BATCH and END-BATCH (R166, R167): BATCH_OPEN or BROKEN with the tag of the batch that stands; NO_TAG with no tag free; otherwise the tag given is the
answer's data, the counter moves past it, and a record of a batch not ended is opened. END-BATCH answers NO_BATCH, BROKEN with the tag and
the state NONE, or OK with tag and count, the state NONE and the batch ended: of the records, those stay that are unfinished or have entries in OPEN or
NEXT (R30). The tag given is the first one not in use from the next-tag counter on, from 15 round to 0;
none is given exactly when all sixteen are in use. -/
def Obligations.HostBatchCommands : Prop :=
  (∀ s : State, s.takesWork →
    (∀ g n, s.host.batch = .opened g n → exec .beginBatch s = .next (s.answered 0 .batchOpen [g]))
    ∧ (∀ g n, s.host.batch = .broken g n → exec .beginBatch s = .next (s.answered 0 .broken [g]))
    ∧ (s.host.batch = .none → s.freeTag = none → exec .beginBatch s = .next (s.answered 0 .noTag []))
    ∧ (∀ g, s.host.batch = .none → s.freeTag = some g →
        exec .beginBatch s = .next (({ s with
          tx := { s.tx with batches := s.tx.batches ++ [⟨g.setWidth 8, false, false, false⟩] }
          host := { s.host with nextTag := g + 1, batch := .opened (g.setWidth 8) 0 } } : State).answered 0 .ok [g.setWidth 8]))
    ∧ (s.host.batch = .none → exec .endBatch s = .next (s.answered 0 .noBatch []))
    ∧ (∀ g n, s.host.batch = .broken g n →
        exec .endBatch s = .next (({ s with host := { s.host with batch := .none } } : State).answered 0 .broken [g]))
    ∧ (∀ g n, s.host.batch = .opened g n →
        let ended := s.tx.batches.map fun b => if b.tag = g then { b with ended := true } else b
        let stays (b : BatchRecord) : Bool :=
          !b.ended || (s.tx.queue.any fun q => decide (q.request.tag? = some b.tag)) || b.broken
          || s.ep.staging.any fun x => decide (x.sender = s.stationId) && decide (x.tag = some b.tag) && decide (x.cls ≠ .applying)
        exec .endBatch s = .next (({ s with
          host := { s.host with batch := .none }
          tx := { s.tx with batches := ended.filter stays } } : State).answered 0 .ok [g, byte n])))
  ∧ ∀ s : State,
    (∀ g, s.freeTag = some g → ∃ k, k < 16 ∧ g = s.host.nextTag + BitVec.ofNat 4 k ∧ s.tagInUse (g.setWidth 8) = false
      ∧ ∀ j, j < k → s.tagInUse ((s.host.nextTag + BitVec.ofNat 4 j).setWidth 8) = true)
    ∧ (s.freeTag = none ↔ ∀ g : BitVec 4, s.tagInUse (g.setWidth 8) = true)

/-- The five update commands (R168): the six checks in order, each with its answer and no effect, and the two effects: in an open batch the packet takes
the batch's tag and the count grows; with none an implicit batch that the host has ended gets a tag. The first check is by the ranges of R112, R128,
R130, R133 and R155. That BROKEN carries the batch's tag here, as section 10.7 has it, is DEDUCED (notes/assumptions/27.md);
that checks 1 and 2 come before BROKEN, against R169's word that every update command is answered BROKEN, is the model's choice (notes/assumptions/48.md). -/
def Obligations.UpdateCommands : Prop :=
  (∀ a : PutCellsArgs, (Update.putCells a).inRange = true ↔
    a.pane.toNat ≤ 31 ∧ a.offset.toNat ≤ 8191 ∧ 1 ≤ a.cells.length ∧ a.cells.length ≤ 12)
  ∧ (∀ a : FillArgs, (Update.fill a).inRange = true ↔
      a.pane.toNat ≤ 31 ∧ a.top.toNat ≤ 8191 ∧ a.left.toNat ≤ 254 ∧ 1 ≤ a.rows.toNat ∧ a.rows.toNat ≤ 8192 ∧ 1 ≤ a.cols.toNat
      ∧ a.fn.toNat ≤ 3 ∧ (a.charWrite = 0 ∨ a.charWrite = 1))
  ∧ (∀ a : CopyArgs, (Update.copy a).inRange = true ↔
      a.pane.toNat ≤ 31 ∧ a.srcRow.toNat ≤ 8191 ∧ a.dstRow.toNat ≤ 8191 ∧ a.srcCol.toNat ≤ 254 ∧ a.dstCol.toNat ≤ 254
      ∧ 1 ≤ a.rows.toNat ∧ a.rows.toNat ≤ 8192 ∧ 1 ≤ a.cols.toNat)
  ∧ (∀ a : SetPaneArgs, (Update.setPane a).inRange = true ↔
      a.pane.toNat ≤ 31 ∧ a.extraMarks = 0 ∧ (∀ v, a.col = some v → v.toNat ≤ 4095) ∧ (∀ v, a.row = some v → v.toNat ≤ 4095)
      ∧ (∀ v, a.width = some v → v ≠ 0) ∧ (∀ v, a.height = some v → v ≠ 0) ∧ (∀ v, a.depth = some v → v.toNat ≤ 63)
      ∧ (∀ v, a.pitch = some v → v ≠ 0) ∧ (∀ v, a.scrollRow = some v → v.toNat ≤ 8191) ∧ (∀ v, a.scrollCol = some v → v.toNat ≤ 254)
      ∧ (∀ v, a.font = some v → v.toNat ≤ 1) ∧ (∀ v, a.bank = some v → v.toNat ≤ 3) ∧ (∀ v, a.mode = some v → v.toNat ≤ 2)
      ∧ (∀ v, a.underline = some v → v.toNat ≤ 15) ∧ (∀ v, a.cursor = some v → v.row.toNat ≤ 254 ∧ v.col.toNat ≤ 254)
      ∧ (∀ v, a.visible = some v → v.toNat ≤ 1))
  ∧ (∀ a : SetPaletteArgs, (Update.setPalette a).inRange = true ↔
      1 ≤ a.bank.toNat ∧ a.bank.toNat ≤ 3 ∧ a.first.toNat ≤ 15 ∧ 1 ≤ a.colours.length ∧ a.colours.length ≤ 8
      ∧ a.first.toNat + a.colours.length ≤ 16)
  ∧ ∀ (s : State) (u : Update), s.takesWork →
    (u.inRange = false → exec u.command s = .next (s.answered u.body.length .badField []))
    ∧ (∀ p, u.inRange = true → u.pane? = some p → ownedBy (s.pane (paneIx p)) s.stationId = false →
        exec u.command s = .next (s.answered u.body.length .notOwner []))
    ∧ (u.inRange = true → (∀ p, u.pane? = some p → ownedBy (s.pane (paneIx p)) s.stationId = true) →
        (∀ g n, s.host.batch = .broken g n → exec u.command s = .next (s.answered u.body.length .broken [g]))
        ∧ (∀ g n, s.host.batch = .opened g n → 40 ≤ n → exec u.command s = .next (s.answered u.body.length .batchFull []))
        ∧ (∀ g n, s.host.batch = .opened g n → n < 40 → 48 ≤ s.tx.queue.length →
            exec u.command s = .next (s.answered u.body.length .queueFull []))
        ∧ (∀ g n, s.host.batch = .opened g n → n < 40 → s.tx.queue.length < 48 →
            exec u.command s = .next (({ s with
              tx := { s.tx with queue := s.tx.queue ++ [⟨.update g u, 0⟩] }
              host := { s.host with batch := .opened g (n + 1) } } : State).answered u.body.length .ok [g]))
        ∧ (s.host.batch = .none → s.freeTag = none → exec u.command s = .next (s.answered u.body.length .noTag []))
        ∧ (∀ g, s.host.batch = .none → s.freeTag = some g → 48 ≤ s.tx.queue.length →
            exec u.command s = .next (s.answered u.body.length .queueFull []))
        ∧ (∀ g, s.host.batch = .none → s.freeTag = some g → s.tx.queue.length < 48 →
            exec u.command s = .next (({ s with
              tx := { s.tx with
                queue := s.tx.queue ++ [⟨.update (g.setWidth 8) u, 0⟩]
                batches := s.tx.batches ++ [⟨g.setWidth 8, true, false, false⟩] }
              host := { s.host with nextTag := g + 1 } } : State).answered u.body.length .ok [g.setWidth 8])))

/-- CLAIM, HANDOVER and RELEASE (R170): ranges first, then the queue's room, then the packet is appended; and the mode test of R161 that comes before any
check of the commands that give the group work: NOT_MEMBER at an outsider, LEAVING at a member that has asked to leave. -/
def Obligations.PaneRequestsAndModeTest : Prop :=
  (∀ (s : State) (p g : Byte) (n : Half), s.takesWork →
    ((31 < p.toNat ∨ 512 < n.toNat) → exec (.claim p n) s = .next (s.answered 3 .badField []))
    ∧ ((31 < p.toNat ∨ 15 < g.toNat) → exec (.handover p g) s = .next (s.answered 2 .badField []))
    ∧ (31 < p.toNat → exec (.release p) s = .next (s.answered 1 .badField []))
    ∧ (p.toNat ≤ 31 → n.toNat ≤ 512 → g.toNat ≤ 15 → 48 ≤ s.tx.queue.length →
        exec (.claim p n) s = .next (s.answered 3 .queueFull []) ∧ exec (.handover p g) s = .next (s.answered 2 .queueFull [])
        ∧ exec (.release p) s = .next (s.answered 1 .queueFull []))
    ∧ (p.toNat ≤ 31 → n.toNat ≤ 512 → g.toNat ≤ 15 → s.tx.queue.length < 48 →
        exec (.claim p n) s
          = .next (({ s with tx := { s.tx with queue := s.tx.queue ++ [⟨.claim p n, 0⟩] } } : State).answered 3 .ok [])
        ∧ exec (.handover p g) s
          = .next (({ s with tx := { s.tx with queue := s.tx.queue ++ [⟨.handover p g, 0⟩] } } : State).answered 2 .ok [])
        ∧ exec (.release p) s
          = .next (({ s with tx := { s.tx with queue := s.tx.queue ++ [⟨.release p, 0⟩] } } : State).answered 1 .ok [])))
  ∧ ∀ (s : State) (st : Status), s.host.spi = .command →
      ((s.mb.state ≠ .member ∧ st = .notMember) ∨ (s.mb.state = .member ∧ s.mb.leaveRequested = true ∧ st = .leaving)) →
      exec .beginBatch s = .next (s.answered 0 st []) ∧ exec .endBatch s = .next (s.answered 0 st [])
      ∧ (∀ u : Update, exec u.command s = .next (s.answered u.body.length st []))
      ∧ (∀ p n, exec (.claim p n) s = .next (s.answered 3 st [])) ∧ (∀ p g, exec (.handover p g) s = .next (s.answered 2 st []))
      ∧ ∀ p, exec (.release p) s = .next (s.answered 1 st [])

/-- READ-STATUS, READ-PANE, READ-CELLS and READ-ROSTER change nothing but the answer (R171, R172, section 10.6 and 10.7): the status record's 23 bytes, in
each batch state (in NONE its tag and count bytes are free values and the model's own counter moves); a pane's record; a run of cells; the roster, the
join queue and a transfer's ids. -/
def Obligations.ReadCommands : Prop :=
  ∀ s : State, s.host.spi = .command →
    (∀ g n state, (s.host.batch = .opened g n ∧ state = 1 ∨ s.host.batch = .broken g n ∧ state = 2) →
      exec .readStatus s = .next (s.answered 0 .ok
        ([idByte s.stationId, s.mb.state.code, flagByte s.mb.leaveRequested, s.link.state.code, s.raster.sync.code,
          flagByte s.raster.config.isSome] ++ halfBytes s.ep.openNum ++ halfBytes (s.ep.openNum - 1) ++ halfBytes s.ep.applied
          ++ [byte s.ep.stall, flagByte s.mb.transfer.isSome, byte s.tx.queue.length] ++ halfBytes (half s.ep.staging.length)
          ++ [byte s.host.events.length, state, g, byte n, byte s.host.lost, byte s.host.framing])))
    ∧ (s.host.batch = .none → ∃ (g : BitVec 4) (n : Fin 41),
        exec .readStatus s = .next (({ s with freeCount := s.freeCount + 1 } : State).answered 0 .ok
          ([idByte s.stationId, s.mb.state.code, flagByte s.mb.leaveRequested, s.link.state.code, s.raster.sync.code,
            flagByte s.raster.config.isSome] ++ halfBytes s.ep.openNum ++ halfBytes (s.ep.openNum - 1) ++ halfBytes s.ep.applied
            ++ [byte s.ep.stall, flagByte s.mb.transfer.isSome, byte s.tx.queue.length] ++ halfBytes (half s.ep.staging.length)
            ++ [byte s.host.events.length, 0, g.setWidth 8, byte n, byte s.host.lost, byte s.host.framing])))
    ∧ (∀ p, p.toNat ≤ 31 → exec (.readPane p) s = .next (s.answered 1 .ok (paneRecord (paneIx p) (s.pane (paneIx p)))))
    ∧ (∀ p, 31 < p.toNat → exec (.readPane p) s = .next (s.answered 1 .badField []))
    ∧ (∀ o n, o.toNat ≤ 8191 → 1 ≤ n.toNat → n.toNat ≤ 64 → o.toNat + n.toNat ≤ 8192 →
        exec (.readCells o n) s
          = .next (s.answered 3 .ok ((List.range n.toNat).flatMap fun i => cellBytes (readCell s.store.cells (o.toNat + i)))))
    ∧ (∀ o n, (8191 < o.toNat ∨ n.toNat = 0 ∨ 64 < n.toNat ∨ 8192 < o.toNat + n.toNat) →
        exec (.readCells o n) s = .next (s.answered 3 .badField []))
    ∧ (s.mb.transfer = none → exec .readRoster s = .next (s.answered 0 .ok
        (halfBytes s.mb.roster ++ [byte s.mb.joinQueue.length] ++ s.mb.joinQueue.map idByte ++ [0, 0xFF, 0xFF])))
    ∧ (∀ t, s.mb.transfer = some t → exec .readRoster s = .next (s.answered 0 .ok
        (halfBytes s.mb.roster ++ [byte s.mb.joinQueue.length] ++ s.mb.joinQueue.map idByte ++ [1, idByte t.source, idByte t.joiner])))

/-- The event queue (R173, R174, R175): a posting appends to a queue with room and is dropped and counted, to 255, in a full one; READ-EVENT answers EMPTY, or the
head record, which stays; its removal takes the head away, appends EVENTS_LOST with the count when events were lost, and re-evaluates IRQn. -/
def Obligations.EventQueue : Prop :=
  (∀ (s : State) (k : EventKind) (a : Byte) (b c : Half),
    (s.host.events.length < 32 → s.post k a b c = s.withEvent k a b c)
    ∧ (32 ≤ s.host.events.length → s.post k a b c = { s with host := { s.host with lost := min 255 (s.host.lost + 1) } }))
  ∧ (∀ s : State, s.host.spi = .command →
      (s.host.events = [] → exec .readEvent s = .next (s.answered 0 .empty []))
      ∧ ∀ e rest, s.host.events = e :: rest →
          exec .readEvent s = .next (({ s with host := { s.host with headRead := true } } : State).answered 0 .ok
            ([e.kind.code] ++ halfBytes e.epoch ++ [e.arg1] ++ halfBytes e.arg2 ++ halfBytes e.arg3)))
  ∧ ∀ (s : State) (e : EventRec) (rest : List EventRec),
      s.host.spi = .response → s.host.headRead = true → s.host.events = e :: rest →
      (s.host.lost = 0 → exec .eventRecordRemoval s = .next { s with
          host := { s.host with events := rest, headRead := false, bitCount := s.host.bitCount + 72 }
          pins := { s.pins with irqnLow := s.raster.irqEnabled && !rest.isEmpty } })
      ∧ (0 < s.host.lost → exec .eventRecordRemoval s = .next { s with
          host := { s.host with
            events := rest ++ [⟨.eventsLost, s.ep.openNum, byte s.host.lost, 0, 0⟩]
            lost := 0, headRead := false, bitCount := s.host.bitCount + 72 }
          pins := { s.pins with irqnLow := s.raster.irqEnabled } })

/-! ### The link -/

/-- START_CONDITION and the Transmitter's choice (R6, R12, R24, R32, R33, R34, R50, R51, R75): in IDLE, with a candidate offered and TLF high at the pin for a
bit time, the station pulls TLD low and then TLC, is TRANSMITTING with its role fixed, and the candidate's packet is formed from the state at that
instant; a FOUND's first attempt has begun. While TLF is low, or within a bit time after its rise, the station does not start. Of the six candidates the
first that is present, allowed and not held is offered. That nothing is offered while an exhausted packet waits for its own row is the model's choice
(notes/assumptions/10.md), and that the driver fields stand as at the pull of TLC until the hold point (notes/assumptions/2.md). -/
def Obligations.StartCondition : Prop :=
  (∀ s : State,
    let exhausted := (∃ q ∈ s.tx.queue, 8 ≤ q.refusals) ∨ (∃ r ∈ s.tx.retracts, 8 ≤ r.refusals) ∨ (∃ d ∈ s.tx.denials, 8 ≤ d.refusals)
      ∨ (∃ d, s.tx.joinDone = some d ∧ 8 ≤ d.refusals) ∨ 8 ≤ s.tx.closeOpen ∨ 8 ≤ s.tx.closeNext ∨ 8 ≤ s.tx.snapRefusals
    let closedOpen := idIn s.stationId s.ep.openClose = true
    let closedNext := idIn s.stationId s.ep.nextClose = true
    let unfinishedIn (c : EpochClass) := ∃ b ∈ s.tx.batches,
      (b.ended = false ∨ (∃ q ∈ s.tx.queue, q.request.tag? = some b.tag) ∨ b.broken = true)
      ∧ ∃ x ∈ s.ep.staging, x.sender = s.stationId ∧ x.tag = some b.tag ∧ x.cls = c
    let openDue := s.mb.state = .member ∧ ¬ closedOpen ∧ ¬ unfinishedIn .openE
    let nextDue := s.mb.state = .member ∧ closedOpen ∧ ¬ closedNext ∧ ¬ unfinishedIn .nextE
      ∧ (∀ q ∈ s.tx.queue, q.request.goesIntoEpoch = false)
      ∧ (s.mb.joinQueue = [] ∨ ∃ x ∈ s.ep.staging, x.sender = s.stationId ∧ x.cls = .nextE)
    let held (r : Request) := (s.mb.transfer ≠ none ∧ r ≠ .found ∧ r ≠ .join)
      ∨ (s.mb.joinQueue ≠ [] ∧ closedOpen ∧ r.goesIntoEpoch = true)
      ∨ (r.addsEntry = true ∧ 256 < s.ep.gatheringCount + 1)
      ∨ (closedOpen ∧ closedNext ∧ r.goesIntoEpoch = true)
    let allowed (r : Request) := (r = .found ∧ s.mb.state = .founding) ∨ (r = .join ∧ s.mb.state = .requesting)
      ∨ (r ≠ .found ∧ r ≠ .join ∧ s.mb.state = .member)
    let retract := s.mb.state = .member ∧ s.tx.retracts ≠ [] ∧ s.mb.transfer = none
    let deny := s.mb.state = .member ∧ lowestId s.mb.roster = some s.stationId ∧ s.tx.denials ≠ []
    let done := s.mb.state = .joining ∧ s.tx.joinDone ≠ none
    let head := ∃ q rest, s.tx.queue = q :: rest ∧ allowed q.request ∧ ¬ held q.request ∧ (s.tx.retracts = [] ∨ s.mb.transfer = none)
    let snap := s.mb.state = .member ∧ (∃ t, s.mb.transfer = some t ∧ t.source = s.stationId) ∧ s.mb.snapPos ≠ none
      ∧ s.ep.pendingApply = false
    (exhausted → s.offer = none)
    ∧ (¬ exhausted → retract → s.offer = some .retract)
    ∧ (¬ exhausted → ¬ retract → deny → s.offer = some .joinDeny)
    ∧ (¬ exhausted → ¬ retract → ¬ deny → done → s.offer = some .joinDone)
    ∧ (¬ exhausted → ¬ retract → ¬ deny → ¬ done →
        (openDue → s.offer = some (.close s.ep.openNum)) ∧ (nextDue → s.offer = some (.close (s.ep.openNum + 1)))
        ∧ (¬ openDue → ¬ nextDue → (head → s.offer = some .queueHead)
            ∧ (¬ head → snap → s.offer = some .snapshot) ∧ (¬ head → ¬ snap → s.offer = none))))
  ∧ ∀ (s : State) (n : Nat),
    (∀ c, s.offer = some c → s.link.state = .idle → 1 ≤ n → s.pins.tlfLow = false →
      exec (.startCondition n) s = .next { s with
        link := { s.link with
          state := .transmitting, role := some (if s.mb.state = .member ∨ s.mb.state = .joining then .evaluator else .observer)
          slot := .pending, decision := none, rx := none, fairWait := false, freeBus := 0 }
        tx := { s.tx with attempt := some ⟨c, s.formPacket c, true⟩ }
        mb := { s.mb with
          foundBegun := s.mb.foundBegun || decide (c = .queueHead ∧ s.tx.queue.head?.map (·.request) = some .found) }
        pins := { s.pins with tldLow := true, tlcLow := true } })
    ∧ ((n = 0 ∨ s.pins.tlfLow = true ∨ s.link.state ≠ .idle ∨ s.offer = none) → exec (.startCondition n) s = .next s)

/-- What the station puts in a packet (R24, R34, R74, section 2.1 and 10.1): its own id as sender; in an epoch-bearing kind the open number if it has not
closed OPEN, and one more otherwise; the fields the host gave; the digest and protocol level 1 in FOUND and JOIN; in a CLOSE the number closed; in a
snapshot packet the class and kind of its position, with the payload that SnapshotReadsBack reads. -/
def Obligations.PacketContents : Prop :=
  ∀ s : State,
    let tag := if idIn s.stationId s.ep.openClose then s.ep.openNum + 1 else s.ep.openNum
    (∀ q rest, s.tx.queue = q :: rest →
      (∀ g u, q.request = .update g u →
        s.formPacket .queueHead = ⟨2, s.stationId, u.kind.code.2, halfBytes tag ++ [g] ++ u.body⟩)
      ∧ (∀ p n, q.request = .claim p n → s.formPacket .queueHead = ⟨0, s.stationId, 5, p :: halfBytes n⟩)
      ∧ (∀ p g, q.request = .handover p g → s.formPacket .queueHead = ⟨0, s.stationId, 6, [p, g]⟩)
      ∧ (∀ p, q.request = .release p → s.formPacket .queueHead = ⟨0, s.stationId, 7, halfBytes tag ++ [p]⟩)
      ∧ (q.request = .leave → s.formPacket .queueHead = ⟨0, s.stationId, 4, []⟩)
      ∧ (q.request = .found → s.formPacket .queueHead = ⟨0, s.stationId, 0, halfBytes s.raster.fontDigest ++ [1]⟩)
      ∧ (q.request = .join → s.formPacket .queueHead = ⟨0, s.stationId, 1, halfBytes s.raster.fontDigest ++ [1]⟩))
    ∧ (∀ p, s.mb.snapPos = some p →
        s.formPacket .snapshot = ⟨3, s.stationId, (match p with
            | .head => 0 | .pane _ => 1 | .free _ => 2 | .palette _ => 3 | .cells _ => 4 | .tail => 5), (s.snapPacket p).payload⟩)
    ∧ (∀ n, s.formPacket (.close n) = ⟨1, s.stationId, 0, halfBytes n⟩)
    ∧ (∀ g k r, s.tx.retracts = ⟨g, k⟩ :: r → s.formPacket .retract = ⟨0, s.stationId, 8, halfBytes tag ++ [g]⟩)
    ∧ (∀ d r, s.tx.denials = d :: r → s.formPacket .joinDeny = ⟨0, s.stationId, 2, [idByte d.target, d.reason.code]⟩)
    ∧ ∀ d, s.tx.joinDone = some d →
        s.formPacket .joinDone = ⟨0, s.stationId, 3, halfBytes d.epoch ++ [if d.good then 0 else 1]⟩

/-- The moves between packets (R7, R12, R17, R18, R21): another station's start leads to RECEIVING with the role fixed, the fair-wait flag clear and the free-bus timer at zero; the
timer leads from WAIT_FREE to IDLE at 8 bit times, or 16 with the flag set; RECOVERY ends after 8 bit times with the timer from zero; a TLC fall
without a start condition leads from IDLE back to WAIT_FREE, and restarts the timer from zero there as in WAIT_FREE and RECOVERY. -/
def Obligations.LinkMoves : Prop :=
  ∀ s : State,
    ((s.link.state = .waitFree ∨ s.link.state = .idle ∨ s.link.state = .recovery) →
      exec .startSeen s = .next { s with link := { s.link with
        state := .receiving, role := some (if s.mb.state = .member ∨ s.mb.state = .joining then .evaluator else .observer)
        slot := .pending, decision := none, rx := none, fairWait := false, freeBus := 0 } })
    ∧ (∀ e, s.link.state = .waitFree → (if s.link.fairWait then 16 else 8) ≤ s.link.freeBus + e →
        exec (.busFreeInterval e) s
          = .next { s with link := { s.link with state := .idle, fairWait := false, freeBus := s.link.freeBus + e } })
    ∧ (∀ e, s.link.state = .waitFree → s.link.freeBus + e < (if s.link.fairWait then 16 else 8) →
        exec (.busFreeInterval e) s = .next { s with link := { s.link with freeBus := s.link.freeBus + e } })
    ∧ (s.link.state = .recovery → exec .recoveryBusFree s = .next { s with link := { s.link with state := .waitFree, freeBus := 0 } })
    ∧ (s.link.state = .idle → exec .irregularTlcFall s = .next { s with link := { s.link with state := .waitFree, freeBus := 0 } })
    ∧ ((s.link.state = .waitFree ∨ s.link.state = .recovery) →
        exec .irregularTlcFall s = .next { s with link := { s.link with freeBus := 0 } })

/-- HOLD_POINT (R4, R13, R25, R180): an evaluator's decision is made, TLD is pulled exactly when it refuses, and TLC is released; an observer, the sender
too if it is one, drives neither line from there; a member refuses exactly on the six conditions of R25, the joiner exactly on the first. That an evaluator
by its role which has left JOINING since its start condition decides as the joiner does is the model's choice (notes/assumptions/51.md). -/
def Obligations.HoldPoint : Prop :=
  ∀ (s : State) (rx : RxPacket),
    ((s.link.state = .transmitting ∨ s.link.state = .receiving) → s.link.slot = .pending → s.link.role = some .evaluator →
      s.link.decision = none →
      exec (.holdPoint rx) s = .next { s with
        link := { s.link with decision := some (s.admission rx), rx := some { rx with payload := rx.payload.take 32 } }
        pins := { s.pins with tldLow := (s.admission rx).refuse, tlcLow := false } })
    ∧ ((s.link.state = .transmitting ∨ s.link.state = .receiving) → s.link.slot = .pending → s.link.role = some .observer →
        exec (.holdPoint rx) s = .next { s with pins := { s.pins with tldLow := false, tlcLow := false } })
    ∧ (s.mb.state ≠ .member → ((s.admission rx).refuse = true ↔ (rx.computed ≠ rx.check ∨ 33 ≤ rx.length.toNat)))
    ∧ (s.mb.state = .member → ((s.admission rx).refuse = true ↔
        (rx.computed ≠ rx.check ∨ 33 ≤ rx.length.toNat)
        ∨ (rx.kind? = none ∨ ∃ k, rx.kind? = some k ∧ lengthAllowed k rx.payload = false)
        ∨ (∃ k, rx.kind? = some k ∧ 0 < entriesAdded k rx.payload ∧ 256 < s.ep.gatheringCount + entriesAdded k rx.payload)
        ∨ (s.mb.transfer ≠ none ∧ (rx.cls = 2 ∨ (rx.cls = 0 ∧ ∀ k, rx.kind? = some k →
            k ≠ .found ∧ k ≠ .join ∧ k ≠ .joinDeny ∧ k ≠ .joinDone)))
        ∨ (s.mb.joinQueue ≠ [] ∧ idIn rx.sender s.mb.roster = true ∧ idIn rx.sender s.ep.openClose = true
            ∧ ∃ k, rx.kind? = some k ∧ (k.isUpdate = true ∨ k = .claim ∨ k = .release))
        ∨ (s.mb.joinQueue ≠ [] ∧ idIn rx.sender s.mb.roster = true ∧ idIn rx.sender s.ep.openClose = true
            ∧ rx.kind? = some .close ∧ ∀ e ∈ s.ep.staging, e.sender = rx.sender → e.cls ≠ .nextE)))

/-- The attempts that bring nothing (R10, R13, R14, R15, R22, R31, R35, R40). Refusal slot low: no station takes the packet; a sender's attempt is over and the
refusal count of its packet, of whichever candidate it is, grows by one, except where a member's own decision was a transfer refusal, and where the
Transmitter no longer holds the packet; an observer drives neither line. Arbitration lost: a sender whose packet has a 1 at the slot and that samples a 0
releases both lines and is RECEIVING, with every refusal count as it was; or DISCONNECTED, where a disconnection waits for the attempt
(notes/assumptions/15.md). A 0 cannot lose: that a loss reported there changes nothing is the model's choice for an event that cannot occur
(notes/assumptions/1.md), and that a refused CLOSE is counted even where it has stopped being due is another (notes/assumptions/44.md). -/
def Obligations.RefusedAndLostAttempts : Prop :=
  (∀ s : State, s.link.slot = .pending →
    (s.link.state = .receiving → s.link.role = some .evaluator → s.link.decision ≠ none →
      exec .packetRefused s = .next { s with link := { s.link with slot := .refused } })
    ∧ (∀ rx, s.link.state = .receiving → s.link.role = some .observer →
        exec (.observerReceipt false rx) s = .next { s with
          link := { s.link with slot := .refused }
          pins := { s.pins with tldLow := false, tlcLow := false } })
    ∧ (∀ a, s.link.state = .transmitting → s.link.role = some .evaluator → s.mb.state = .member → s.link.decision = some a →
        a.refuse = true → a.transfer = true →
        exec .packetRefused s
          = .next { s with link := { s.link with slot := .refused }, tx := { s.tx with attempt := none } })
    ∧ (∀ a c p, s.link.state = .transmitting → s.link.role = some .evaluator → s.link.decision = some a → a.transfer = false →
        s.tx.attempt = some ⟨c, p, true⟩ →
        exec .packetRefused s = .next { s with
          link := { s.link with slot := .refused }
          tx := { s.countedTx c with attempt := none } })
    ∧ (∀ a c p, s.link.state = .transmitting → s.link.role = some .evaluator → s.link.decision = some a → a.transfer = false →
        s.tx.attempt = some ⟨c, p, false⟩ →
        exec .packetRefused s = .next { s with link := { s.link with slot := .refused }, tx := { s.tx with attempt := none } })
    ∧ (∀ rx c p, s.link.state = .transmitting → s.link.role = some .observer → s.link.decision = none →
        s.tx.attempt = some ⟨c, p, true⟩ →
        exec (.observerReceipt false rx) s = .next { s with
          link := { s.link with slot := .refused }
          pins := { s.pins with tldLow := false, tlcLow := false }
          tx := { s.countedTx c with attempt := none } }))
  ∧ ∀ (s : State) (slot : Nat) (a : Attempt), s.tx.attempt = some a → s.link.state = .transmitting → s.link.slot = .pending →
    s.link.decision = none →
    (a.packet.bits[slot]? = some true → s.link.disconnect ≠ .wanted →
      exec (.lostInArbitration slot) s = .next { s with
        tx := { s.tx with attempt := none }
        pins := { s.pins with tldLow := false, tlcLow := false }
        link := { s.link with state := .receiving, disconnect := .no } })
    ∧ (a.packet.bits[slot]? = some true → s.link.disconnect = .wanted →
        exec (.lostInArbitration slot) s = .next { s with
          tx := { s.tx with attempt := none }
          pins := { s.pins with tldLow := false, tlcLow := false }
          link := { linkReset with rate := s.link.rate } })
    ∧ (a.packet.bits[slot]? = some false → exec (.lostInArbitration slot) s = .next s)

/-- The four ends of a packet (R9, R16, R20, R21, R22, R35, R41). A stop, a break and an abandonment lead to WAIT_FREE, an abandonment with 8 bit times already
on the timer; a time-out leads to RECOVERY and posts LINK_TIMEOUT. A sender cut off before the refusal slot counts a refusal of its packet, of whichever
candidate; after it the outcome stands. A disconnection that waits is taken; one that GO-ONLINE has cancelled leads to WAIT_FREE, or RECOVERY
after a time-out, with the fair-wait flag clear. That an abandonment before the refusal slot is counted as a break is,
and that a time-out while a disconnection waits goes straight to DISCONNECTED with no LINK_TIMEOUT, are the model's choices
(notes/assumptions/36.md, notes/assumptions/42.md), as is the counting of a CLOSE that has stopped being due (notes/assumptions/44.md). -/
def Obligations.PacketEnds : Prop :=
  ∀ s : State,
    (s.link.state = .receiving → s.link.disconnect = .no →
      exec .stopCondition s = .next (s.packetOver .waitFree 0) ∧ exec .packetBreak s = .next (s.packetOver .waitFree 0)
      ∧ exec .packetAbandoned s = .next (s.packetOver .waitFree 8)
      ∧ (s.host.events.length < 32 → exec .linkTimeout s = .next ((s.packetOver .recovery 0).withEvent .linkTimeout 0 0 0)))
    ∧ (s.link.state = .transmitting → s.link.disconnect = .no → s.link.slot ≠ .pending →
        exec .stopCondition s = .next (s.packetOver .waitFree 0) ∧ exec .packetBreak s = .next (s.packetOver .waitFree 0)
        ∧ exec .packetAbandoned s = .next (s.packetOver .waitFree 8)
        ∧ (s.host.events.length < 32 → exec .linkTimeout s = .next ((s.packetOver .recovery 0).withEvent .linkTimeout 0 0 0)))
    ∧ (∀ c p, s.link.state = .transmitting → s.link.disconnect = .no → s.link.slot = .pending →
        s.tx.attempt = some ⟨c, p, true⟩ →
        let t : State := { s with tx := s.countedTx c }
        exec .packetBreak s = .next (t.packetOver .waitFree 0) ∧ exec .packetAbandoned s = .next (t.packetOver .waitFree 8)
        ∧ (s.host.events.length < 32 → exec .linkTimeout s = .next ((t.packetOver .recovery 0).withEvent .linkTimeout 0 0 0)))
    ∧ (s.link.state = .transmitting → s.link.disconnect = .wanted → s.tx.attempt.all (fun a => !a.live) = true →
        let t : State := { s with
          tx := { s.tx with attempt := none }
          pins := { s.pins with tldLow := false, tlcLow := false }
          link := { linkReset with rate := s.link.rate } }
        exec .stopCondition s = .next t ∧ exec .packetBreak s = .next t ∧ exec .packetAbandoned s = .next t
        ∧ exec .linkTimeout s = .next t)
    ∧ (s.link.state = .transmitting → s.link.disconnect = .cancelled →
        (s.link.slot ≠ .pending ∨ s.tx.attempt.all (fun a => !a.live) = true) →
        let t : State := { s with link := { s.link with fairWait := false, disconnect := .no } }
        exec .stopCondition s = .next (t.packetOver .waitFree 0) ∧ exec .packetBreak s = .next (t.packetOver .waitFree 0)
        ∧ exec .packetAbandoned s = .next (t.packetOver .waitFree 8)
        ∧ (s.host.events.length < 32 → exec .linkTimeout s = .next ((t.packetOver .recovery 0).withEvent .linkTimeout 0 0 0)))

/-! ### Membership -/

/-- What an outsider that is no joiner takes as evidence of a group (R15, R73, R74, R75, R78): a CLOSE or another station's FOUND received, or a TLF rise. LISTENING
asks to join; FOUNDING withdraws a FOUND not yet begun and asks to join; otherwise the group-seen flag is set, and a rise in REQUESTING sets the rise-seen
flag. OFFLINE and DENIED ignore it. That a CLOSE or FOUND with bytes in its payload counts as well is the model's choice (notes/assumptions/43.md). -/
def Obligations.EvidenceOfAGroup : Prop :=
  ∀ (s : State) (i : StationId) (p : List Byte), s.tx.attempt = none →
    let asks (s : State) : State := { s with
      tx := { s.tx with queue := s.tx.queue ++ [⟨.join, 0⟩] }
      mb := { s.mb with
        state := .requesting, listenTimer := none, requestTimer := some 2000, groupSeen := true, riseSeen := false, foundBegun := false } }
    let drops (s : State) : State := { s with tx := { s.tx with queue := s.tx.queue.filter fun q => decide (q.request ≠ .found) } }
    let rise : State := { s with link := { s.link with riseSample := none } }
    (s.observing →
      (s.mb.state = .listening → exec (.closeTaken i p) s = .next (asks s.slotPassed) ∧ exec (.foundTaken i p) s = .next (asks s.slotPassed))
      ∧ (s.mb.state = .founding → s.mb.foundBegun = false →
          exec (.closeTaken i p) s = .next (asks (drops s.slotPassed)) ∧ exec (.foundTaken i p) s = .next (asks (drops s.slotPassed)))
      ∧ ((s.mb.state = .requesting ∨ (s.mb.state = .founding ∧ s.mb.foundBegun = true)) →
          exec (.closeTaken i p) s = .next { s.slotPassed with mb := { s.mb with groupSeen := true } }
          ∧ exec (.foundTaken i p) s = .next { s.slotPassed with mb := { s.mb with groupSeen := true } })
      ∧ ((s.mb.state = .offline ∨ s.mb.state = .denied) →
          exec (.closeTaken i p) s = .next s.slotPassed ∧ exec (.foundTaken i p) s = .next s.slotPassed))
    ∧ ∀ b, s.link.riseSample = some b → s.quiet →
        (s.mb.state = .listening → exec .tlfRiseEffects s = .next (asks rise))
        ∧ (s.mb.state = .founding → s.mb.foundBegun = false → exec .tlfRiseEffects s = .next (asks (drops rise)))
        ∧ (s.mb.state = .founding → s.mb.foundBegun = true →
            exec .tlfRiseEffects s = .next { rise with mb := { s.mb with groupSeen := true } })
        ∧ (s.mb.state = .requesting →
            exec .tlfRiseEffects s = .next { rise with mb := { s.mb with groupSeen := true, riseSeen := true } })
        ∧ ((s.mb.state = .offline ∨ s.mb.state = .denied) → exec .tlfRiseEffects s = .next rise)

/-- What an observer's receipt hands on (R15, R68, R79, R82, R86): a damaged packet is not received; a good one has the effect its taking has at an observer; a
JOIN-DENY naming a REQUESTING station leads to DENIED, and a SNAP-HEAD naming it to JOINING with the control state the packet carries, its queued JOIN
withdrawn; of any other packet but a FOUND or a CLOSE nothing is taken into the station's state. That the group-seen and rise-seen flags are clear in JOINING
is the model's choice (notes/assumptions/50.md). -/
def Obligations.ObserverReceipt : Prop :=
  ∀ s : State, s.observing →
    (∀ rx, (rx.computed ≠ rx.check ∨ 33 ≤ rx.length.toNat) →
      exec (.observerReceipt true rx) s
        = .next { s.slotPassed with link := { s.slotPassed.link with rx := some { rx with payload := rx.payload.take 32 } } })
    ∧ (∀ rx k, rx.checkOk = true → rx.lengthOk = true → rx.kind? = some k →
        exec (.observerReceipt true rx) s
          = exec (k.taken rx.sender rx.payload)
              { s with link := { s.link with rx := some { rx with payload := rx.payload.take 32 } } })
    ∧ (∀ i (r : DenyReason), s.mb.state = .requesting → s.host.events.length < 32 →
        exec (.joinDenyTaken i [idByte s.stationId, r.code]) s
          = .next (({ s.slotPassed with mb := { s.mb with state := .denied, requestTimer := none } } : State).withEvent
              .denied r.code 0 0))
    ∧ (∀ i p h, s.mb.state = .requesting → s.tx.attempt = none → readSnapHead p = some h → h.joiner = idByte s.stationId →
        exec (.snapHeadTaken i p) s = .next { s.slotPassed with
          tx := { s.tx with queue := s.tx.queue.filter fun q => decide (q.request ≠ .join) }
          mb := { membershipCleared .joining with
            roster := h.roster
            joinQueue := h.joinQueue
            transfer := some ⟨s.stationId, i, 0, true⟩
            assembly := some ⟨1, 0, false⟩ }
          ep := { epochsCleared with openNum := h.openNum, applied := h.openNum - 1, openClose := h.openClose } })
    ∧ (∀ i p, s.mb.state ≠ .requesting →
        exec (.joinDenyTaken i p) s = .next s.slotPassed ∧ exec (.snapHeadTaken i p) s = .next s.slotPassed)
    ∧ ∀ (k : Kind) i p, k ≠ .found → k ≠ .close → k ≠ .joinDeny → k ≠ .snapHead → exec (k.taken i p) s = .next s.slotPassed

/-- A station's own FOUND, taken (R15, R76, R77, R35): with no evidence seen it founds a group and is its first member, with the epochs, panes, cells and palette
banks as cleared, all granules free and FOUNDED posted; with evidence seen it asks to join; found damaged at its own receiver, it listens again. That a rise
sampled high inside the FOUND is dropped is DEDUCED from R77 (notes/assumptions/18.md), and that no JOIN is appended on that way to REQUESTING from R76
(notes/assumptions/37.md). -/
def Obligations.OwnFound : Prop :=
  ∀ (s : State) (p : List Byte) (pkt : Packet), s.link.state = .transmitting → s.link.role = some .observer → s.link.slot = .pending →
    s.link.decision = none → s.link.disconnect = .no → s.mb.state = .founding →
    s.tx.attempt = some ⟨.queueHead, pkt, true⟩ →
    (s.mb.groupSeen = false → s.host.events.length < 32 →
      exec (.foundTaken s.stationId p) s = .next (({ s.slotPassed with
        link := { s.link with slot := .taken, riseSample := if s.link.riseSample = some true then none else s.link.riseSample }
        mb := { membershipCleared .member with roster := (1 : IdSet) <<< s.stationId.toNat }
        ep := epochsCleared
        panes := panesCleared
        store := ⟨[], [⟨0, 512⟩]⟩
        palettes := palettesCleared
        pins := { s.pins with tldLow := false, tlcLow := false, tlvLow := true } } : State).withEvent .founded 0 0 0).headGone.reportedTaken)
    ∧ (s.mb.groupSeen = true →
        exec (.foundTaken s.stationId p) s = .next { s.slotPassed.headGone.reportedTaken with
          mb := { s.mb with
            state := .requesting, listenTimer := none, requestTimer := some 2000, riseSeen := false, foundBegun := false } })
    ∧ (∀ rx, (pkt.cls, pkt.kind) = (0, 0) → (rx.computed ≠ rx.check ∨ 33 ≤ rx.length.toNat) →
        exec (.observerReceipt true rx) s = .next { s.slotPassed.headGone.reportedTaken with
          link := { s.link with slot := .taken, fairWait := true, rx := some { rx with payload := rx.payload.take 32 } }
          mb := { s.mb with
            state := .listening, listenTimer := some 500, requestTimer := none, groupSeen := false, foundBegun := false } })

/-- A JOIN delivered at a member or the joiner, or a FOUND treated as one (R78, R80, R81, R31): the checks in order, with the first that applies giving the
outcome: a denial raises a JOIN-DENY at the lowest-id member, in room for 16; a queued id changes nothing; any other is appended to the join queue. A JOIN-DENY
taken changes no control state, and its sender's oldest pending denial is cleared. A station's own JOIN taken, which it observes (R12, R15), leaves its queue and
is reported taken with the fair-wait flag set (R14, R17, R35), and nothing else changes, found damaged at its own receiver or not. -/
def Obligations.JoinDelivery : Prop :=
  (∀ (s : State) (i : StationId) (p : List Byte) (pkt : Packet), s.link.state = .transmitting → s.link.role = some .observer →
    s.link.slot = .pending → s.link.decision = none → s.link.disconnect = .no →
    s.tx.attempt = some ⟨.queueHead, pkt, true⟩ → (pkt.cls, pkt.kind) = (0, 1) →
    exec (.joinTaken i p) s = .next s.slotPassed.headGone.reportedTaken
    ∧ ∀ rx : RxPacket, (rx.computed ≠ rx.check ∨ 33 ≤ rx.length.toNat ∨ rx.kind? = some .join) →
        exec (.observerReceipt true rx) s = .next (({ s.slotPassed with
          link := { s.slotPassed.link with rx := some { rx with payload := rx.payload.take 32 } } } : State).headGone.reportedTaken))
  ∧
  (∀ (s : State) (d : Denial) (rest : List Denial) (p : List Byte), s.sendingOwn .joinDeny → s.mb.state = .member →
    s.tx.denials = d :: rest →
    exec (.joinDenyTaken s.stationId p) s
      = .next ({ s.slotPassed with tx := { s.tx with denials := rest } } : State).reportedTaken)
  ∧ ∀ (s : State) (i : StationId) (d : Half) (l : Byte), s.admitted → (s.mb.state = .member ∨ s.mb.state = .joining) →
    let p := halfBytes d ++ [l]
    let why (r : DenyReason) : Prop :=
      (r = .duplicateId ∧ idIn i s.mb.roster = true)
      ∨ (r = .font ∧ idIn i s.mb.roster = false ∧ d ≠ s.raster.fontDigest)
      ∨ (r = .level ∧ idIn i s.mb.roster = false ∧ d = s.raster.fontDigest ∧ l ≠ 1)
    exec (.foundTaken i p) s = exec (.joinTaken i p) s
    ∧ (∀ r, why r → s.isLowest = true → s.tx.denials.length < 16 →
        exec (.joinTaken i p) s
          = .next { s.slotPassed with tx := { s.tx with denials := s.tx.denials ++ [⟨i, r, 0⟩] } })
    ∧ (∀ r, why r → (s.isLowest = false ∨ 16 ≤ s.tx.denials.length) → exec (.joinTaken i p) s = .next s.slotPassed)
    ∧ (idIn i s.mb.roster = false → d = s.raster.fontDigest → l = 1 → i ∈ s.mb.joinQueue → exec (.joinTaken i p) s = .next s.slotPassed)
    ∧ (idIn i s.mb.roster = false → d = s.raster.fontDigest → l = 1 → i ∉ s.mb.joinQueue →
        exec (.joinTaken i p) s = .next { s.slotPassed with mb := { s.mb with joinQueue := s.mb.joinQueue ++ [i] } })
    ∧ ∀ j q, exec (.joinDenyTaken j q) s = .next s.slotPassed

/-- A JOIN-DONE taken (R89, R94, R81): from the joiner of a transfer with its head taken, with the open number. OK: at each member the transfer ends, the
joiner's id joins the roster and MEMBER_JOINED is posted; at the joiner MEMBER is entered and JOINED posted. DIGEST_FAIL: the members drop the transfer and the
id, the joiner leaves with TRANSFER_ABANDONED. Any other changes nothing: one from another sender, before the head is taken, or of another epoch; one taken
with no transfer in flight, as after the abandonment (R90), a joiner that has left JOINING while it sent it included; and one whose status
names no value, which is void (R180; that the rule reaches this kind is DEDUCED, notes/assumptions/52.md), its sender reporting it taken. -/
def Obligations.JoinDoneDelivery : Prop :=
  (∀ (s : State) (i : StationId) (p : List Byte), s.admitted → s.mb.transfer = none → exec (.joinDoneTaken i p) s = .next s.slotPassed)
  ∧ (∀ (s : State) (i : StationId) (p : List Byte) (a : Attempt), s.link.state = .transmitting → s.link.role = some .evaluator →
      s.link.slot = .pending → (∃ d, s.link.decision = some d ∧ d.refuse = false) → s.mb.state ≠ .member → s.mb.state ≠ .joining →
      s.tx.attempt = some a → a.live = false → ∃ t, exec (.joinDoneTaken i p) s = .next t
        ∧ t.mb = s.mb ∧ t.ep = s.ep ∧ t.panes = s.panes ∧ t.store = s.store ∧ t.palettes = s.palettes ∧ t.raster = s.raster ∧ t.host = s.host)
  ∧ (∀ (s : State) (i : StationId) (e : Half) (b : Byte), 2 ≤ b.toNat →
      (s.admitted → exec (.joinDoneTaken i (halfBytes e ++ [b])) s = .next s.slotPassed)
      ∧ (s.sendingOwn .joinDone → exec (.joinDoneTaken i (halfBytes e ++ [b])) s
          = .next ({ s.slotPassed with tx := { s.tx with joinDone := none } } : State).reportedTaken))
  ∧ ∀ (s : State) (i : StationId) (e : Half) (tr : Transfer), s.mb.transfer = some tr →
    let ends : Membership := { s.mb with transfer := none, joinQueue := s.mb.joinQueue.tail, snapPos := none }
    (s.admitted → (s.mb.state = .member ∨ s.mb.state = .joining) →
      (tr.joiner ≠ i ∨ tr.headTaken = false ∨ e ≠ s.ep.openNum) → ∀ b, exec (.joinDoneTaken i (halfBytes e ++ [b])) s = .next s.slotPassed)
    ∧ (s.admitted → s.mb.state = .member → tr.joiner = i → tr.headTaken = true → e = s.ep.openNum →
        (s.host.events.length < 32 →
          let u : State := { s.slotPassed with
            mb := { ends with roster := s.mb.roster ||| ((1 : IdSet) <<< i.toNat) }
            tx := { s.tx with
              denials := if lowestId (s.mb.roster ||| ((1 : IdSet) <<< i.toNat)) = some s.stationId then s.tx.denials else [] } }
          exec (.joinDoneTaken i (halfBytes e ++ [0])) s
            = .next (({ u with pins := { u.pins with tlvLow := u.voteLow } } : State).withEvent .memberJoined (idByte i) 0 0))
        ∧ exec (.joinDoneTaken i (halfBytes e ++ [1])) s
            = .next { s.slotPassed with
                mb := ends
                pins := { s.slotPassed.pins with tlvLow := ({ s with mb := ends } : State).voteLow } })
    ∧ (s.sendingOwn .joinDone → s.mb.state = .joining → i = s.stationId → tr.joiner = i → tr.headTaken = true → e = s.ep.openNum →
        s.host.events.length < 32 →
        (
          let u : State := { s.slotPassed with
            mb := { ends with state := .member, assembly := none, roster := s.mb.roster ||| ((1 : IdSet) <<< i.toNat) }
            tx := { s.tx with joinDone := none } }
          exec (.joinDoneTaken i (halfBytes e ++ [0])) s
            = .next (({ u with pins := { u.pins with tlvLow := u.voteLow } } : State).withEvent .joined 0 0 0).reportedTaken)
        ∧ ∃ t, exec (.joinDoneTaken i (halfBytes e ++ [1])) s = .next t
            ∧ s.leftGroup t .transferAbandoned 0 .listening ∧ t.link = { s.link with slot := .taken, fairWait := true })

/-- A LEAVE taken (R92, R93, R94, R67, R109, R22): another member's id leaves the roster and both close sets, its OPEN and NEXT entries go, its panes become
orphans with their extents, and MEMBER_LEFT is posted; at its sender the station leaves the group for OFFLINE and disconnects after its stop. -/
def Obligations.LeaveDelivery : Prop :=
  ∀ (s : State) (i : StationId),
    (s.admitted → s.mb.state = .member → idIn i s.mb.roster = true → i ≠ s.stationId → s.host.events.length < 32 →
      ∃ t, exec (.leaveTaken i []) s = .next t
        ∧ t.mb = { s.mb with roster := s.mb.roster &&& ~~~((1 : IdSet) <<< i.toNat) }
        ∧ t.ep = { s.ep with
            openClose := s.ep.openClose &&& ~~~((1 : IdSet) <<< i.toNat)
            nextClose := s.ep.nextClose &&& ~~~((1 : IdSet) <<< i.toNat)
            staging := s.ep.staging.filter fun x => !(decide (x.cls ≠ .applying) && decide (x.sender = i)) }
        ∧ (∀ k : Fin 32, (t.pane k).display = (s.pane k).display)
        ∧ (∀ (k : Fin 32) o x, (s.pane k).control = .owned o x →
            (t.pane k).control = if o = i then .orphan x else .owned o x)
        ∧ (∀ (k : Fin 32) x, (s.pane k).control = .releasing x →
            (t.pane k).control = if ∃ y ∈ s.ep.staging, y.cls ≠ .applying ∧ y.sender = i ∧ ∃ b, y.op = .release b ∧ paneIx b = k
              then .orphan x else .releasing x)
        ∧ (∀ k : Fin 32, ((s.pane k).control = .free ∨ ∃ x, (s.pane k).control = .orphan x) → (t.pane k).control = (s.pane k).control)
        ∧ t.host = (s.withEvent .memberLeft (idByte i) 0 0).host
        ∧ t.pins = { s.pins with tldLow := false, tlcLow := false, tlvLow := t.voteLow, irqnLow := s.raster.irqEnabled }
        ∧ t.store = s.store ∧ t.palettes = s.palettes ∧ t.tx = s.tx ∧ t.raster = s.raster ∧ t.link = { s.link with slot := .taken }
        ∧ t.stationId = s.stationId)
    ∧ (s.sendingOwn .queueHead → s.mb.state = .member → i = s.stationId → idIn i s.mb.roster = true →
        ∃ t, exec (.leaveTaken i []) s = .next t ∧ s.leftGroup t .memberLeft (idByte i) .offline
          ∧ t.tx.attempt = none ∧ t.link = { s.link with slot := .taken, disconnect := .wanted, fairWait := false })

/-- A packet that needs a member's sender, from a station that is not in the roster, is void FOREIGN (R26, R92, R96): a member posts FOREIGN_TRAFFIC with the sender,
class and kind when its foreign-report count is 16, which then is 0; nothing else changes, and at a count below 16, or at the joiner, nothing changes at all. -/
def Obligations.ForeignTraffic : Prop :=
  ∀ (s : State) (i : StationId) (k : Kind) (p : List Byte), s.admitted → idIn i s.mb.roster = false → lengthAllowed k p = true →
    k ∈ [Kind.close, .putCells, .fill, .copy, .setPane, .setPalette, .claim, .handover, .release, .retract, .leave] →
    (s.mb.state = .member → s.mb.foreignCount = 16 → s.host.events.length < 32 →
      exec (k.taken i p) s
        = .next (({ s.slotPassed with mb := { s.mb with foreignCount := 0 } } : State).withEvent .foreignTraffic (idByte i)
            (k.code.1.setWidth 16) (k.code.2.setWidth 16)))
    ∧ ((s.mb.state = .member ∧ s.mb.foreignCount < 16 ∨ s.mb.state = .joining) → exec (k.taken i p) s = .next s.slotPassed)

/-! ### Panes and updates -/

/-- A CLAIM taken from a member (R27, R28, R102, R103, R104, R122): the checks in order; a counted CLAIM that passes takes the lowest granules of the first free extent
that holds the count, makes its pane OWNED and stages a CLEAR in the sender's current epoch; a CLAIM 0 adopts an ORPHAN with its extent; a void one changes
nothing. The claimer alone posts CLAIM_WON or CLAIM_LOST with the reason. -/
def Obligations.ClaimDelivery : Prop :=
  (∀ (s : State) (i : StationId) (p : Byte) (n : Half), idIn i s.mb.roster = true →
    let x := p :: halfBytes n
    let k := paneIx p
    let legal := p.toNat ≤ 31 ∧ n.toNat ≤ 512
    let claimed (c : EpochClass) (b : Nat) (fl : List Extent) : State :=
      { s.slotPassed.setControl k (.owned i ⟨b, n.toNat⟩) with
        store := { s.store with freeList := fl }
        ep := { s.ep with staging := s.ep.staging ++ [⟨c, i, none, .clear p ⟨b, n.toNat⟩⟩] } }
    (s.admitted → (s.mb.state = .member ∨ s.mb.state = .joining) →
      (¬ legal → exec (.claimTaken i x) s = .next s.slotPassed)
      ∧ (legal → n = 0 → (∀ e, (s.pane k).control ≠ .orphan e) → exec (.claimTaken i x) s = .next s.slotPassed)
      ∧ (∀ e, legal → n = 0 → (s.pane k).control = .orphan e →
          exec (.claimTaken i x) s = .next (s.slotPassed.setControl k (.owned i e)))
      ∧ (legal → n ≠ 0 → (s.ep.current i = none ∨ (s.pane k).control ≠ .free ∨ firstFit n.toNat s.store.freeList = none) →
          exec (.claimTaken i x) s = .next s.slotPassed)
      ∧ (∀ c b fl, legal → n ≠ 0 → s.ep.current i = some c → (s.pane k).control = .free →
          firstFit n.toNat s.store.freeList = some (b, fl) → exec (.claimTaken i x) s = .next (claimed c b fl)))
    ∧ (s.sendingOwn .queueHead → s.mb.state = .member → i = s.stationId → s.host.events.length < 32 →
        let lost (r : Reason) : State := (s.slotPassed.withEvent .claimLost r.code (p.setWidth 16) 0).headGone.reportedTaken
        (n ≠ 0 → s.ep.current i = none → exec (.claimTaken i x) s = .next (lost .stale))
        ∧ (¬ legal → (n = 0 ∨ s.ep.current i ≠ none) → exec (.claimTaken i x) s = .next (lost .range))
        ∧ (legal → n = 0 → (s.pane k).control = .free → exec (.claimTaken i x) s = .next (lost .badCount))
        ∧ (legal → n = 0 → (s.pane k).control ≠ .free → (∀ e, (s.pane k).control ≠ .orphan e) →
            exec (.claimTaken i x) s = .next (lost .taken))
        ∧ (∀ e, legal → n = 0 → (s.pane k).control = .orphan e →
            exec (.claimTaken i x) s
              = .next ((s.slotPassed.setControl k (.owned i e)).withEvent .claimWon p (half e.base) (half e.size)).headGone.reportedTaken)
        ∧ (legal → n ≠ 0 → s.ep.current i ≠ none → (s.pane k).control ≠ .free → exec (.claimTaken i x) s = .next (lost .taken))
        ∧ (legal → n ≠ 0 → s.ep.current i ≠ none → (s.pane k).control = .free → firstFit n.toNat s.store.freeList = none →
            exec (.claimTaken i x) s = .next (lost .noRoom))
        ∧ (∀ c b fl, legal → n ≠ 0 → s.ep.current i = some c → (s.pane k).control = .free →
            firstFit n.toNat s.store.freeList = some (b, fl) →
            exec (.claimTaken i x) s = .next ((claimed c b fl).withEvent .claimWon p (half b) n).headGone.reportedTaken)))
  ∧ (∀ (n : Nat) (pre : List Extent) (e : Extent) (post : List Extent), (∀ x ∈ pre, x.size < n) → n ≤ e.size →
      firstFit n (pre ++ e :: post)
        = some (e.base, pre ++ (if e.size = n then post else ⟨e.base + n, e.size - n⟩ :: post)))
  ∧ ∀ (n : Nat) (l : List Extent), (∀ x ∈ l, x.size < n) → firstFit n l = none

/-- A HANDOVER and a RELEASE taken from a member (R28, R105, R107): a HANDOVER that passes sets the owner at once, posts PANE_RECEIVED at the target and HANDOVER_DONE
at the sender; a RELEASE that passes makes the pane RELEASING with its extent and stages a RELEASE entry; a void one changes nothing, and its sender posts the
reason. -/
def Obligations.HandoverAndRelease : Prop :=
  ∀ (s : State) (i : StationId) (p g : Byte) (tag : Half), idIn i s.mb.roster = true →
    let k := paneIx p
    let tagged := ∃ c, s.ep.current i = some c ∧ tag = s.ep.numberOf c
    let staged (c : EpochClass) (e : Extent) : State :=
      { s.slotPassed.setControl k (.releasing e) with
        ep := { s.ep with staging := s.ep.staging ++ [⟨c, i, none, .release p⟩] } }
    (s.admitted → (s.mb.state = .member ∨ s.mb.state = .joining) →
      ((31 < p.toNat ∨ 15 < g.toNat ∨ ownedBy (s.pane k) i = false
          ∨ ∃ j, idOfByte g = some j ∧ (idIn j s.mb.roster = false ∨ j = i)) →
        exec (.handoverTaken i [p, g]) s = .next s.slotPassed)
      ∧ (∀ j e, p.toNat ≤ 31 → idOfByte g = some j → (s.pane k).control = .owned i e → idIn j s.mb.roster = true → j ≠ i →
          (s.mb.state = .member → j = s.stationId → s.host.events.length < 32 →
            exec (.handoverTaken i [p, g]) s
              = .next ((s.slotPassed.setControl k (.owned j e)).withEvent .paneReceived p ((idByte i).setWidth 16) 0))
          ∧ ((s.mb.state = .joining ∨ j ≠ s.stationId) →
            exec (.handoverTaken i [p, g]) s = .next (s.slotPassed.setControl k (.owned j e))))
      ∧ ((¬ tagged ∨ 31 < p.toNat ∨ ownedBy (s.pane k) i = false) →
          exec (.releaseTaken i (halfBytes tag ++ [p])) s = .next s.slotPassed)
      ∧ (∀ c e, s.ep.current i = some c → tag = s.ep.numberOf c → p.toNat ≤ 31 → (s.pane k).control = .owned i e →
          exec (.releaseTaken i (halfBytes tag ++ [p])) s = .next (staged c e)))
    ∧ (s.sendingOwn .queueHead → s.mb.state = .member → i = s.stationId → s.host.events.length < 32 →
        let failed (ev : EventKind) (r : Reason) : State := (s.slotPassed.withEvent ev r.code (p.setWidth 16) 0).headGone.reportedTaken
        ((31 < p.toNat ∨ 15 < g.toNat) → exec (.handoverTaken i [p, g]) s = .next (failed .handoverFailed .range))
        ∧ (p.toNat ≤ 31 → g.toNat ≤ 15 → ownedBy (s.pane k) i = false →
            exec (.handoverTaken i [p, g]) s = .next (failed .handoverFailed .notOwner))
        ∧ (∀ j e, p.toNat ≤ 31 → idOfByte g = some j → (s.pane k).control = .owned i e → (idIn j s.mb.roster = false ∨ j = i) →
            exec (.handoverTaken i [p, g]) s = .next (failed .handoverFailed .badTarget))
        ∧ (∀ j e, p.toNat ≤ 31 → idOfByte g = some j → (s.pane k).control = .owned i e → idIn j s.mb.roster = true → j ≠ i →
            exec (.handoverTaken i [p, g]) s
              = .next ((s.slotPassed.setControl k (.owned j e)).withEvent .handoverDone p (g.setWidth 16) 0).headGone.reportedTaken)
        ∧ (¬ tagged → exec (.releaseTaken i (halfBytes tag ++ [p])) s = .next (failed .releaseFailed .stale))
        ∧ (tagged → (31 < p.toNat ∨ ownedBy (s.pane k) i = false) →
            exec (.releaseTaken i (halfBytes tag ++ [p])) s = .next (failed .releaseFailed .notOwner))
        ∧ (∀ c e, s.ep.current i = some c → tag = s.ep.numberOf c → p.toNat ≤ 31 → (s.pane k).control = .owned i e →
            exec (.releaseTaken i (halfBytes tag ++ [p])) s = .next (staged c e).headGone.reportedTaken))

/-- A CLOSE and a RETRACT taken from a member (R27, R49, R53, R56, R36): a CLOSE with the number of its sender's current epoch adds the sender to that epoch's close
set, and any other CLOSE changes nothing; a RETRACT with that number removes the sender's entries of its batch tag in that epoch, and no other. The sender of
a taken RETRACT drops its batch's record. -/
def Obligations.CloseAndRetract : Prop :=
  ∀ (s : State) (i : StationId) (tag : Half) (bt : Byte), idIn i s.mb.roster = true →
    let opens : Epochs := { s.ep with openClose := s.ep.openClose ||| ((1 : IdSet) <<< i.toNat) }
    let nexts : Epochs := { s.ep with nextClose := s.ep.nextClose ||| ((1 : IdSet) <<< i.toNat) }
    let voted (e : Epochs) : State :=
      { s.slotPassed with ep := e, pins := { s.slotPassed.pins with tlvLow := ({ s with ep := e } : State).voteLow } }
    let cut (c : EpochClass) : Epochs := { s.ep with
      staging := s.ep.staging.filter fun x => !(decide (x.sender = i) && decide (x.tag = some bt) && decide (x.cls = c)) }
    (s.admitted → (s.mb.state = .member ∨ s.mb.state = .joining) →
      (idIn i s.ep.openClose = false → tag = s.ep.openNum → exec (.closeTaken i (halfBytes tag)) s = .next (voted opens))
      ∧ (idIn i s.ep.openClose = true → idIn i s.ep.nextClose = false → tag = s.ep.openNum + 1 →
          exec (.closeTaken i (halfBytes tag)) s = .next { s.slotPassed with ep := nexts })
      ∧ ((∀ c, s.ep.current i = some c → tag ≠ s.ep.numberOf c) → exec (.closeTaken i (halfBytes tag)) s = .next s.slotPassed)
      ∧ (∀ c, s.ep.current i = some c → tag = s.ep.numberOf c →
          exec (.retractTaken i (halfBytes tag ++ [bt])) s = .next { s.slotPassed with ep := cut c })
      ∧ ((∀ c, s.ep.current i = some c → tag ≠ s.ep.numberOf c) →
          exec (.retractTaken i (halfBytes tag ++ [bt])) s = .next s.slotPassed))
    ∧ (i = s.stationId → s.mb.state = .member →
        (s.sendingOwn (.close tag) → idIn i s.ep.openClose = false → tag = s.ep.openNum →
          exec (.closeTaken i (halfBytes tag)) s = .next (voted opens).reportedTaken)
        ∧ (s.sendingOwn (.close tag) → idIn i s.ep.openClose = true → idIn i s.ep.nextClose = false → tag = s.ep.openNum + 1 →
          exec (.closeTaken i (halfBytes tag)) s = .next ({ s.slotPassed with ep := nexts } : State).reportedTaken)
        ∧ ∀ c n rest, s.sendingOwn .retract → s.tx.retracts = ⟨bt, n⟩ :: rest → s.ep.current i = some c → tag = s.ep.numberOf c →
          exec (.retractTaken i (halfBytes tag ++ [bt])) s
            = .next ({ s.slotPassed with
                ep := cut c
                tx := { s.tx with retracts := rest, batches := s.tx.batches.filter fun b => decide (b.tag ≠ bt) } } : State).reportedTaken)

/-- An UPDATE packet of any of the five kinds, taken from a member (R26, R27, R28, R30, R47, R101, R112, R128, R130, R133, R155): it is staged whole in its sender's
current epoch when its tag is that epoch's number, its fields are in range and its pane is the sender's; otherwise it changes nothing, and its sender posts
UPDATE_VOID with the first reason in order. A staged one marks its batch at the sender. One whose batch was broken while it was in its attempt (R36) is
delivered likewise; staged, it has a RETRACT raised, unless one is pending, and its batch stands broken and unfinished, so no CLOSE of its epoch is due: DEDUCED
(notes/assumptions/53.md). -/
def Obligations.UpdateDelivery : Prop :=
  ∀ (s : State) (i : StationId) (u : Update) (tag : Half) (bt : Byte), u.countFits → idIn i s.mb.roster = true →
    let tagged := ∃ c, s.ep.current i = some c ∧ tag = s.ep.numberOf c
    let owned := ∀ p, u.pane? = some p → ownedBy (s.pane (paneIx p)) i = true
    let staged (c : EpochClass) : State :=
      { s.slotPassed with ep := { s.ep with staging := s.ep.staging ++ [⟨c, i, some bt, .update u⟩] } }
    (s.admitted → (s.mb.state = .member ∨ s.mb.state = .joining) →
      (∀ c, s.ep.current i = some c → tag = s.ep.numberOf c → u.inRange = true → owned →
        exec (u.taken i tag bt) s = .next (staged c))
      ∧ ((¬ tagged ∨ u.inRange = false ∨ ¬ owned) → exec (u.taken i tag bt) s = .next s.slotPassed))
    ∧ (s.sendingOwn .queueHead → s.mb.state = .member → i = s.stationId →
        let void (r : Reason) : State :=
          (s.slotPassed.withEvent .updateVoid r.code (bt.setWidth 16) (u.kind.code.2.setWidth 16)).headGone.reportedTaken
        (∀ c, s.ep.current i = some c → tag = s.ep.numberOf c → u.inRange = true → owned →
          exec (u.taken i tag bt) s = .next ({ staged c with
            tx := { s.tx with batches := s.tx.batches.map fun b => if b.tag = bt then { b with anyTaken := true } else b } }
              : State).headGone.reportedTaken)
        ∧ (s.host.events.length < 32 →
          (¬ tagged → exec (u.taken i tag bt) s = .next (void .stale))
          ∧ (tagged → u.inRange = false → exec (u.taken i tag bt) s = .next (void .range))
          ∧ (tagged → u.inRange = true → ¬ owned → exec (u.taken i tag bt) s = .next (void .notOwner))))
    ∧ (∀ a d, s.link.state = .transmitting → s.link.role = some .evaluator → s.link.slot = .pending → s.link.disconnect = .no →
        s.link.decision = some d → d.refuse = false → s.tx.attempt = some a → a.live = false → s.mb.state = .member → i = s.stationId →
        let void (r : Reason) : State :=
          (s.slotPassed.withEvent .updateVoid r.code (bt.setWidth 16) (u.kind.code.2.setWidth 16)).reportedTaken
        (∀ c, s.ep.current i = some c → tag = s.ep.numberOf c → u.inRange = true → owned →
          ((∀ r ∈ s.tx.retracts, r.tag ≠ bt) →
            ∃ t, exec (u.taken i tag bt) s = .next t ∧ t.unfinishedIn c = true ∧ t.closeDue = none
              ∧ t = ({ staged c with
                  tx := { s.tx with
                    batches := (s.tx.batches.filter fun b => decide (b.tag ≠ bt)) ++ [⟨bt, true, true, true⟩]
                    retracts := s.tx.retracts ++ [⟨bt, 0⟩] } } : State).reportedTaken)
          ∧ ((∃ r ∈ s.tx.retracts, r.tag = bt) → exec (u.taken i tag bt) s = .next ({ staged c with
              tx := { s.tx with batches := s.tx.batches.map fun b => if b.tag = bt then { b with anyTaken := true } else b } }
                : State).reportedTaken))
        ∧ (s.host.events.length < 32 →
          (¬ tagged → exec (u.taken i tag bt) s = .next (void .stale))
          ∧ (tagged → u.inRange = false → exec (u.taken i tag bt) s = .next (void .range))
          ∧ (tagged → u.inRange = true → ¬ owned → exec (u.taken i tag bt) s = .next (void .notOwner))))

/-- The snapshot packets taken (R85, R86, R87, R88, R111, R135, R180): at a member the SNAP-HEAD of the transfer's source, with its joiner and the open number, sets
the head-taken flag and the age to 0, and any other SNAP-HEAD and the other snapshot packets change nothing; the source's own moves its snapshot position on;
at the joiner each packet of the source is counted and written; one of the four data kinds that is out of its allowance or out of range, or of another sender, only sets
the assembly-fault flag; a second SNAP-HEAD changes nothing, and SNAP-END raises JOIN-DONE with the verdict. That a SNAP-HEAD or SNAP-END out of its allowance sets the flag at
the joiner, and that a SNAP-END of a right length from another sender than the source has no effect there, unlike the other kinds, is DEDUCED
(notes/assumptions/26.md); that a SNAP-HEAD whose list names no station is void at a member, and that an owner of a SNAP-PANE need not be in the roster, is the
model's choice (notes/assumptions/39.md, notes/assumptions/45.md). -/
def Obligations.SnapshotDelivery : Prop :=
  (∀ (s : State) (pos : SnapPos) (p : List Byte), s.sendingOwn .snapshot → s.mb.state = .member → s.mb.snapPos = some pos →
    let chunks := if s.store.freeList = [] then 1 else (s.store.freeList.length + 6) / 7
    let next : Option SnapPos := match pos with
      | .head => some (.pane 0)
      | .pane i => if i < 31 then some (.pane (i + 1)) else some (.free 0)
      | .free c => if c + 1 < chunks then some (.free (c + 1)) else some (.palette 0)
      | .palette j => if j < 5 then some (.palette (j + 1)) else some (.cells 0)
      | .cells k => if k < 546 then some (.cells (k + 1)) else some .tail
      | .tail => none
    let moved (tr : Option Transfer) : State :=
      ({ s.slotPassed with
        mb := { s.mb with snapPos := next, transfer := tr }, tx := { s.tx with snapRefusals := 0 } } : State).reportedTaken
    (∀ k ∈ [Kind.snapPane, .snapFree, .snapPalette, .snapCells, .snapEnd], exec (k.taken s.stationId p) s = .next (moved s.mb.transfer))
    ∧ ∀ tr h, s.mb.transfer = some tr → readSnapHead p = some h → tr.source = s.stationId → tr.headTaken = false →
        h.joiner = idByte tr.joiner → h.openNum = s.ep.openNum →
        exec (.snapHeadTaken s.stationId p) s = .next (moved (some { tr with headTaken := true, age := 0 })))
  ∧ ∀ (s : State) (i : StationId) (p : List Byte), s.admitted →
    (s.mb.state = .member →
      (∀ tr h, s.mb.transfer = some tr → readSnapHead p = some h → tr.source = i → tr.headTaken = false → h.joiner = idByte tr.joiner →
        h.openNum = s.ep.openNum →
        exec (.snapHeadTaken i p) s
          = .next { s.slotPassed with mb := { s.mb with transfer := some { tr with headTaken := true, age := 0 } } })
      ∧ ((∀ tr h, s.mb.transfer = some tr → readSnapHead p = some h →
            tr.source ≠ i ∨ tr.headTaken = true ∨ h.joiner ≠ idByte tr.joiner ∨ h.openNum ≠ s.ep.openNum) →
          exec (.snapHeadTaken i p) s = .next s.slotPassed)
      ∧ exec (.snapPaneTaken i p) s = .next s.slotPassed ∧ exec (.snapFreeTaken i p) s = .next s.slotPassed
      ∧ exec (.snapPaletteTaken i p) s = .next s.slotPassed ∧ exec (.snapCellsTaken i p) s = .next s.slotPassed
      ∧ exec (.snapEndTaken i p) s = .next s.slotPassed)
    ∧ ∀ (tr : Transfer) (a : Assembly), s.mb.state = .joining → s.mb.transfer = some tr → s.mb.assembly = some a →
      let book (a : Assembly) : State := { s.slotPassed with mb := { s.mb with assembly := some a } }
      let bad := book { a with fault := true }
      let ok : State := book { a with packets := a.packets + 1 }
      (lengthAllowed .snapHead p = false → exec (.snapHeadTaken i p) s = .next bad)
      ∧ (lengthAllowed .snapHead p = true → exec (.snapHeadTaken i p) s = .next s.slotPassed)
      ∧
      (readSnapEnd p = none → exec (.snapEndTaken i p) s = .next bad)
      ∧ (tr.source ≠ i →
        exec (.snapPaneTaken i p) s = .next bad ∧ exec (.snapFreeTaken i p) s = .next bad ∧ exec (.snapPaletteTaken i p) s = .next bad
        ∧ exec (.snapCellsTaken i p) s = .next bad
        ∧ (∀ n d, readSnapEnd p = some (n, d) → exec (.snapEndTaken i p) s = .next s.slotPassed))
      ∧ (tr.source = i →
        (readPaneRecord p = none → exec (.snapPaneTaken i p) s = .next bad)
        ∧ (∀ k r, readPaneRecord p = some (k, r) → exec (.snapPaneTaken i p) s = .next (ok.setPane k r))
        ∧ (readSnapFree p = none → exec (.snapFreeTaken i p) s = .next bad)
        ∧ (∀ x es, readSnapFree p = some (x, es) → (x.toNat ≠ a.chunks ∨ 256 < s.store.freeList.length + es.length) →
            exec (.snapFreeTaken i p) s = .next (book { a with packets := a.packets + 1, fault := true }))
        ∧ (∀ x es, readSnapFree p = some (x, es) → x.toNat = a.chunks → s.store.freeList.length + es.length ≤ 256 →
            exec (.snapFreeTaken i p) s
              = .next { book { a with packets := a.packets + 1, chunks := a.chunks + 1 } with
                  store := { s.store with freeList := s.store.freeList ++ es } })
        ∧ (readSnapPalette p = none → exec (.snapPaletteTaken i p) s = .next bad)
        ∧ (∀ b f cs, readSnapPalette p = some (b, f, cs) → ∃ pals, exec (.snapPaletteTaken i p) s = .next { ok with palettes := pals }
            ∧ (∀ (j : Fin 3) (e : Fin 16), pals[j][e]
                = if j.val + 1 = b.toNat ∧ f.toNat ≤ e.val ∧ e.val < f.toNat + 8 then cs.getD (e.val - f.toNat) 0 else s.palettes[j][e]))
        ∧ (readSnapCells p = none → exec (.snapCellsTaken i p) s = .next bad)
        ∧ (∀ o cs, readSnapCells p = some (o, cs) → s.store.cells.cellsWf = true →
            ∃ m, exec (.snapCellsTaken i p) s = .next { ok with store := { s.store with cells := m } }
              ∧ (∀ n (h : n < cs.length), readCell m (o + n) = cs[n])
              ∧ ∀ b, (b < o ∨ o + cs.length ≤ b) → readCell m b = readCell s.store.cells b)
        ∧ (∀ n d, readSnapEnd p = some (n, d) →
            exec (.snapEndTaken i p) s = .next { s.slotPassed with
              tx := { s.tx with joinDone := some ⟨s.ep.openNum,
                !a.fault && decide (a.packets = n.toNat) && decide (cellDigest s.store.cells = d), 0⟩ } }))

/-! ### The rises of TLF -/

/-- The commit decision (R43, R49, R58, R60, R84, R96, R108, R116, R123), at a member with no transfer in flight and no batch caught short of room, at a rise sampled
high: its eight steps. BATCH_COMMITTED in ascending order of tag is the model's choice (notes/assumptions/9.md). -/
def Obligations.CommitDecision : Prop :=
  ∀ s : State, s.mb.state = .member → s.link.riseSample = some true → s.quiet → s.mb.transfer = none → s.shortBatches = [] →
    let empty := ∀ x ∈ s.ep.staging, x.cls ≠ .openE
    let frees (k : Fin 32) (i : StationId) := ∃ x ∈ s.ep.staging, x.cls = .openE ∧ x.sender = i ∧ ∃ b, x.op = .release b ∧ paneIx b = k
    ∃ (t : State) (tags done : List Byte), exec .tlfRiseEffects s = .next t
      ∧ (t.ep.openNum = s.ep.openNum + 1 ∧ t.ep.openClose = s.ep.nextClose ∧ t.ep.nextClose = 0 ∧ t.ep.stall = 0
          ∧ t.ep.passRunning = s.ep.passRunning ∧ t.ep.passDone = s.ep.passDone)
      ∧ t.ep.staging = s.ep.staging.map (fun x => { x with
          cls := match x.cls with | .openE => .applying | .nextE => .openE | .applying => .applying })
      ∧ (empty → t.ep.applied = s.ep.openNum ∧ t.ep.pendingApply = s.ep.pendingApply)
      ∧ (¬ empty → t.ep.applied = s.ep.applied ∧ t.ep.pendingApply = true)
      ∧ (∀ k : Fin 32, (t.pane k).display = (s.pane k).display)
      ∧ (∀ (k : Fin 32) e, (s.pane k).control = .releasing e → (∃ i, frees k i) → (t.pane k).control = .free)
      ∧ (∀ k : Fin 32, ((∀ e, (s.pane k).control ≠ .releasing e) ∨ ¬ ∃ i, frees k i) → (t.pane k).control = (s.pane k).control)
      ∧ ((s.ep.openReleases.map fun r => paneIx r.1).Nodup →
          t.store.freeList = (s.ep.openReleases.filterMap fun r =>
            match (s.pane (paneIx r.1)).control with | .releasing e => some e | _ => none).foldl (fun l e => returnExtent e l) s.store.freeList)
      ∧ t.store.cells = s.store.cells ∧ t.palettes = s.palettes ∧ t.raster = s.raster
      ∧ (tags.Pairwise (· < ·) ∧ ∀ g, g ∈ tags ↔
          g.toNat < 16 ∧ (∃ b ∈ s.tx.batches, b.tag = g) ∧ s.ep.batchIn s.stationId g .openE = true)
      ∧ (done.Pairwise (· < ·) ∧ ∀ g, g ∈ done ↔
          g.toNat < 32 ∧ frees (paneIx g) s.stationId ∧ ∃ e, (s.pane (paneIx g)).control = .releasing e)
      ∧ (s.host.events.length + tags.length + done.length ≤ 32 →
          let posted : List EventRec := tags.map (fun g => ⟨.batchCommitted, s.ep.openNum + 1, g, 0, 0⟩)
            ++ done.map (fun g => ⟨.releaseDone, s.ep.openNum + 1, g, 0, 0⟩)
          t.host = { s.host with events := s.host.events ++ posted })
      ∧ (t.tx.queue = s.tx.queue ∧ t.tx.retracts = s.tx.retracts ∧ t.tx.denials = s.tx.denials ∧ t.tx.joinDone = s.tx.joinDone
          ∧ t.tx.attempt = s.tx.attempt ∧ t.tx.closeOpen = s.tx.closeNext ∧ t.tx.closeNext = 0)
      ∧ (∀ b, b ∈ t.tx.batches ↔ b ∈ s.tx.batches ∧ b.tag ∉ tags)
      ∧ (t.mb.roster = s.mb.roster ∧ t.mb.joinQueue = s.mb.joinQueue ∧ t.mb.state = .member
          ∧ t.mb.foreignCount = min 16 (s.mb.foreignCount + 1))
      ∧ (∀ j rest src, s.mb.joinQueue = j :: rest → lowestId s.mb.roster = some src → s.ep.nextClose = 0 →
          (∀ x ∈ s.ep.staging, x.cls ≠ .nextE) →
          t.mb.transfer = some ⟨j, src, 0, false⟩ ∧ (src = s.stationId → t.mb.snapPos = some .head))
      ∧ ((s.mb.joinQueue = [] ∨ s.ep.nextClose ≠ 0 ∨ ∃ x ∈ s.ep.staging, x.cls = .nextE) →
          t.mb.transfer = none ∧ t.mb.snapPos = s.mb.snapPos)
      ∧ t.pins.tlvLow = t.voteLow ∧ t.link = { s.link with riseSample := none } ∧ t.stationId = s.stationId

/-- A rise sampled low (R54, R57, R61, R90): at a member with no transfer in flight the stall count grows exactly when some member has not closed OPEN; with a
transfer in flight, at a member and at the joiner, the transfer's age grows and the count does not. A batch caught short of staging room is broken: its queued
packets go, a RETRACT is raised and BATCH_BROKEN posted. The values 16 and 240 stand until their own rows take the limits (notes/assumptions/10.md). -/
def Obligations.RiseSampledLow : Prop :=
  ∀ s : State, s.quiet →
    let rise : State := { s with link := { s.link with riseSample := none } }
    let older (tr : Transfer) : State :=
      { rise with mb := { s.mb with transfer := some { tr with age := min 240 (tr.age + 1) } } }
    let stalls := s.mb.roster &&& ~~~s.ep.openClose ≠ 0
    let slower : State := if stalls then { rise with ep := { s.ep with stall := min 16 (s.ep.stall + 1) } } else rise
    (s.link.riseSample = some false → s.mb.state = .member → s.mb.transfer = none → s.shortBatches = [] →
      exec .tlfRiseEffects s = .next slower)
    ∧ (∀ tr, s.link.riseSample = some false → s.mb.state = .member → s.mb.transfer = some tr → s.shortBatches = [] →
        exec .tlfRiseEffects s = .next (older tr))
    ∧ (∀ b tr, s.link.riseSample = some b → s.mb.state = .joining → s.mb.transfer = some tr →
        exec .tlfRiseEffects s = .next (older tr))
    ∧ (∀ g, s.link.riseSample = some false → s.mb.state = .member → s.mb.transfer = none → s.shortBatches = [g] →
        (idIn s.stationId s.ep.openClose = true ∨ s.ep.stall < 15) → s.batchTaken g = true → s.tx.attempt = none →
        s.host.events.length < 32 →
        exec .tlfRiseEffects s = .next (({ slower with
          tx := { s.tx with
            queue := s.tx.queue.filter fun q => decide (q.request.tag? ≠ some g)
            batches := s.tx.batches.map fun b => if b.tag = g then { b with broken := true } else b
            retracts := s.tx.retracts ++ [⟨g, 0⟩] }
          host := { s.host with batch := s.host.batch.breakTag g } } : State).withEvent .batchBroken g 0 0))
    ∧ ∀ g, g ∈ s.shortBatches ↔ g.toNat < 16 ∧ ∃ q rest c b, s.tx.queue = q :: rest ∧ s.ep.current s.stationId = some c
        ∧ q.request.addsEntry = true ∧ 256 < s.ep.gatheringCount + 1 ∧ b ∈ s.tx.batches ∧ b.tag = g ∧ b.broken = false
        ∧ s.tx.unfinished b = true ∧ s.ep.batchIn s.stationId g c = true

/-- The two limits (R62, R67, R90, R93, R94, R109). At a stall count of 16 every member not in the OPEN close set is evicted, in ascending order, and the count returns to
0; a station that is itself in the list takes its own removal alone. At a transfer age of 240 the members drop the transfer and the joiner's id, and the joiner
leaves for LISTENING with TRANSFER_ABANDONED. The counts stand at 16 and 240 until these rows, the model's choice (notes/assumptions/10.md); short of its limit
neither row does anything, the model's choice for an event that cannot occur (notes/assumptions/1.md). -/
def Obligations.StallAndTransferLimits : Prop :=
  ∀ s : State,
    let out := s.mb.roster &&& ~~~s.ep.openClose
    let gone (i : StationId) := idIn i s.mb.roster = true ∧ idIn i s.ep.openClose = false
    (s.mb.state = .member → 16 ≤ s.ep.stall → gone s.stationId →
      ∃ t, exec .stallLimit s = .next t ∧ s.leftGroup t .evicted 0 (if s.mb.leaveRequested then .offline else .listening)
        ∧ (s.mb.leaveRequested = false → t.link = s.link)
        ∧ (s.mb.leaveRequested = true → s.link.state ≠ .transmitting → t.link = { linkReset with rate := s.link.rate }))
    ∧ (s.mb.state = .member → 16 ≤ s.ep.stall → ¬ gone s.stationId → out ≠ 0 →
      ∃ t, exec .stallLimit s = .next t
        ∧ t.mb = { s.mb with roster := s.mb.roster &&& s.ep.openClose }
        ∧ t.ep = { s.ep with
            stall := 0
            nextClose := s.ep.nextClose &&& ~~~out
            staging := s.ep.staging.filter fun x => !(decide (x.cls ≠ .applying) && idIn x.sender out) }
        ∧ (∀ k : Fin 32, (t.pane k).display = (s.pane k).display)
        ∧ (∀ (k : Fin 32) o x, (s.pane k).control = .owned o x → (t.pane k).control = if idIn o out then .orphan x else .owned o x)
        ∧ (∀ (k : Fin 32) x, (s.pane k).control = .releasing x →
            (t.pane k).control = if ∃ y ∈ s.ep.staging, y.cls ≠ .applying ∧ gone y.sender ∧ ∃ b, y.op = .release b ∧ paneIx b = k
              then .orphan x else .releasing x)
        ∧ (∀ k : Fin 32, ((s.pane k).control = .free ∨ ∃ x, (s.pane k).control = .orphan x) → (t.pane k).control = (s.pane k).control)
        ∧ (s.host.events.length + (idList out).length ≤ 32 →
            t.host = { s.host with
              events := s.host.events ++ (idList out).map fun i => ⟨.memberEvicted, s.ep.openNum, idByte i, 0, 0⟩ })
        ∧ t.store = s.store ∧ t.palettes = s.palettes ∧ t.tx = s.tx ∧ t.raster = s.raster ∧ t.link = s.link
        ∧ t.pins.tlvLow = t.voteLow)
    ∧ (s.ep.stall < 16 → exec .stallLimit s = .next s)
    ∧ ∀ tr, s.mb.transfer = some tr →
        (tr.age < 240 → exec .transferLimit s = .next s)
        ∧ (240 ≤ tr.age → s.mb.state = .member →
            let ends : Membership := { s.mb with transfer := none, joinQueue := s.mb.joinQueue.tail, snapPos := none }
            exec .transferLimit s
              = .next { s with mb := ends, pins := { s.pins with tlvLow := ({ s with mb := ends } : State).voteLow } })
        ∧ (240 ≤ tr.age → s.mb.state = .joining →
            ∃ t, exec .transferLimit s = .next t ∧ s.leftGroup t .transferAbandoned 1 .listening ∧ t.link = s.link)

/-! ### What cannot get through, and the timers -/

/-- Exhaustion (R35 to R38, R94, R169) and the two timers (R74, R79): an exhausted update breaks its batch; a request is dropped with its LINK outcome; an exhausted LEAVE
takes the station OFFLINE; an exhausted CLOSE, RETRACT or JOIN-DONE takes it out of the group; an exhausted JOIN-DENY is dropped, and an exhausted snapshot
packet ends the sending, each by itself or both at once. LISTENING
without evidence sends FOUND; REQUESTING asks again, or listens again when no rise was seen. -/
def Obligations.ExhaustionAndTimers : Prop :=
  ∀ s : State,
    (∀ g u n rest, s.tx.queue = ⟨.update g u, n⟩ :: rest → 8 ≤ n → s.tx.attempt = none → s.host.events.length < 32 →
      let u' (tx : Transmitter) : State := ({ s with
        tx := { tx with queue := s.tx.queue.filter fun q => decide (q.request.tag? ≠ some g) }
        host := { s.host with batch := s.host.batch.breakTag g } } : State).withEvent .batchBroken g 0 0
      (s.batchTaken g = true → exec .exhaustedUpdate s = .next (u' { s.tx with
          retracts := s.tx.retracts ++ [⟨g, 0⟩]
          batches := s.tx.batches.map fun b => if b.tag = g then { b with broken := true } else b }))
      ∧ (s.batchTaken g = false → exec .exhaustedUpdate s
          = .next (u' { s.tx with batches := s.tx.batches.filter fun b => decide (b.tag ≠ g) })))
    ∧ (∀ r n rest, s.tx.queue = ⟨r, n⟩ :: rest → 8 ≤ n →
        let d : State := { s with tx := { s.tx with queue := rest } }
        let listens (s : State) : State := { s with mb := { s.mb with
          state := .listening, listenTimer := some 500, requestTimer := none, groupSeen := false, foundBegun := false } }
        (∀ p m, r = .claim p m → s.host.events.length < 32 →
          exec .exhaustedRequest s = .next (d.withEvent .claimLost Reason.link.code (p.setWidth 16) 0))
        ∧ (∀ p g, r = .handover p g → s.host.events.length < 32 →
          exec .exhaustedRequest s = .next (d.withEvent .handoverFailed Reason.link.code (p.setWidth 16) 0))
        ∧ (∀ p, r = .release p → s.host.events.length < 32 →
          exec .exhaustedRequest s = .next (d.withEvent .releaseFailed Reason.link.code (p.setWidth 16) 0))
        ∧ (r = .found → s.mb.state = .founding → exec .exhaustedRequest s = .next (listens d))
        ∧ (r = .join → s.mb.state = .requesting → exec .exhaustedRequest s = .next (listens d))
        ∧ (r = .leave → s.mb.state = .member →
            ∃ t, exec .exhaustedRequest s = .next t ∧ s.leftGroup t .memberLeft (idByte s.stationId) .offline
              ∧ (s.link.state ≠ .transmitting → t.link = { linkReset with rate := s.link.rate })))
    ∧ ((s.mb.state = .member ∨ s.mb.state = .joining) →
        ((∃ r ∈ s.tx.retracts, 8 ≤ r.refusals) ∨ (∃ d, s.tx.joinDone = some d ∧ 8 ≤ d.refusals) ∨ 8 ≤ s.tx.closeOpen ∨ 8 ≤ s.tx.closeNext) →
        ∃ t, exec .selfDemotion s = .next t ∧ s.leftGroup t .linkFailed 0 (if s.mb.leaveRequested then .offline else .listening)
          ∧ (s.mb.leaveRequested = false → t.link = s.link))
    ∧ ((∀ r ∈ s.tx.retracts, r.refusals < 8) → (∀ d, s.tx.joinDone = some d → d.refusals < 8) → s.tx.closeOpen < 8 → s.tx.closeNext < 8 →
        let denials := s.tx.denials.filter fun d => decide (d.refusals < 8)
        (s.tx.snapRefusals < 8 → exec .selfDemotion s = .next { s with tx := { s.tx with denials := denials } })
        ∧ (8 ≤ s.tx.snapRefusals → exec .selfDemotion s = .next { s with
            mb := { s.mb with snapPos := none }
            tx := { s.tx with snapRefusals := 0, denials := denials } }))
    ∧ (∀ n, s.mb.state = .listening → s.mb.listenTimer = some n →
        exec .listenIntervalExpiry s = .next { s with
          tx := { s.tx with queue := s.tx.queue ++ [⟨.found, 0⟩] }
          mb := { s.mb with state := .founding, listenTimer := none, foundBegun := false } })
    ∧ ∀ n, s.mb.state = .requesting → s.mb.requestTimer = some n → s.tx.attempt = none →
        (s.mb.riseSeen = true → exec .requestTimerExpiry s = .next { s with
          tx := { s.tx with queue := s.tx.queue.filter (fun q => decide (q.request ≠ .join)) ++ [⟨.join, 0⟩] }
          mb := { s.mb with requestTimer := some 2000, riseSeen := false } })
        ∧ (s.mb.riseSeen = false → exec .requestTimerExpiry s = .next { s with
          tx := { s.tx with queue := s.tx.queue.filter fun q => decide (q.request ≠ .join) }
          mb := { s.mb with
            state := .listening, listenTimer := some 500, requestTimer := none, groupSeen := false, foundBegun := false } })

/-! ### The raster -/

/-- The vertical phases (R63, R138, R139, R140, R142, R152): at the entry to FRONT a held configuration takes effect, a FOLLOWING member becomes LOCKED, a LOCKED
station pulls TLF and sets its holding flag, and the apply pass starts while the pending-apply flag is set; at the entry to ACTIVE the blink and cursor
phases are bits 4 and 3 of the applied number and the overflow mark is cleared. -/
def Obligations.RasterPhases : Prop :=
  ∀ s : State,
    (s.raster.phase = some .active →
      let locked := s.raster.sync = .locked ∨ (s.raster.sync = .following ∧ s.mb.state = .member)
      exec .enterFront s = .next { s with
        raster := { s.raster with
          phase := some .front, waiting := false, holdEnding := false, lineRest := false
          timing := if s.raster.config.isSome then s.raster.config else s.raster.timing
          sync := if locked then .locked else s.raster.sync
          holding := decide locked
          pulled := decide locked }
        pins := { s.pins with tlfLow := decide locked }
        ep := { s.ep with
          passRunning := s.ep.passRunning || s.ep.pendingApply
          passDone := if s.ep.pendingApply then 0 else s.ep.passDone } })
    ∧ (s.raster.phase = some .front → exec .frontEnd s = .next { s with
        raster := { s.raster with phase := some .sync, waiting := false, holdEnding := false, lineRest := false } })
    ∧ (s.raster.phase = some .sync → exec .syncEnd s = .next { s with
        raster := { s.raster with phase := some .hold, waiting := false, holdEnding := false, lineRest := false } })
    ∧ (s.raster.phase = some .back → exec .backEnd s = .next { s with
        raster := { s.raster with
          phase := some .active, waiting := false, holdEnding := false, lineRest := false, overflowMark := false
          blinkOn := !s.ep.applied.getLsbD 4, cursorOn := !s.ep.applied.getLsbD 3 } })

/-- The frame line (R2, R19, R138, R141, R142, R143, R144). No rise is read while this station pulls TLF; otherwise a connected station samples TLV at the rise, a
FREE_RUN station becomes LOCKED, and HOLD ends for a FOLLOWING or released LOCKED station with no pass running. A LOCKED station releases TLF when its pass has
ended and 6 ms have passed since the last rise read. The HOLD line ends, the wait's 100 ms and the frame-hold limit act as R141, R143 and R144 give; that a
relock outside HOLD is taken as one in a frame whose TLF was not pulled is the model's choice (notes/assumptions/17.md), and so is that a limit once
passed ends HOLD at the line's end whatever the sync state has become in that line (notes/assumptions/40.md), and that a rise in that line still ends HOLD
at the rise (notes/assumptions/46.md), and that FRAME_RELOCKED comes before the records of the rise's effects (notes/assumptions/49.md). -/
def Obligations.FrameLine : Prop :=
  ∀ s : State,
    (∀ b, s.pins.tlfLow = true → exec (.tlfRise b) s = .next s)
    ∧ (∀ b, s.pins.tlfLow = false →
        let l : Link := if s.link.state = .disconnected then s.link else { s.link with riseSample := some (b && !s.pins.tlvLow) }
        let r : Raster := { s.raster with riseRead := s.raster.riseRead || s.raster.phase.isSome }
        (s.raster.sync = .freeRun → s.host.events.length < 32 → exec (.tlfRise b) s
          = .next (({ s with link := l, raster := { r with sync := .locked, holding := false, pulled := false } } : State).withEvent
              .frameRelocked 0 0 0))
        ∧ (s.raster.phase = some .hold → s.ep.passRunning = false →
            (s.raster.sync = .following ∨ (s.raster.sync = .locked ∧ s.raster.holding = false)) →
            exec (.tlfRise b) s
              = .next { s with link := l, raster := { r with phase := some .back, waiting := false, holdEnding := false, lineRest := false } })
        ∧ (s.raster.sync ≠ .freeRun → s.raster.phase ≠ some .hold → exec (.tlfRise b) s = .next { s with link := l, raster := r }))
    ∧ (∀ us, s.raster.phase = some .hold → s.raster.sync = .locked → s.raster.holding = true →
        (s.ep.passRunning = false → (s.raster.riseRead = false ∨ 6000 ≤ us) → exec (.tlfRelease us) s
          = .next { s with raster := { s.raster with holding := false }, pins := { s.pins with tlfLow := false } })
        ∧ ((s.ep.passRunning = true ∨ (s.raster.riseRead = true ∧ us < 6000)) → exec (.tlfRelease us) s = .next s))
    ∧ (∀ b, s.raster.phase = some .hold →
        let high := b && !s.pins.tlfLow
        let back : State :=
          { s with raster := { s.raster with phase := some .back, waiting := false, holdEnding := false, lineRest := false } }
        (s.ep.passRunning = false → (s.raster.holdEnding = true ∨ s.raster.sync = .freeRun ∨ (s.raster.sync = .following ∧ high = true)
            ∨ (s.raster.sync = .locked ∧ s.raster.pulled = false ∧ high = true)) → exec (.holdLineEnd b) s = .next back)
        ∧ (s.raster.sync = .following → s.raster.holdEnding = false → high = false →
            exec (.holdLineEnd b) s = .next { s with raster := { s.raster with waiting := true } })
        ∧ (s.raster.sync = .locked → s.raster.holdEnding = false → (s.raster.pulled = true ∨ high = false) →
            exec (.holdLineEnd b) s = .next s)
        ∧ (s.ep.passRunning = true → s.raster.sync ≠ .following → exec (.holdLineEnd b) s = .next s))
    ∧ (s.raster.phase = some .hold → s.raster.sync = .following → s.raster.waiting = true →
        exec .followingWaitLimit s = .next { s with raster := { s.raster with holdEnding := true } })
    ∧ (s.raster.phase = some .hold → s.raster.sync = .locked → s.ep.passRunning = false → s.pins.tlfLow = false →
        s.host.events.length < 32 → exec .frameHoldLimit s
          = .next (({ s with raster := { s.raster with sync := .freeRun, holdEnding := true } } : State).withEvent .frameLost 0 0 0))

/-- The span list (R99, R146): at a tile cell row the drawn panes whose window meets the row, ordered by depth, highest first, and the lower id of equal depths first; the
first 16 are kept, and the first overflow of a frame posts RASTER_OVERFLOW with the row and the number that qualify. -/
def Obligations.SpanListBuild : Prop :=
  ∀ (s : State) (f : TileFields) (row : Nat), s.raster.timing = some f → s.raster.phase = some .active →
    (s.raster.sync = .locked ∨ s.raster.sync = .freeRun) → row < f.rows → s.fieldsSound →
    ∃ q : List (Fin 32),
      (∀ i, i ∈ q ↔
        let d := (s.pane i).display
        let r := f.originRow.toNat + row
        d.visible = true ∧ d.ext ≠ none
        ∧ d.row.toNat ≤ r ∧ r ≤ min (d.row.toNat + d.height.toNat - 1) 4095
        ∧ ∃ c, f.originCol.toNat ≤ c ∧ c < f.originCol.toNat + f.hActive.toNat / 8
            ∧ d.col.toNat ≤ c ∧ c ≤ min (d.col.toNat + d.width.toNat - 1) 4095)
      ∧ q.Pairwise (fun i j =>
          (s.pane j).display.depth < (s.pane i).display.depth ∨ ((s.pane i).display.depth = (s.pane j).display.depth ∧ i < j))
      ∧ (let kept : State := { s with raster := { s.raster with spanRow := row, spanList := q.take 16 } }
        ((q.length ≤ 16 ∨ s.raster.overflowMark = true) → exec (.spanListBuild row) s = .next kept)
        ∧ (16 < q.length → s.raster.overflowMark = false → s.host.events.length < 32 →
          exec (.spanListBuild row) s
            = .next (({ kept with raster := { kept.raster with overflowMark := true } } : State).withEvent .rasterOverflow
                (byte row) (half q.length) 0)))

/-- What the panel is shown (R137, R145, R147, R148, R149, R151, R153, R154, R157): outputs inactive in STOPPED; DE, HS and VS by phase and pixel; in LOCKED
and FREE_RUN line 16r + y of ACTIVE shows scanline y of tile cell row r (R145), each active pixel from the first pane of the span list that stands over its
column, by the five steps of R151, and the background where none does; the background in the other sync states, but for the rest of a line of ACTIVE within
which the state became FOLLOWING (R140; notes/assumptions/41.md). Along a line the outputs go from pixel to pixel at PXCLK's falling edges, where alone DE,
RGB, HS and VS change, PCLK being PXCLK; a line is horizontal total pixel periods and ends after the last, and a phase's lines follow one another (R137,
R138). Nothing is said of a line of ACTIVE while the span list held is another row's (R146). -/
def Obligations.PixelColour : Prop :=
  (fallingEdges false [] = 0 ∧ ∀ levels px, fallingEdges false (levels ++ [px])
    = fallingEdges false levels + if levels.getLast?.getD false = true ∧ px = false then 1 else 0)
  ∧ (∀ (s : State) (begun : Bool) (line : Nat) (levels : List Bool),
    (s.raster.phase = none → s.panel begun line levels = some ⟨false, false, 0, true, true⟩)
    ∧ ∀ ph f, s.raster.phase = some ph → s.raster.timing = some f →
        (fallingEdges false levels < f.hTotal.toNat →
          (ph ≠ .active ∨ (s.raster.sync ≠ .locked ∧ s.raster.sync ≠ .freeRun) ∨ s.raster.spanRow = line / 16) →
          s.panel begun line levels = some (s.video (levels.getLast?.getD false) begun line (fallingEdges false levels)))
        ∧ (f.hTotal.toNat ≤ fallingEdges false levels → s.panel begun line levels = none)
        ∧ (ph = .active → (s.raster.sync = .locked ∨ s.raster.sync = .freeRun) → s.raster.spanRow ≠ line / 16 →
            s.panel begun line levels = none)
        ∧ ∀ px v w, s.panel begun line levels = some v → s.panel begun line (levels ++ [px]) = some w →
            w.pclk = px ∧ (¬ (v.pclk = true ∧ px = false) → w = { v with pclk := px }))
  ∧ (∀ (f : TileFields) (ph : Phase) (lines n : Nat), 0 < f.hTotal.toNat → f.phaseLines ph = some lines →
      f.phasePeriods ph = some (lines * f.hTotal.toNat)
      ∧ n = f.hTotal.toNat * (f.beam n).1 + (f.beam n).2 ∧ (f.beam n).2 < f.hTotal.toNat
      ∧ (n < lines * f.hTotal.toNat ↔ (f.beam n).1 < lines))
  ∧ (∀ (s : State) (px begun : Bool) (row line x : Nat) (scan : Fin 16), line = 16 * row + scan.val →
    (s.raster.phase = none → s.video px begun line x = ⟨false, false, 0, true, true⟩)
    ∧ ∀ ph f, s.raster.phase = some ph → s.raster.timing = some f →
        let v := s.video px begun line x
        let col := f.originCol.toNat + x / 8
        let stands (i : Fin 32) := let d := (s.pane i).display
          d.col.toNat ≤ col ∧ col ≤ min (d.col.toNat + d.width.toNat - 1) 4095
        v.pclk = px
        ∧ (v.de = true ↔ ph = .active ∧ x < f.hActive.toNat)
        ∧ (v.hs = false ↔ f.hSyncStart.toNat ≤ x ∧ x < f.hSyncEnd.toNat)
        ∧ (v.vs = false ↔ ph = .sync)
        ∧ ((ph ≠ .active ∨ f.hActive.toNat ≤ x) → v.rgb = 0)
        ∧ ((s.raster.sync = .following ∨ s.raster.sync = .stopped) → (s.raster.lineRest = false ∨ begun = false) → v.rgb = 0)
        ∧ ((s.raster.sync = .locked ∨ s.raster.sync = .freeRun) → (∀ i ∈ s.raster.spanList, ¬ stands i) → v.rgb = 0)
        ∧ ∀ pre i post, (s.raster.sync = .locked ∨ s.raster.sync = .freeRun) → ph = .active → x < f.hActive.toNat →
            s.raster.spanList = pre ++ i :: post → (∀ j ∈ pre, ¬ stands j) → stands i →
            v.rgb = s.panePixel i (f.originRow.toNat + row) col scan (x % 8))
  ∧ (∀ (s : State) (e : Fin 16),
      s.colour 0 (BitVec.ofNat 4 e.val) = ([0x000000, 0x000080, 0x008000, 0x008080, 0x800000, 0x800080, 0x808000, 0xC0C0C0,
        0x808080, 0x0000FF, 0x00FF00, 0x00FFFF, 0xFF0000, 0xFF00FF, 0xFFFF00, 0xFFFFFF] : List Colour).getD e.val 0
      ∧ ∀ b : Fin 3, s.colour (BitVec.ofNat 2 (b.val + 1)) (BitVec.ofNat 4 e.val) = s.palettes[b][e])
  ∧ (∀ (s : State) (code : Byte) (scan : Fin 16),
      s.glyphRow .b code scan = Memory.read fontZero s.raster.fontB (16 * code.toNat + scan.val)
      ∧ s.glyphRow .a 0x00 scan = 0x00 ∧ s.glyphRow .a 0x20 scan = 0x00 ∧ s.glyphRow .a 0xFF scan = 0xFF)
  ∧ (∀ (d : Display) (r c : Nat) (scan : Fin 16), d.cursorAt r c scan = true ↔
      d.cursor.top.toNat ≤ d.cursor.bottom.toNat ∧ d.cursor.row.toNat < d.height.toNat ∧ d.cursor.col.toNat < d.width.toNat
      ∧ d.cursor.row.toNat = r ∧ d.cursor.col.toNat = c ∧ d.cursor.top.toNat ≤ scan.val ∧ scan.val ≤ d.cursor.bottom.toNat)
  ∧ ∀ (s : State) (i : Fin 32) (row col : Nat) (scan : Fin 16) (x : Nat),
      let d := (s.pane i).display
      let c := s.cellShown d (row - d.row.toNat) (col - d.col.toNat)
      let set := (s.glyphRow d.font c.char scan).getLsbD (7 - x) = true ∨ (d.mode = .underline ∧ c.attr.getLsbD 7 = true ∧ scan.val = d.underline.toNat)
      let fg : BitVec 4 := c.attr.extractLsb' 0 4
      let bg : BitVec 4 := if d.mode = .bright then c.attr.extractLsb' 4 4 else (c.attr.extractLsb' 4 3).setWidth 4
      let off := d.mode = .blink ∧ c.attr.getLsbD 7 = true ∧ s.raster.blinkOn = false
      let cur := s.raster.cursorOn = true ∧ d.cursorAt (row - d.row.toNat) (col - d.col.toNat) scan = true
      (off → s.panePixel i row col scan x = s.colour d.bank bg)
      ∧ (¬ off → ((set ∧ ¬ cur) ∨ (¬ set ∧ cur)) → s.panePixel i row col scan x = s.colour d.bank fg)
      ∧ (¬ off → ((set ∧ cur) ∨ (¬ set ∧ ¬ cur)) → s.panePixel i row col scan x = s.colour d.bank bg)
      ∧ (∀ e, d.ext = some e → d.pitch.toNat ≤ d.scrollCol.toNat + (col - d.col.toNat) ∨ 16 * e.size / d.pitch.toNat = 0 → c = ⟨0x20, 0x07⟩)
      ∧ (∀ e, d.ext = some e → d.scrollCol.toNat + (col - d.col.toNat) < d.pitch.toNat → 16 * e.size / d.pitch.toNat ≠ 0 →
          c = readCell s.store.cells (16 * e.base
            + (d.scrollRow.toNat + (row - d.row.toNat)) % (16 * e.size / d.pitch.toNat) * d.pitch.toNat
            + (d.scrollCol.toNat + (col - d.col.toNat))))

/-! ### The apply pass -/

/-- APPLY_PUT_CELLS (R129): the i-th carried cell goes to the cell at 16B + offset + i when offset + i is less than 16S, and every other cell stays; with no display extent
no cell is written. The pass goes on to the next entry, and nothing else changes. -/
def Obligations.ApplyPutCells : Prop :=
  ∀ (s : State) (x : Entry) (a : PutCellsArgs), s.ep.nextToApply = some x → x.op = .update (.putCells a) → s.store.cells.cellsWf = true →
    let after (m : Memory) : State :=
      { s with store := { s.store with cells := m }, ep := { s.ep with passDone := s.ep.passDone + 1 } }
    ((s.pane (paneIx a.pane)).display.ext = none → exec .applyPutCells s = .next (after s.store.cells))
    ∧ ∀ e, (s.pane (paneIx a.pane)).display.ext = some e → e.inStore = true →
        ∃ m, exec .applyPutCells s = .next (after m)
          ∧ (∀ i (h : i < a.cells.length), a.offset.toNat + i < 16 * e.size → readCell m (16 * e.base + a.offset.toNat + i) = a.cells[i])
          ∧ ∀ o, (∀ i, i < a.cells.length → a.offset.toNat + i < 16 * e.size → o ≠ 16 * e.base + a.offset.toNat + i) →
              readCell m o = readCell s.store.cells o

/-- APPLY_FILL (R131, R132): the cells of the rectangle clipped to the grid of P columns and 16S / P rows change, each by itself: the character when the char-write flag is
1, and at the positions the mask marks the attribute's combined bit; every other cell stays, and with no display extent every cell. The same XOR FILL twice gives
every attribute back. -/
def Obligations.ApplyFill : Prop :=
  (∀ (s : State) (x : Entry) (a : FillArgs), s.ep.nextToApply = some x → x.op = .update (.fill a) → s.store.cells.cellsWf = true →
    a.fn.toNat ≤ 3 →
    let after (m : Memory) : State :=
      { s with store := { s.store with cells := m }, ep := { s.ep with passDone := s.ep.passDone + 1 } }
    let d := (s.pane (paneIx a.pane)).display
    (d.ext = none → exec .applyFill s = .next (after s.store.cells))
    ∧ ∀ e, d.ext = some e → e.inStore = true →
        let acts (o : Nat) := ∃ r c, o = 16 * e.base + r * d.pitch.toNat + c
          ∧ a.top.toNat ≤ r ∧ r < min (a.top.toNat + a.rows.toNat) (16 * e.size / d.pitch.toNat)
          ∧ a.left.toNat ≤ c ∧ c < min (a.left.toNat + a.cols.toNat) d.pitch.toNat
        ∃ m, exec .applyFill s = .next (after m)
          ∧ (∀ o, acts o →
              (readCell m o).char = (if a.charWrite = 1 then a.char else (readCell s.store.cells o).char)
              ∧ ∀ j, j < 8 →
                let old := (readCell s.store.cells o).attr.getLsbD j
                let given := a.attr.getLsbD j
                (readCell m o).attr.getLsbD j
                  = if a.mask.getLsbD j = false then old
                    else if a.fn = 0 then given
                    else if a.fn = 1 then old && given
                    else if a.fn = 2 then old || given
                    else old != given)
          ∧ ∀ o, ¬ acts o → readCell m o = readCell s.store.cells o)
  ∧ ∀ (a : FillArgs) (c : Cell), a.fn = 3 → (fillCell a (fillCell a c)).attr = c.attr

/-- APPLY_COPY (R134) and APPLY_CLEAR (R127, R114): a COPY gives each destination cell of the clipped rectangle its source's value from before the COPY and leaves every other
cell; a CLEAR makes every cell of its extent blank, leaves every other cell, and writes the pane defaults with its extent. -/
def Obligations.ApplyCopyAndClear : Prop :=
  ∀ (s : State) (x : Entry), s.ep.nextToApply = some x → s.store.cells.cellsWf = true →
    let after (m : Memory) : State :=
      { s with store := { s.store with cells := m }, ep := { s.ep with passDone := s.ep.passDone + 1 } }
    (∀ a : CopyArgs, x.op = .update (.copy a) →
      let d := (s.pane (paneIx a.pane)).display
      (d.ext = none → exec .applyCopy s = .next (after s.store.cells))
      ∧ ∀ e, d.ext = some e → e.inStore = true →
          let rows := 16 * e.size / d.pitch.toNat
          let pair (i j : Nat) := i < a.rows.toNat ∧ j < a.cols.toNat
            ∧ a.srcRow.toNat + i < rows ∧ a.dstRow.toNat + i < rows
            ∧ a.srcCol.toNat + j < d.pitch.toNat ∧ a.dstCol.toNat + j < d.pitch.toNat
          let src (i j : Nat) := 16 * e.base + (a.srcRow.toNat + i) * d.pitch.toNat + (a.srcCol.toNat + j)
          let dst (i j : Nat) := 16 * e.base + (a.dstRow.toNat + i) * d.pitch.toNat + (a.dstCol.toNat + j)
          ∃ m, exec .applyCopy s = .next (after m)
            ∧ (∀ i j, pair i j → readCell m (dst i j) = readCell s.store.cells (src i j))
            ∧ ∀ o, (∀ i j, pair i j → o ≠ dst i j) → readCell m o = readCell s.store.cells o)
    ∧ ∀ p e, x.op = .clear p e → e.inStore = true →
        ∃ m, exec .applyClear s = .next ((after m).setPane (paneIx p)
            ⟨(s.pane (paneIx p)).control, ⟨0, 0, 16, 1, 0, 16, 0, 0, .a, 0, .blink, 15, ⟨0, 0, 15, 0⟩, false, some e⟩⟩)
          ∧ (∀ o, 16 * e.base ≤ o → o < 16 * (e.base + e.size) → readCell m o = ⟨0x20, 0x07⟩)
          ∧ ∀ o, (o < 16 * e.base ∨ 16 * (e.base + e.size) ≤ o) → readCell m o = readCell s.store.cells o

/-- The entries that write no cell, and the pass's end (R113, R115, R156, R65): a SET-PANE writes its present fields and keeps the others; a SET-PALETTE writes its colours from
its first index into its bank alone; a RELEASE writes the pane defaults with no extent; when every entry is applied they leave the staging queue, the applied
number is the committed number, the flag is clear and TLV is re-evaluated. That APPLY_PASS_END before every entry is applied changes nothing is the model's
choice for an event that cannot occur (notes/assumptions/1.md). -/
def Obligations.ApplyDisplayAndEnd : Prop :=
  (∀ (s : State) (x : Entry), s.ep.nextToApply = some x →
    let after : State := { s with ep := { s.ep with passDone := s.ep.passDone + 1 } }
    (∀ a : SetPaneArgs, x.op = .update (.setPane a) →
      let d := (s.pane (paneIx a.pane)).display
      exec .applySetPane s = .next (after.setPane (paneIx a.pane) ⟨(s.pane (paneIx a.pane)).control, {
        col := a.col.getD d.col, row := a.row.getD d.row, width := a.width.getD d.width, height := a.height.getD d.height
        depth := a.depth.getD d.depth, pitch := a.pitch.getD d.pitch
        scrollRow := a.scrollRow.getD d.scrollRow, scrollCol := a.scrollCol.getD d.scrollCol
        font := match a.font with | some v => (if v = 0 then .a else .b) | none => d.font
        bank := match a.bank with | some v => v.setWidth 2 | none => d.bank
        mode := match a.mode with | some v => (if v = 0 then .blink else if v = 1 then .bright else .underline) | none => d.mode
        underline := match a.underline with | some v => v.setWidth 4 | none => d.underline
        cursor := match a.cursor with
          | some v => ⟨v.row, v.col, v.scan.extractLsb' 4 4, v.scan.extractLsb' 0 4⟩
          | none => d.cursor
        visible := match a.visible with | some v => decide (v = 1) | none => d.visible
        ext := d.ext }⟩))
    ∧ (∀ a : SetPaletteArgs, x.op = .update (.setPalette a) → a.inRange = true →
        ∃ pals, exec .applySetPalette s = .next { after with palettes := pals }
          ∧ (∀ (j : Fin 3) (e : Fin 16), j.val + 1 ≠ a.bank.toNat ∨ e.val < a.first.toNat ∨ a.first.toNat + a.colours.length ≤ e.val →
              pals[j][e] = s.palettes[j][e])
          ∧ ∀ (j : Fin 3) n (h : n < a.colours.length) (e : Fin 16), j.val + 1 = a.bank.toNat → e.val = a.first.toNat + n →
              pals[j][e] = a.colours[n])
    ∧ ∀ p, x.op = .release p →
        exec .applyRelease s = .next (after.setPane (paneIx p)
          ⟨(s.pane (paneIx p)).control, ⟨0, 0, 16, 1, 0, 16, 0, 0, .a, 0, .blink, 15, ⟨0, 0, 15, 0⟩, false, none⟩⟩))
  ∧ ∀ s : State, s.ep.passRunning = true →
      (s.ep.applyingEntries.length ≤ s.ep.passDone →
        let e : Epochs := { s.ep with
          staging := s.ep.staging.filter (fun x => decide (x.cls ≠ .applying))
          applied := s.ep.openNum - 1, pendingApply := false, passRunning := false, passDone := 0 }
        exec .applyPassEnd s = .next { s with ep := e, pins := { s.pins with tlvLow := ({ s with ep := e } : State).voteLow } })
      ∧ (s.ep.passDone < s.ep.applyingEntries.length → exec .applyPassEnd s = .next s)
end

