-- ==== Sys2Proof/Laws/Memory.lean ====
section
/-! SUPPORT. Memory: reading after writing, and every operation over the cells and over font B keeps the canonical form. -/

namespace Sys2Proof.Machine

/-- Every address of the memory is above a bound. -/
def Memory.above (lo : Nat) (m : Memory) : Prop := ∀ c ∈ m, lo < c.1

theorem Memory.rising_cons (k : Nat) (v : Byte) (t : Memory) :
    Memory.rising ((k, v) :: t) = true ↔ Memory.above k t ∧ Memory.rising t = true := by
  induction t generalizing k v with
  | nil => simp [Memory.rising, Memory.above]
  | cons c t ih =>
    obtain ⟨k', w⟩ := c
    have h := ih k' w
    constructor
    · intro hr
      simp only [Memory.rising, Bool.and_eq_true, decide_eq_true_eq] at hr
      refine ⟨?_, hr.2⟩
      have ha := (h.1 hr.2).1
      intro c hc
      rcases List.mem_cons.1 hc with rfl | hc
      · exact hr.1
      · exact Nat.lt_trans hr.1 (ha c hc)
    · rintro ⟨ha, hr⟩
      simp only [Memory.rising, Bool.and_eq_true, decide_eq_true_eq]
      exact ⟨ha (k', w) (by simp), hr⟩

theorem Memory.mem_write (u : Nat → Byte) (m : Memory) (a : Nat) (v : Byte) (c : Host.Cell) (h : c ∈ Memory.write u m a v) :
    c ∈ m ∨ (c = (a, v) ∧ v ≠ u a) := by
  induction m with
  | nil =>
    simp only [Memory.write] at h
    split at h <;> simp_all
  | cons d t ih =>
    obtain ⟨k, w⟩ := d
    simp only [Memory.write] at h
    (repeat' split at h) <;> simp_all <;> tauto

theorem Memory.rising_write (u : Nat → Byte) (m : Memory) (a : Nat) (v : Byte) (h : Memory.rising m = true) :
    Memory.rising (Memory.write u m a v) = true := by
  induction m with
  | nil => simp only [Memory.write]; split <;> rfl
  | cons d t ih =>
    obtain ⟨k, w⟩ := d
    obtain ⟨ha, hr⟩ := (Memory.rising_cons k w t).1 h
    simp only [Memory.write]
    split
    · rename_i hak
      split
      · exact h
      · refine (Memory.rising_cons _ _ _).2 ⟨?_, h⟩
        intro c hc
        rcases List.mem_cons.1 hc with rfl | hc
        · exact hak
        · exact Nat.lt_trans hak (ha c hc)
    · rename_i hak
      split
      · rename_i he
        split
        · exact hr
        · exact (Memory.rising_cons _ _ _).2 ⟨he ▸ ha, hr⟩
      · rename_i hne
        refine (Memory.rising_cons _ _ _).2 ⟨?_, ih hr⟩
        intro c hc
        rcases Memory.mem_write u t a v c hc with hc | ⟨rfl, -⟩
        · exact ha c hc
        · show k < a; omega

theorem Memory.wf_iff (u : Nat → Byte) (n : Nat) (m : Memory) :
    Memory.wf u n m = true ↔ Memory.rising m = true ∧ ∀ c ∈ m, c.2 ≠ u c.1 ∧ c.1 < n := by
  simp [Memory.wf]

/-- A write below the limit keeps the canonical form. -/
theorem Memory.wf_write (u : Nat → Byte) (n : Nat) (m : Memory) (a : Nat) (v : Byte) (ha : a < n) (h : Memory.wf u n m = true) :
    Memory.wf u n (Memory.write u m a v) = true := by
  obtain ⟨hr, hc⟩ := (Memory.wf_iff u n m).1 h
  refine (Memory.wf_iff _ _ _).2 ⟨Memory.rising_write u m a v hr, ?_⟩
  intro c hm
  rcases Memory.mem_write u m a v c hm with hm | ⟨rfl, hv⟩
  · exact hc c hm
  · exact ⟨hv, ha⟩

theorem Memory.read_above (u : Nat → Byte) (m : Memory) (a : Nat) (h : Memory.above a m) : Memory.read u m a = u a := by
  induction m with
  | nil => rfl
  | cons d t ih =>
    obtain ⟨k, w⟩ := d
    have hk : a < k := h (k, w) (by simp)
    simp only [Memory.read]
    rw [if_neg (by omega)]
    exact ih fun c hc => h c (List.mem_cons_of_mem _ hc)

/-- Reading where a byte was just written gives the byte; reading elsewhere gives what it gave before. -/
theorem Memory.read_write (u : Nat → Byte) (m : Memory) (a b : Nat) (v : Byte) (h : Memory.rising m = true) :
    Memory.read u (Memory.write u m a v) b = if b = a then v else Memory.read u m b := by
  induction m with
  | nil =>
    by_cases hb : b = a
    · subst hb
      by_cases hv : v = u b
      · simp [Memory.write, Memory.read, hv]
      · simp [Memory.write, Memory.read, hv]
    · have hb' : ¬ a = b := fun h => hb h.symm
      by_cases hv : v = u a
      · simp [Memory.write, Memory.read, hv, hb]
      · simp [Memory.write, Memory.read, hv, hb, hb']
  | cons d t ih =>
    obtain ⟨k, w⟩ := d
    obtain ⟨ha, hr⟩ := (Memory.rising_cons k w t).1 h
    have ih := ih hr
    simp only [Memory.write]
    by_cases hak : a < k
    · simp only [hak, if_true]
      by_cases hv : v = u a
      · simp only [hv, if_true]
        by_cases hb : b = a
        · subst hb
          simp only [if_true]
          exact Memory.read_above u _ _ (by
            intro c hc
            rcases List.mem_cons.1 hc with rfl | hc
            · exact hak
            · exact Nat.lt_trans hak (ha c hc))
        · simp [hb]
      · simp only [hv, if_false, Memory.read]
        by_cases hb : b = a
        · rw [if_pos hb.symm, if_pos hb]
        · rw [if_neg (Ne.symm hb), if_neg hb]
    · simp only [hak, if_false]
      by_cases he : a = k
      · subst he
        simp only [if_true]
        by_cases hv : v = u a
        · simp only [hv, if_true, Memory.read]
          by_cases hb : b = a
          · subst hb
            simp only [if_true]
            exact Memory.read_above u _ _ ha
          · simp [hb, Ne.symm hb]
        · simp only [hv, if_false, Memory.read]
          by_cases hb : b = a
          · rw [if_pos hb.symm, if_pos hb]
          · rw [if_neg (Ne.symm hb), if_neg hb, if_neg (Ne.symm hb)]
      · simp only [he, if_false, Memory.read, ih]
        by_cases hb : b = a
        · subst hb
          simp [Ne.symm he]
        · simp [hb]

theorem Memory.wf_writeRun (u : Nat → Byte) (n : Nat) (bytes : List Byte) :
    ∀ (m : Memory) (a : Nat), a + bytes.length ≤ n → Memory.wf u n m = true → Memory.wf u n (Memory.writeRun u m a bytes) = true := by
  induction bytes with
  | nil => intro m a _ h; exact h
  | cons b t ih =>
    intro m a ha h
    simp only [List.length_cons] at ha
    exact ih _ _ (by omega) (Memory.wf_write u n m a b (by omega) h)

/-- Reading after a run of bytes was written. -/
theorem Memory.read_writeRun (u : Nat → Byte) (bytes : List Byte) :
    ∀ (m : Memory) (a b : Nat), Memory.rising m = true →
      Memory.read u (Memory.writeRun u m a bytes) b
        = if a ≤ b ∧ b < a + bytes.length then bytes.getD (b - a) 0 else Memory.read u m b := by
  induction bytes with
  | nil => intro m a b _; simp [Memory.writeRun]
  | cons v t ih =>
    intro m a b hr
    simp only [Memory.writeRun, List.length_cons]
    rw [ih _ _ _ (Memory.rising_write u m a v hr), Memory.read_write u m a b v hr]
    by_cases h1 : a + 1 ≤ b ∧ b < a + 1 + t.length
    · rw [if_pos h1, if_pos (by omega)]
      have : b - a = (b - (a + 1)) + 1 := by omega
      rw [this, List.getD_cons_succ]
    · rw [if_neg h1]
      by_cases hb : b = a
      · subst hb
        rw [if_pos rfl, if_pos (by omega)]
        simp
      · rw [if_neg hb, if_neg (by omega)]

theorem Memory.wf_clearRange (u : Nat → Byte) (n : Nat) (m : Memory) (lo hi : Nat) (h : Memory.wf u n m = true) :
    Memory.wf u n (Memory.clearRange m lo hi) = true := by
  obtain ⟨hr, hc⟩ := (Memory.wf_iff u n m).1 h
  refine (Memory.wf_iff _ _ _).2 ⟨?_, fun c hm => hc c (List.mem_of_mem_filter hm)⟩
  clear hc h
  induction m with
  | nil => rfl
  | cons d t ih =>
    obtain ⟨k, w⟩ := d
    obtain ⟨ha, hr⟩ := (Memory.rising_cons k w t).1 hr
    simp only [Memory.clearRange, List.filter_cons]
    split
    · exact (Memory.rising_cons _ _ _).2 ⟨fun c hc => ha c (List.mem_of_mem_filter hc), ih hr⟩
    · exact ih hr

/-- Reading after a range was cleared. -/
theorem Memory.read_clearRange (u : Nat → Byte) (m : Memory) (lo hi b : Nat) :
    Memory.read u (Memory.clearRange m lo hi) b = if lo ≤ b ∧ b < hi then u b else Memory.read u m b := by
  induction m with
  | nil => simp [Memory.clearRange, Memory.read]
  | cons d t ih =>
    obtain ⟨k, w⟩ := d
    simp only [Memory.clearRange, List.filter_cons] at ih ⊢
    by_cases hk : lo ≤ k ∧ k < hi
    · simp only [hk.1, hk.2, decide_true, Bool.and_self, Bool.not_true, Bool.false_eq_true, if_false, ih, Memory.read]
      by_cases hb : lo ≤ b ∧ b < hi
      · simp [hb]
      · have : k ≠ b := by rintro rfl; exact hb hk
        simp [hb, this]
    · have : (!(decide (lo ≤ k) && decide (k < hi))) = true := by simp; omega
      simp only [this, if_true, Memory.read, ih]
      by_cases hb : k = b
      · subst hb; simp [hk]
      · simp [hb]

/-! ### Cells -/

theorem cellsWf_writeCell (m : Memory) (o : Nat) (c : Cell) (ho : o < 8192) (h : m.cellsWf = true) : (writeCell m o c).cellsWf = true := by
  have hl : cellBytesLimit = 16384 := rfl
  exact Memory.wf_write _ _ _ _ _ (by omega) (Memory.wf_write _ _ _ _ _ (by omega) h)

theorem cellsWf_writeCells (cs : List Cell) :
    ∀ (m : Memory) (o : Nat), o + cs.length ≤ 8192 → m.cellsWf = true → (writeCells m o cs).cellsWf = true := by
  induction cs with
  | nil => intro m o _ h; exact h
  | cons c t ih =>
    intro m o ho h
    simp only [List.length_cons] at ho
    exact ih _ _ (by omega) (cellsWf_writeCell m o c (by omega) h)

theorem Memory.rising_of_cellsWf (m : Memory) (h : m.cellsWf = true) : Memory.rising m = true := ((Memory.wf_iff _ _ _).1 h).1

/-- Reading a cell after a cell was written. -/
theorem readCell_writeCell (m : Memory) (o p : Nat) (c : Cell) (h : Memory.rising m = true) :
    readCell (writeCell m o c) p = if p = o then c else readCell m p := by
  have h1 := Memory.rising_write blankByte m (2 * o) c.char h
  simp only [readCell, writeCell, Memory.read_write blankByte _ _ _ _ h1, Memory.read_write blankByte _ _ _ _ h]
  by_cases hp : p = o
  · subst hp; simp
  · have e1 : ¬ 2 * p = 2 * o + 1 := by omega
    have e2 : ¬ 2 * p = 2 * o := by omega
    have e4 : ¬ 2 * p + 1 = 2 * o := by omega
    simp [hp, e1, e2, e4]

theorem rising_writeCell (m : Memory) (o : Nat) (c : Cell) (h : Memory.rising m = true) : Memory.rising (writeCell m o c) = true :=
  Memory.rising_write _ _ _ _ (Memory.rising_write _ _ _ _ h)

/-- Reading a cell after a run of cells was written. -/
theorem readCell_writeCells (cs : List Cell) :
    ∀ (m : Memory) (o p : Nat), Memory.rising m = true →
      readCell (writeCells m o cs) p = if o ≤ p ∧ p < o + cs.length then cs.getD (p - o) ⟨0, 0⟩ else readCell m p := by
  induction cs with
  | nil => intro m o p _; simp [writeCells]
  | cons c t ih =>
    intro m o p hr
    simp only [writeCells, List.length_cons]
    rw [ih _ _ _ (rising_writeCell m o c hr), readCell_writeCell m o p c hr]
    by_cases h1 : o + 1 ≤ p ∧ p < o + 1 + t.length
    · rw [if_pos h1, if_pos (by omega)]
      have : p - o = (p - (o + 1)) + 1 := by omega
      rw [this, List.getD_cons_succ]
    · rw [if_neg h1]
      by_cases hp : p = o
      · subst hp
        rw [if_pos rfl, if_pos (by omega)]
        simp
      · rw [if_neg hp, if_neg (by omega)]

/-! ### The writes of the apply pass -/

theorem cellsWf_foldl_writeCell {α : Type} (at_ : α → Nat) (val : Memory → α → Cell) (l : List α) :
    ∀ m : Memory, (∀ a ∈ l, at_ a < 8192) → m.cellsWf = true →
      (l.foldl (fun m a => writeCell m (at_ a) (val m a)) m).cellsWf = true := by
  induction l with
  | nil => intro m _ h; exact h
  | cons a t ih =>
    intro m ha h
    exact ih _ (fun b hb => ha b (List.mem_cons_of_mem _ hb)) (cellsWf_writeCell _ _ _ (ha a (by simp)) h)

/-- R126: a cell of the grid lies in the extent. -/
theorem gridCell_lt (e : Extent) (pitch row col : Nat) (hr : row < gridRows e pitch) (hc : col < pitch) :
    gridCell e pitch row col < 16 * (e.base + e.size) := by
  have h1 : (row + 1) * pitch ≤ gridRows e pitch * pitch := Nat.mul_le_mul_right _ hr
  have h2 : gridRows e pitch * pitch ≤ 16 * e.size := Nat.div_mul_le_self _ _
  have h3 : (row + 1) * pitch = row * pitch + pitch := Nat.succ_mul _ _
  unfold gridCell
  omega

theorem mem_rectangle (n m : Nat) (p : Nat × Nat) (h : p ∈ rectangle n m) : p.1 < n ∧ p.2 < m := by
  simp only [rectangle, List.mem_flatMap, List.mem_range, List.mem_map] at h
  obtain ⟨i, hi, j, hj, rfl⟩ := h
  exact ⟨hi, hj⟩

theorem fillCells_lt (e : Extent) (pitch : Nat) (a : FillArgs) (o : Nat) (h : o ∈ fillCells e pitch a) : o < 16 * (e.base + e.size) := by
  simp only [fillCells, List.mem_map] at h
  obtain ⟨p, hp, rfl⟩ := h
  obtain ⟨h1, h2⟩ := mem_rectangle _ _ _ hp
  exact gridCell_lt _ _ _ _ (by omega) (by omega)

theorem copyPairs_lt (e : Extent) (pitch : Nat) (a : CopyArgs) (q : Nat × Nat) (h : q ∈ copyPairs e pitch a) :
    q.1 < 16 * (e.base + e.size) ∧ q.2 < 16 * (e.base + e.size) := by
  simp only [copyPairs, List.mem_map] at h
  obtain ⟨p, hp, rfl⟩ := h
  obtain ⟨h1, h2⟩ := mem_rectangle _ _ _ hp
  exact ⟨gridCell_lt _ _ _ _ (by omega) (by omega), gridCell_lt _ _ _ _ (by omega) (by omega)⟩

theorem inStore_le (e : Extent) (h : e.inStore = true) : 16 * (e.base + e.size) ≤ 8192 := by
  have : e.base + e.size ≤ 512 := of_decide_eq_true h
  omega

/-- R127 keeps the canonical form. -/
theorem cellsWf_clearExtent (m : Memory) (e : Extent) (h : m.cellsWf = true) : (clearExtent m e).cellsWf = true :=
  Memory.wf_clearRange _ _ _ _ _ h

/-- R129 keeps the canonical form. -/
theorem cellsWf_putInto (m : Memory) (e : Extent) (a : PutCellsArgs) (he : e.inStore = true) (h : m.cellsWf = true) :
    (putInto m e a).cellsWf = true := by
  have h1 := inStore_le e he
  by_cases hz : 16 * e.size ≤ a.offset.toNat
  · have : 16 * e.size - a.offset.toNat = 0 := by omega
    simpa [putInto, this, writeCells] using h
  · refine cellsWf_writeCells _ _ _ ?_ h
    rw [List.length_take]
    omega

/-- R131, R132 keep the canonical form. -/
theorem cellsWf_fillInto (m : Memory) (e : Extent) (pitch : Nat) (a : FillArgs) (he : e.inStore = true) (h : m.cellsWf = true) :
    (fillInto m e pitch a).cellsWf = true :=
  cellsWf_foldl_writeCell (fun o => o) (fun m o => fillCell a (readCell m o)) _ m
    (fun o ho => Nat.lt_of_lt_of_le (fillCells_lt e pitch a o ho) (inStore_le e he)) h

/-- R134 keeps the canonical form. -/
theorem cellsWf_copyInto (m : Memory) (e : Extent) (pitch : Nat) (a : CopyArgs) (he : e.inStore = true) (h : m.cellsWf = true) :
    (copyInto m e pitch a).cellsWf = true := by
  refine cellsWf_foldl_writeCell (fun p : Nat × Cell => p.1) (fun _ p => p.2) _ m ?_ h
  intro p hp
  simp only [List.mem_map] at hp
  obtain ⟨q, hq, rfl⟩ := hp
  exact Nat.lt_of_lt_of_le (copyPairs_lt e pitch a q hq).2 (inStore_le e he)

/-- The Cell Store and font B stand in canonical form after reset. -/
theorem memory_reset : State.reset.store.cells.cellsWf = true ∧ State.reset.raster.fontB.fontWf = true := by decide

end Sys2Proof.Machine
end

