-- ==== Sys2Proof/Laws/State.lean ====
section
/-! SUPPORT. The lemmas of the record updates: one per field that an update leaves alone, and the fields it sets. -/

namespace Sys2Proof.Machine

@[simp] theorem State.revote_stationId (s : State) : (s.revote).stationId = s.stationId := rfl
@[simp] theorem State.revote_link (s : State) : (s.revote).link = s.link := rfl
@[simp] theorem State.revote_tx (s : State) : (s.revote).tx = s.tx := rfl
@[simp] theorem State.revote_ep (s : State) : (s.revote).ep = s.ep := rfl
@[simp] theorem State.revote_mb (s : State) : (s.revote).mb = s.mb := rfl
@[simp] theorem State.revote_panes (s : State) : (s.revote).panes = s.panes := rfl
@[simp] theorem State.revote_store (s : State) : (s.revote).store = s.store := rfl
@[simp] theorem State.revote_palettes (s : State) : (s.revote).palettes = s.palettes := rfl
@[simp] theorem State.revote_raster (s : State) : (s.revote).raster = s.raster := rfl
@[simp] theorem State.revote_host (s : State) : (s.revote).host = s.host := rfl
@[simp] theorem State.revote_freeCount (s : State) : (s.revote).freeCount = s.freeCount := rfl
@[simp] theorem State.revote_pending (s : State) : (s.revote).pending = s.pending := rfl
@[simp] theorem State.revote_tlvLow (s : State) : s.revote.pins.tlvLow = s.voteLow := rfl
@[simp] theorem State.revote_irqnLow (s : State) : s.revote.pins.irqnLow = s.pins.irqnLow := rfl
@[simp] theorem State.revote_tlfLow (s : State) : s.revote.pins.tlfLow = s.pins.tlfLow := rfl

@[simp] theorem State.reirq_stationId (s : State) : (s.reirq).stationId = s.stationId := rfl
@[simp] theorem State.reirq_link (s : State) : (s.reirq).link = s.link := rfl
@[simp] theorem State.reirq_tx (s : State) : (s.reirq).tx = s.tx := rfl
@[simp] theorem State.reirq_ep (s : State) : (s.reirq).ep = s.ep := rfl
@[simp] theorem State.reirq_mb (s : State) : (s.reirq).mb = s.mb := rfl
@[simp] theorem State.reirq_panes (s : State) : (s.reirq).panes = s.panes := rfl
@[simp] theorem State.reirq_store (s : State) : (s.reirq).store = s.store := rfl
@[simp] theorem State.reirq_palettes (s : State) : (s.reirq).palettes = s.palettes := rfl
@[simp] theorem State.reirq_raster (s : State) : (s.reirq).raster = s.raster := rfl
@[simp] theorem State.reirq_host (s : State) : (s.reirq).host = s.host := rfl
@[simp] theorem State.reirq_freeCount (s : State) : (s.reirq).freeCount = s.freeCount := rfl
@[simp] theorem State.reirq_pending (s : State) : (s.reirq).pending = s.pending := rfl
@[simp] theorem State.reirq_irqnLow (s : State) : s.reirq.pins.irqnLow = s.irqWanted := rfl
@[simp] theorem State.reirq_tlvLow (s : State) : s.reirq.pins.tlvLow = s.pins.tlvLow := rfl
@[simp] theorem State.reirq_tlfLow (s : State) : s.reirq.pins.tlfLow = s.pins.tlfLow := rfl

@[simp] theorem State.setPane_stationId (s : State) (i : Fin 32) (p : Pane) : (s.setPane i p).stationId = s.stationId := rfl
@[simp] theorem State.setPane_pins (s : State) (i : Fin 32) (p : Pane) : (s.setPane i p).pins = s.pins := rfl
@[simp] theorem State.setPane_link (s : State) (i : Fin 32) (p : Pane) : (s.setPane i p).link = s.link := rfl
@[simp] theorem State.setPane_tx (s : State) (i : Fin 32) (p : Pane) : (s.setPane i p).tx = s.tx := rfl
@[simp] theorem State.setPane_ep (s : State) (i : Fin 32) (p : Pane) : (s.setPane i p).ep = s.ep := rfl
@[simp] theorem State.setPane_mb (s : State) (i : Fin 32) (p : Pane) : (s.setPane i p).mb = s.mb := rfl
@[simp] theorem State.setPane_store (s : State) (i : Fin 32) (p : Pane) : (s.setPane i p).store = s.store := rfl
@[simp] theorem State.setPane_palettes (s : State) (i : Fin 32) (p : Pane) : (s.setPane i p).palettes = s.palettes := rfl
@[simp] theorem State.setPane_raster (s : State) (i : Fin 32) (p : Pane) : (s.setPane i p).raster = s.raster := rfl
@[simp] theorem State.setPane_host (s : State) (i : Fin 32) (p : Pane) : (s.setPane i p).host = s.host := rfl
@[simp] theorem State.setPane_freeCount (s : State) (i : Fin 32) (p : Pane) : (s.setPane i p).freeCount = s.freeCount := rfl
@[simp] theorem State.setPane_pending (s : State) (i : Fin 32) (p : Pane) : (s.setPane i p).pending = s.pending := rfl

@[simp] theorem State.enqueue_stationId (s : State) (r : Request) : (s.enqueue r).stationId = s.stationId := rfl
@[simp] theorem State.enqueue_pins (s : State) (r : Request) : (s.enqueue r).pins = s.pins := rfl
@[simp] theorem State.enqueue_link (s : State) (r : Request) : (s.enqueue r).link = s.link := rfl
@[simp] theorem State.enqueue_ep (s : State) (r : Request) : (s.enqueue r).ep = s.ep := rfl
@[simp] theorem State.enqueue_mb (s : State) (r : Request) : (s.enqueue r).mb = s.mb := rfl
@[simp] theorem State.enqueue_panes (s : State) (r : Request) : (s.enqueue r).panes = s.panes := rfl
@[simp] theorem State.enqueue_store (s : State) (r : Request) : (s.enqueue r).store = s.store := rfl
@[simp] theorem State.enqueue_palettes (s : State) (r : Request) : (s.enqueue r).palettes = s.palettes := rfl
@[simp] theorem State.enqueue_raster (s : State) (r : Request) : (s.enqueue r).raster = s.raster := rfl
@[simp] theorem State.enqueue_host (s : State) (r : Request) : (s.enqueue r).host = s.host := rfl
@[simp] theorem State.enqueue_freeCount (s : State) (r : Request) : (s.enqueue r).freeCount = s.freeCount := rfl
@[simp] theorem State.enqueue_pending (s : State) (r : Request) : (s.enqueue r).pending = s.pending := rfl
@[simp] theorem State.enqueue_queue (s : State) (r : Request) : (s.enqueue r).tx.queue = s.tx.queue ++ [⟨r, 0⟩] := rfl

@[simp] theorem State.tidyBatches_stationId (s : State) : (s.tidyBatches).stationId = s.stationId := rfl
@[simp] theorem State.tidyBatches_pins (s : State) : (s.tidyBatches).pins = s.pins := rfl
@[simp] theorem State.tidyBatches_link (s : State) : (s.tidyBatches).link = s.link := rfl
@[simp] theorem State.tidyBatches_ep (s : State) : (s.tidyBatches).ep = s.ep := rfl
@[simp] theorem State.tidyBatches_mb (s : State) : (s.tidyBatches).mb = s.mb := rfl
@[simp] theorem State.tidyBatches_panes (s : State) : (s.tidyBatches).panes = s.panes := rfl
@[simp] theorem State.tidyBatches_store (s : State) : (s.tidyBatches).store = s.store := rfl
@[simp] theorem State.tidyBatches_palettes (s : State) : (s.tidyBatches).palettes = s.palettes := rfl
@[simp] theorem State.tidyBatches_raster (s : State) : (s.tidyBatches).raster = s.raster := rfl
@[simp] theorem State.tidyBatches_host (s : State) : (s.tidyBatches).host = s.host := rfl
@[simp] theorem State.tidyBatches_freeCount (s : State) : (s.tidyBatches).freeCount = s.freeCount := rfl
@[simp] theorem State.tidyBatches_pending (s : State) : (s.tidyBatches).pending = s.pending := rfl

@[simp] theorem State.dropRecord_stationId (s : State) (g : Byte) : (s.dropRecord g).stationId = s.stationId := rfl
@[simp] theorem State.dropRecord_pins (s : State) (g : Byte) : (s.dropRecord g).pins = s.pins := rfl
@[simp] theorem State.dropRecord_link (s : State) (g : Byte) : (s.dropRecord g).link = s.link := rfl
@[simp] theorem State.dropRecord_ep (s : State) (g : Byte) : (s.dropRecord g).ep = s.ep := rfl
@[simp] theorem State.dropRecord_mb (s : State) (g : Byte) : (s.dropRecord g).mb = s.mb := rfl
@[simp] theorem State.dropRecord_panes (s : State) (g : Byte) : (s.dropRecord g).panes = s.panes := rfl
@[simp] theorem State.dropRecord_store (s : State) (g : Byte) : (s.dropRecord g).store = s.store := rfl
@[simp] theorem State.dropRecord_palettes (s : State) (g : Byte) : (s.dropRecord g).palettes = s.palettes := rfl
@[simp] theorem State.dropRecord_raster (s : State) (g : Byte) : (s.dropRecord g).raster = s.raster := rfl
@[simp] theorem State.dropRecord_host (s : State) (g : Byte) : (s.dropRecord g).host = s.host := rfl
@[simp] theorem State.dropRecord_freeCount (s : State) (g : Byte) : (s.dropRecord g).freeCount = s.freeCount := rfl
@[simp] theorem State.dropRecord_pending (s : State) (g : Byte) : (s.dropRecord g).pending = s.pending := rfl

@[simp] theorem State.changeRecord_stationId (s : State) (g : Byte) (f : BatchRecord → BatchRecord) : (s.changeRecord g f).stationId = s.stationId := rfl
@[simp] theorem State.changeRecord_pins (s : State) (g : Byte) (f : BatchRecord → BatchRecord) : (s.changeRecord g f).pins = s.pins := rfl
@[simp] theorem State.changeRecord_link (s : State) (g : Byte) (f : BatchRecord → BatchRecord) : (s.changeRecord g f).link = s.link := rfl
@[simp] theorem State.changeRecord_ep (s : State) (g : Byte) (f : BatchRecord → BatchRecord) : (s.changeRecord g f).ep = s.ep := rfl
@[simp] theorem State.changeRecord_mb (s : State) (g : Byte) (f : BatchRecord → BatchRecord) : (s.changeRecord g f).mb = s.mb := rfl
@[simp] theorem State.changeRecord_panes (s : State) (g : Byte) (f : BatchRecord → BatchRecord) : (s.changeRecord g f).panes = s.panes := rfl
@[simp] theorem State.changeRecord_store (s : State) (g : Byte) (f : BatchRecord → BatchRecord) : (s.changeRecord g f).store = s.store := rfl
@[simp] theorem State.changeRecord_palettes (s : State) (g : Byte) (f : BatchRecord → BatchRecord) : (s.changeRecord g f).palettes = s.palettes := rfl
@[simp] theorem State.changeRecord_raster (s : State) (g : Byte) (f : BatchRecord → BatchRecord) : (s.changeRecord g f).raster = s.raster := rfl
@[simp] theorem State.changeRecord_host (s : State) (g : Byte) (f : BatchRecord → BatchRecord) : (s.changeRecord g f).host = s.host := rfl
@[simp] theorem State.changeRecord_freeCount (s : State) (g : Byte) (f : BatchRecord → BatchRecord) : (s.changeRecord g f).freeCount = s.freeCount := rfl
@[simp] theorem State.changeRecord_pending (s : State) (g : Byte) (f : BatchRecord → BatchRecord) : (s.changeRecord g f).pending = s.pending := rfl

@[simp] theorem State.raiseRetract_stationId (s : State) (g : Byte) : (s.raiseRetract g).stationId = s.stationId := rfl
@[simp] theorem State.raiseRetract_pins (s : State) (g : Byte) : (s.raiseRetract g).pins = s.pins := rfl
@[simp] theorem State.raiseRetract_link (s : State) (g : Byte) : (s.raiseRetract g).link = s.link := rfl
@[simp] theorem State.raiseRetract_ep (s : State) (g : Byte) : (s.raiseRetract g).ep = s.ep := rfl
@[simp] theorem State.raiseRetract_mb (s : State) (g : Byte) : (s.raiseRetract g).mb = s.mb := rfl
@[simp] theorem State.raiseRetract_panes (s : State) (g : Byte) : (s.raiseRetract g).panes = s.panes := rfl
@[simp] theorem State.raiseRetract_store (s : State) (g : Byte) : (s.raiseRetract g).store = s.store := rfl
@[simp] theorem State.raiseRetract_palettes (s : State) (g : Byte) : (s.raiseRetract g).palettes = s.palettes := rfl
@[simp] theorem State.raiseRetract_raster (s : State) (g : Byte) : (s.raiseRetract g).raster = s.raster := rfl
@[simp] theorem State.raiseRetract_host (s : State) (g : Byte) : (s.raiseRetract g).host = s.host := rfl
@[simp] theorem State.raiseRetract_freeCount (s : State) (g : Byte) : (s.raiseRetract g).freeCount = s.freeCount := rfl
@[simp] theorem State.raiseRetract_pending (s : State) (g : Byte) : (s.raiseRetract g).pending = s.pending := rfl

@[simp] theorem State.releaseLink_stationId (s : State) : (s.releaseLink).stationId = s.stationId := rfl
@[simp] theorem State.releaseLink_link (s : State) : (s.releaseLink).link = s.link := rfl
@[simp] theorem State.releaseLink_tx (s : State) : (s.releaseLink).tx = s.tx := rfl
@[simp] theorem State.releaseLink_ep (s : State) : (s.releaseLink).ep = s.ep := rfl
@[simp] theorem State.releaseLink_mb (s : State) : (s.releaseLink).mb = s.mb := rfl
@[simp] theorem State.releaseLink_panes (s : State) : (s.releaseLink).panes = s.panes := rfl
@[simp] theorem State.releaseLink_store (s : State) : (s.releaseLink).store = s.store := rfl
@[simp] theorem State.releaseLink_palettes (s : State) : (s.releaseLink).palettes = s.palettes := rfl
@[simp] theorem State.releaseLink_raster (s : State) : (s.releaseLink).raster = s.raster := rfl
@[simp] theorem State.releaseLink_host (s : State) : (s.releaseLink).host = s.host := rfl
@[simp] theorem State.releaseLink_freeCount (s : State) : (s.releaseLink).freeCount = s.freeCount := rfl
@[simp] theorem State.releaseLink_pending (s : State) : (s.releaseLink).pending = s.pending := rfl
@[simp] theorem State.releaseLink_tldLow (s : State) : s.releaseLink.pins.tldLow = false := rfl
@[simp] theorem State.releaseLink_tlcLow (s : State) : s.releaseLink.pins.tlcLow = false := rfl

@[simp] theorem State.endAttempt_stationId (s : State) : (s.endAttempt).stationId = s.stationId := rfl
@[simp] theorem State.endAttempt_pins (s : State) : (s.endAttempt).pins = s.pins := rfl
@[simp] theorem State.endAttempt_link (s : State) : (s.endAttempt).link = s.link := rfl
@[simp] theorem State.endAttempt_ep (s : State) : (s.endAttempt).ep = s.ep := rfl
@[simp] theorem State.endAttempt_mb (s : State) : (s.endAttempt).mb = s.mb := rfl
@[simp] theorem State.endAttempt_panes (s : State) : (s.endAttempt).panes = s.panes := rfl
@[simp] theorem State.endAttempt_store (s : State) : (s.endAttempt).store = s.store := rfl
@[simp] theorem State.endAttempt_palettes (s : State) : (s.endAttempt).palettes = s.palettes := rfl
@[simp] theorem State.endAttempt_raster (s : State) : (s.endAttempt).raster = s.raster := rfl
@[simp] theorem State.endAttempt_host (s : State) : (s.endAttempt).host = s.host := rfl
@[simp] theorem State.endAttempt_freeCount (s : State) : (s.endAttempt).freeCount = s.freeCount := rfl
@[simp] theorem State.endAttempt_pending (s : State) : (s.endAttempt).pending = s.pending := rfl

@[simp] theorem State.clearShared_stationId (s : State) : (s.clearShared).stationId = s.stationId := rfl
@[simp] theorem State.clearShared_pins (s : State) : (s.clearShared).pins = s.pins := rfl
@[simp] theorem State.clearShared_link (s : State) : (s.clearShared).link = s.link := rfl
@[simp] theorem State.clearShared_tx (s : State) : (s.clearShared).tx = s.tx := rfl
@[simp] theorem State.clearShared_mb (s : State) : (s.clearShared).mb = s.mb := rfl
@[simp] theorem State.clearShared_raster (s : State) : (s.clearShared).raster = s.raster := rfl
@[simp] theorem State.clearShared_host (s : State) : (s.clearShared).host = s.host := rfl
@[simp] theorem State.clearShared_freeCount (s : State) : (s.clearShared).freeCount = s.freeCount := rfl
@[simp] theorem State.clearShared_pending (s : State) : (s.clearShared).pending = s.pending := rfl
@[simp] theorem State.clearShared_ep (s : State) : s.clearShared.ep = epochsCleared := rfl
@[simp] theorem State.clearShared_panes (s : State) : s.clearShared.panes = panesCleared := rfl
@[simp] theorem State.clearShared_store (s : State) : s.clearShared.store = storeCleared := rfl
@[simp] theorem State.clearShared_palettes (s : State) : s.clearShared.palettes = palettesCleared := rfl

@[simp] theorem State.unlock_stationId (s : State) : (s.unlock).stationId = s.stationId := rfl
@[simp] theorem State.unlock_link (s : State) : (s.unlock).link = s.link := rfl
@[simp] theorem State.unlock_tx (s : State) : (s.unlock).tx = s.tx := rfl
@[simp] theorem State.unlock_ep (s : State) : (s.unlock).ep = s.ep := rfl
@[simp] theorem State.unlock_mb (s : State) : (s.unlock).mb = s.mb := rfl
@[simp] theorem State.unlock_panes (s : State) : (s.unlock).panes = s.panes := rfl
@[simp] theorem State.unlock_store (s : State) : (s.unlock).store = s.store := rfl
@[simp] theorem State.unlock_palettes (s : State) : (s.unlock).palettes = s.palettes := rfl
@[simp] theorem State.unlock_host (s : State) : (s.unlock).host = s.host := rfl
@[simp] theorem State.unlock_freeCount (s : State) : (s.unlock).freeCount = s.freeCount := rfl
@[simp] theorem State.unlock_pending (s : State) : (s.unlock).pending = s.pending := rfl

@[simp] theorem State.enterListening_stationId (s : State) : (s.enterListening).stationId = s.stationId := rfl
@[simp] theorem State.enterListening_pins (s : State) : (s.enterListening).pins = s.pins := rfl
@[simp] theorem State.enterListening_link (s : State) : (s.enterListening).link = s.link := rfl
@[simp] theorem State.enterListening_tx (s : State) : (s.enterListening).tx = s.tx := rfl
@[simp] theorem State.enterListening_ep (s : State) : (s.enterListening).ep = s.ep := rfl
@[simp] theorem State.enterListening_panes (s : State) : (s.enterListening).panes = s.panes := rfl
@[simp] theorem State.enterListening_store (s : State) : (s.enterListening).store = s.store := rfl
@[simp] theorem State.enterListening_palettes (s : State) : (s.enterListening).palettes = s.palettes := rfl
@[simp] theorem State.enterListening_raster (s : State) : (s.enterListening).raster = s.raster := rfl
@[simp] theorem State.enterListening_host (s : State) : (s.enterListening).host = s.host := rfl
@[simp] theorem State.enterListening_freeCount (s : State) : (s.enterListening).freeCount = s.freeCount := rfl
@[simp] theorem State.enterListening_pending (s : State) : (s.enterListening).pending = s.pending := rfl
@[simp] theorem State.enterListening_state (s : State) : s.enterListening.mb.state = .listening := rfl

@[simp] theorem State.enterRequesting_stationId (s : State) : (s.enterRequesting).stationId = s.stationId := rfl
@[simp] theorem State.enterRequesting_pins (s : State) : (s.enterRequesting).pins = s.pins := rfl
@[simp] theorem State.enterRequesting_link (s : State) : (s.enterRequesting).link = s.link := rfl
@[simp] theorem State.enterRequesting_tx (s : State) : (s.enterRequesting).tx = s.tx := rfl
@[simp] theorem State.enterRequesting_ep (s : State) : (s.enterRequesting).ep = s.ep := rfl
@[simp] theorem State.enterRequesting_panes (s : State) : (s.enterRequesting).panes = s.panes := rfl
@[simp] theorem State.enterRequesting_store (s : State) : (s.enterRequesting).store = s.store := rfl
@[simp] theorem State.enterRequesting_palettes (s : State) : (s.enterRequesting).palettes = s.palettes := rfl
@[simp] theorem State.enterRequesting_raster (s : State) : (s.enterRequesting).raster = s.raster := rfl
@[simp] theorem State.enterRequesting_host (s : State) : (s.enterRequesting).host = s.host := rfl
@[simp] theorem State.enterRequesting_freeCount (s : State) : (s.enterRequesting).freeCount = s.freeCount := rfl
@[simp] theorem State.enterRequesting_pending (s : State) : (s.enterRequesting).pending = s.pending := rfl
@[simp] theorem State.enterRequesting_state (s : State) : s.enterRequesting.mb.state = .requesting := rfl

@[simp] theorem State.beginPacket_stationId (s : State) (x : LinkState) : (s.beginPacket x).stationId = s.stationId := rfl
@[simp] theorem State.beginPacket_pins (s : State) (x : LinkState) : (s.beginPacket x).pins = s.pins := rfl
@[simp] theorem State.beginPacket_tx (s : State) (x : LinkState) : (s.beginPacket x).tx = s.tx := rfl
@[simp] theorem State.beginPacket_ep (s : State) (x : LinkState) : (s.beginPacket x).ep = s.ep := rfl
@[simp] theorem State.beginPacket_mb (s : State) (x : LinkState) : (s.beginPacket x).mb = s.mb := rfl
@[simp] theorem State.beginPacket_panes (s : State) (x : LinkState) : (s.beginPacket x).panes = s.panes := rfl
@[simp] theorem State.beginPacket_store (s : State) (x : LinkState) : (s.beginPacket x).store = s.store := rfl
@[simp] theorem State.beginPacket_palettes (s : State) (x : LinkState) : (s.beginPacket x).palettes = s.palettes := rfl
@[simp] theorem State.beginPacket_raster (s : State) (x : LinkState) : (s.beginPacket x).raster = s.raster := rfl
@[simp] theorem State.beginPacket_host (s : State) (x : LinkState) : (s.beginPacket x).host = s.host := rfl
@[simp] theorem State.beginPacket_freeCount (s : State) (x : LinkState) : (s.beginPacket x).freeCount = s.freeCount := rfl
@[simp] theorem State.beginPacket_pending (s : State) (x : LinkState) : (s.beginPacket x).pending = s.pending := rfl

@[simp] theorem State.purge_stationId (s : State) : (s.purge).stationId = s.stationId := rfl
@[simp] theorem State.purge_pins (s : State) : (s.purge).pins = s.pins := rfl
@[simp] theorem State.purge_link (s : State) : (s.purge).link = s.link := rfl
@[simp] theorem State.purge_ep (s : State) : (s.purge).ep = s.ep := rfl
@[simp] theorem State.purge_mb (s : State) : (s.purge).mb = s.mb := rfl
@[simp] theorem State.purge_panes (s : State) : (s.purge).panes = s.panes := rfl
@[simp] theorem State.purge_store (s : State) : (s.purge).store = s.store := rfl
@[simp] theorem State.purge_palettes (s : State) : (s.purge).palettes = s.palettes := rfl
@[simp] theorem State.purge_raster (s : State) : (s.purge).raster = s.raster := rfl
@[simp] theorem State.purge_host (s : State) : (s.purge).host = s.host := rfl
@[simp] theorem State.purge_freeCount (s : State) : (s.purge).freeCount = s.freeCount := rfl
@[simp] theorem State.purge_pending (s : State) : (s.purge).pending = s.pending := rfl
@[simp] theorem State.purge_queue (s : State) : s.purge.tx.queue = [] := rfl
@[simp] theorem State.purge_batches (s : State) : s.purge.tx.batches = [] := rfl

@[simp] theorem State.stage_stationId (s : State) (c : EpochClass) (i : StationId) (g : Option Byte) (o : EntryOp) : (s.stage c i g o).stationId = s.stationId := rfl
@[simp] theorem State.stage_pins (s : State) (c : EpochClass) (i : StationId) (g : Option Byte) (o : EntryOp) : (s.stage c i g o).pins = s.pins := rfl
@[simp] theorem State.stage_link (s : State) (c : EpochClass) (i : StationId) (g : Option Byte) (o : EntryOp) : (s.stage c i g o).link = s.link := rfl
@[simp] theorem State.stage_tx (s : State) (c : EpochClass) (i : StationId) (g : Option Byte) (o : EntryOp) : (s.stage c i g o).tx = s.tx := rfl
@[simp] theorem State.stage_mb (s : State) (c : EpochClass) (i : StationId) (g : Option Byte) (o : EntryOp) : (s.stage c i g o).mb = s.mb := rfl
@[simp] theorem State.stage_panes (s : State) (c : EpochClass) (i : StationId) (g : Option Byte) (o : EntryOp) : (s.stage c i g o).panes = s.panes := rfl
@[simp] theorem State.stage_store (s : State) (c : EpochClass) (i : StationId) (g : Option Byte) (o : EntryOp) : (s.stage c i g o).store = s.store := rfl
@[simp] theorem State.stage_palettes (s : State) (c : EpochClass) (i : StationId) (g : Option Byte) (o : EntryOp) : (s.stage c i g o).palettes = s.palettes := rfl
@[simp] theorem State.stage_raster (s : State) (c : EpochClass) (i : StationId) (g : Option Byte) (o : EntryOp) : (s.stage c i g o).raster = s.raster := rfl
@[simp] theorem State.stage_host (s : State) (c : EpochClass) (i : StationId) (g : Option Byte) (o : EntryOp) : (s.stage c i g o).host = s.host := rfl
@[simp] theorem State.stage_freeCount (s : State) (c : EpochClass) (i : StationId) (g : Option Byte) (o : EntryOp) : (s.stage c i g o).freeCount = s.freeCount := rfl
@[simp] theorem State.stage_pending (s : State) (c : EpochClass) (i : StationId) (g : Option Byte) (o : EntryOp) : (s.stage c i g o).pending = s.pending := rfl
@[simp] theorem State.stage_staging (s : State) (c : EpochClass) (i : StationId) (g : Option Byte) (o : EntryOp) :
    (s.stage c i g o).ep.staging = s.ep.staging ++ [⟨c, i, g, o⟩] := rfl

@[simp] theorem State.endTransfer_stationId (s : State) : (s.endTransfer).stationId = s.stationId := rfl
@[simp] theorem State.endTransfer_pins (s : State) : (s.endTransfer).pins = s.pins := rfl
@[simp] theorem State.endTransfer_link (s : State) : (s.endTransfer).link = s.link := rfl
@[simp] theorem State.endTransfer_tx (s : State) : (s.endTransfer).tx = s.tx := rfl
@[simp] theorem State.endTransfer_ep (s : State) : (s.endTransfer).ep = s.ep := rfl
@[simp] theorem State.endTransfer_panes (s : State) : (s.endTransfer).panes = s.panes := rfl
@[simp] theorem State.endTransfer_store (s : State) : (s.endTransfer).store = s.store := rfl
@[simp] theorem State.endTransfer_palettes (s : State) : (s.endTransfer).palettes = s.palettes := rfl
@[simp] theorem State.endTransfer_raster (s : State) : (s.endTransfer).raster = s.raster := rfl
@[simp] theorem State.endTransfer_host (s : State) : (s.endTransfer).host = s.host := rfl
@[simp] theorem State.endTransfer_freeCount (s : State) : (s.endTransfer).freeCount = s.freeCount := rfl
@[simp] theorem State.endTransfer_pending (s : State) : (s.endTransfer).pending = s.pending := rfl
@[simp] theorem State.endTransfer_transfer (s : State) : s.endTransfer.mb.transfer = none := rfl
@[simp] theorem State.endTransfer_joinQueue (s : State) : s.endTransfer.mb.joinQueue = s.mb.joinQueue.tail := rfl
@[simp] theorem State.endTransfer_roster (s : State) : s.endTransfer.mb.roster = s.mb.roster := rfl

@[simp] theorem State.assemblyFault_stationId (s : State) : (s.assemblyFault).stationId = s.stationId := rfl
@[simp] theorem State.assemblyFault_pins (s : State) : (s.assemblyFault).pins = s.pins := rfl
@[simp] theorem State.assemblyFault_link (s : State) : (s.assemblyFault).link = s.link := rfl
@[simp] theorem State.assemblyFault_tx (s : State) : (s.assemblyFault).tx = s.tx := rfl
@[simp] theorem State.assemblyFault_ep (s : State) : (s.assemblyFault).ep = s.ep := rfl
@[simp] theorem State.assemblyFault_panes (s : State) : (s.assemblyFault).panes = s.panes := rfl
@[simp] theorem State.assemblyFault_store (s : State) : (s.assemblyFault).store = s.store := rfl
@[simp] theorem State.assemblyFault_palettes (s : State) : (s.assemblyFault).palettes = s.palettes := rfl
@[simp] theorem State.assemblyFault_raster (s : State) : (s.assemblyFault).raster = s.raster := rfl
@[simp] theorem State.assemblyFault_host (s : State) : (s.assemblyFault).host = s.host := rfl
@[simp] theorem State.assemblyFault_freeCount (s : State) : (s.assemblyFault).freeCount = s.freeCount := rfl
@[simp] theorem State.assemblyFault_pending (s : State) : (s.assemblyFault).pending = s.pending := rfl

@[simp] theorem State.countPacket_stationId (s : State) : (s.countPacket).stationId = s.stationId := rfl
@[simp] theorem State.countPacket_pins (s : State) : (s.countPacket).pins = s.pins := rfl
@[simp] theorem State.countPacket_link (s : State) : (s.countPacket).link = s.link := rfl
@[simp] theorem State.countPacket_tx (s : State) : (s.countPacket).tx = s.tx := rfl
@[simp] theorem State.countPacket_ep (s : State) : (s.countPacket).ep = s.ep := rfl
@[simp] theorem State.countPacket_panes (s : State) : (s.countPacket).panes = s.panes := rfl
@[simp] theorem State.countPacket_store (s : State) : (s.countPacket).store = s.store := rfl
@[simp] theorem State.countPacket_palettes (s : State) : (s.countPacket).palettes = s.palettes := rfl
@[simp] theorem State.countPacket_raster (s : State) : (s.countPacket).raster = s.raster := rfl
@[simp] theorem State.countPacket_host (s : State) : (s.countPacket).host = s.host := rfl
@[simp] theorem State.countPacket_freeCount (s : State) : (s.countPacket).freeCount = s.freeCount := rfl
@[simp] theorem State.countPacket_pending (s : State) : (s.countPacket).pending = s.pending := rfl

@[simp] theorem State.advancePass_stationId (s : State) : (s.advancePass).stationId = s.stationId := rfl
@[simp] theorem State.advancePass_pins (s : State) : (s.advancePass).pins = s.pins := rfl
@[simp] theorem State.advancePass_link (s : State) : (s.advancePass).link = s.link := rfl
@[simp] theorem State.advancePass_tx (s : State) : (s.advancePass).tx = s.tx := rfl
@[simp] theorem State.advancePass_mb (s : State) : (s.advancePass).mb = s.mb := rfl
@[simp] theorem State.advancePass_panes (s : State) : (s.advancePass).panes = s.panes := rfl
@[simp] theorem State.advancePass_store (s : State) : (s.advancePass).store = s.store := rfl
@[simp] theorem State.advancePass_palettes (s : State) : (s.advancePass).palettes = s.palettes := rfl
@[simp] theorem State.advancePass_raster (s : State) : (s.advancePass).raster = s.raster := rfl
@[simp] theorem State.advancePass_host (s : State) : (s.advancePass).host = s.host := rfl
@[simp] theorem State.advancePass_freeCount (s : State) : (s.advancePass).freeCount = s.freeCount := rfl
@[simp] theorem State.advancePass_pending (s : State) : (s.advancePass).pending = s.pending := rfl
@[simp] theorem State.advancePass_passDone (s : State) : s.advancePass.ep.passDone = s.ep.passDone + 1 := rfl
@[simp] theorem State.advancePass_staging (s : State) : s.advancePass.ep.staging = s.ep.staging := rfl

@[simp] theorem State.setCells_stationId (s : State) (m : Memory) : (s.setCells m).stationId = s.stationId := rfl
@[simp] theorem State.setCells_pins (s : State) (m : Memory) : (s.setCells m).pins = s.pins := rfl
@[simp] theorem State.setCells_link (s : State) (m : Memory) : (s.setCells m).link = s.link := rfl
@[simp] theorem State.setCells_tx (s : State) (m : Memory) : (s.setCells m).tx = s.tx := rfl
@[simp] theorem State.setCells_ep (s : State) (m : Memory) : (s.setCells m).ep = s.ep := rfl
@[simp] theorem State.setCells_mb (s : State) (m : Memory) : (s.setCells m).mb = s.mb := rfl
@[simp] theorem State.setCells_panes (s : State) (m : Memory) : (s.setCells m).panes = s.panes := rfl
@[simp] theorem State.setCells_palettes (s : State) (m : Memory) : (s.setCells m).palettes = s.palettes := rfl
@[simp] theorem State.setCells_raster (s : State) (m : Memory) : (s.setCells m).raster = s.raster := rfl
@[simp] theorem State.setCells_host (s : State) (m : Memory) : (s.setCells m).host = s.host := rfl
@[simp] theorem State.setCells_freeCount (s : State) (m : Memory) : (s.setCells m).freeCount = s.freeCount := rfl
@[simp] theorem State.setCells_pending (s : State) (m : Memory) : (s.setCells m).pending = s.pending := rfl
@[simp] theorem State.setCells_cells (s : State) (m : Memory) : (s.setCells m).store.cells = m := rfl
@[simp] theorem State.setCells_freeList (s : State) (m : Memory) : (s.setCells m).store.freeList = s.store.freeList := rfl

@[simp] theorem State.enterPhase_stationId (s : State) (p : Phase) : (s.enterPhase p).stationId = s.stationId := rfl
@[simp] theorem State.enterPhase_pins (s : State) (p : Phase) : (s.enterPhase p).pins = s.pins := rfl
@[simp] theorem State.enterPhase_link (s : State) (p : Phase) : (s.enterPhase p).link = s.link := rfl
@[simp] theorem State.enterPhase_tx (s : State) (p : Phase) : (s.enterPhase p).tx = s.tx := rfl
@[simp] theorem State.enterPhase_ep (s : State) (p : Phase) : (s.enterPhase p).ep = s.ep := rfl
@[simp] theorem State.enterPhase_mb (s : State) (p : Phase) : (s.enterPhase p).mb = s.mb := rfl
@[simp] theorem State.enterPhase_panes (s : State) (p : Phase) : (s.enterPhase p).panes = s.panes := rfl
@[simp] theorem State.enterPhase_store (s : State) (p : Phase) : (s.enterPhase p).store = s.store := rfl
@[simp] theorem State.enterPhase_palettes (s : State) (p : Phase) : (s.enterPhase p).palettes = s.palettes := rfl
@[simp] theorem State.enterPhase_host (s : State) (p : Phase) : (s.enterPhase p).host = s.host := rfl
@[simp] theorem State.enterPhase_freeCount (s : State) (p : Phase) : (s.enterPhase p).freeCount = s.freeCount := rfl
@[simp] theorem State.enterPhase_pending (s : State) (p : Phase) : (s.enterPhase p).pending = s.pending := rfl
@[simp] theorem State.enterPhase_phase (s : State) (p : Phase) : (s.enterPhase p).raster.phase = some p := rfl

@[simp] theorem State.noteRise_stationId (s : State) : (s.noteRise).stationId = s.stationId := rfl
@[simp] theorem State.noteRise_pins (s : State) : (s.noteRise).pins = s.pins := rfl
@[simp] theorem State.noteRise_link (s : State) : (s.noteRise).link = s.link := rfl
@[simp] theorem State.noteRise_tx (s : State) : (s.noteRise).tx = s.tx := rfl
@[simp] theorem State.noteRise_ep (s : State) : (s.noteRise).ep = s.ep := rfl
@[simp] theorem State.noteRise_mb (s : State) : (s.noteRise).mb = s.mb := rfl
@[simp] theorem State.noteRise_panes (s : State) : (s.noteRise).panes = s.panes := rfl
@[simp] theorem State.noteRise_store (s : State) : (s.noteRise).store = s.store := rfl
@[simp] theorem State.noteRise_palettes (s : State) : (s.noteRise).palettes = s.palettes := rfl
@[simp] theorem State.noteRise_host (s : State) : (s.noteRise).host = s.host := rfl
@[simp] theorem State.noteRise_freeCount (s : State) : (s.noteRise).freeCount = s.freeCount := rfl
@[simp] theorem State.noteRise_pending (s : State) : (s.noteRise).pending = s.pending := rfl

@[simp] theorem State.setHost_stationId (s : State) (h : HostPort) : (s.setHost h).stationId = s.stationId := rfl
@[simp] theorem State.setHost_pins (s : State) (h : HostPort) : (s.setHost h).pins = s.pins := rfl
@[simp] theorem State.setHost_link (s : State) (h : HostPort) : (s.setHost h).link = s.link := rfl
@[simp] theorem State.setHost_tx (s : State) (h : HostPort) : (s.setHost h).tx = s.tx := rfl
@[simp] theorem State.setHost_ep (s : State) (h : HostPort) : (s.setHost h).ep = s.ep := rfl
@[simp] theorem State.setHost_mb (s : State) (h : HostPort) : (s.setHost h).mb = s.mb := rfl
@[simp] theorem State.setHost_panes (s : State) (h : HostPort) : (s.setHost h).panes = s.panes := rfl
@[simp] theorem State.setHost_store (s : State) (h : HostPort) : (s.setHost h).store = s.store := rfl
@[simp] theorem State.setHost_palettes (s : State) (h : HostPort) : (s.setHost h).palettes = s.palettes := rfl
@[simp] theorem State.setHost_raster (s : State) (h : HostPort) : (s.setHost h).raster = s.raster := rfl
@[simp] theorem State.setHost_freeCount (s : State) (h : HostPort) : (s.setHost h).freeCount = s.freeCount := rfl
@[simp] theorem State.setHost_pending (s : State) (h : HostPort) : (s.setHost h).pending = s.pending := rfl
@[simp] theorem State.setHost_host (s : State) (h : HostPort) : (s.setHost h).host = h := rfl

@[simp] theorem State.giveTag_stationId (s : State) (g : BitVec 4) (b : Bool) : (s.giveTag g b).stationId = s.stationId := rfl
@[simp] theorem State.giveTag_pins (s : State) (g : BitVec 4) (b : Bool) : (s.giveTag g b).pins = s.pins := rfl
@[simp] theorem State.giveTag_link (s : State) (g : BitVec 4) (b : Bool) : (s.giveTag g b).link = s.link := rfl
@[simp] theorem State.giveTag_ep (s : State) (g : BitVec 4) (b : Bool) : (s.giveTag g b).ep = s.ep := rfl
@[simp] theorem State.giveTag_mb (s : State) (g : BitVec 4) (b : Bool) : (s.giveTag g b).mb = s.mb := rfl
@[simp] theorem State.giveTag_panes (s : State) (g : BitVec 4) (b : Bool) : (s.giveTag g b).panes = s.panes := rfl
@[simp] theorem State.giveTag_store (s : State) (g : BitVec 4) (b : Bool) : (s.giveTag g b).store = s.store := rfl
@[simp] theorem State.giveTag_palettes (s : State) (g : BitVec 4) (b : Bool) : (s.giveTag g b).palettes = s.palettes := rfl
@[simp] theorem State.giveTag_raster (s : State) (g : BitVec 4) (b : Bool) : (s.giveTag g b).raster = s.raster := rfl
@[simp] theorem State.giveTag_freeCount (s : State) (g : BitVec 4) (b : Bool) : (s.giveTag g b).freeCount = s.freeCount := rfl
@[simp] theorem State.giveTag_pending (s : State) (g : BitVec 4) (b : Bool) : (s.giveTag g b).pending = s.pending := rfl

@[simp] theorem State.pullFrame_stationId (s : State) : (s.pullFrame).stationId = s.stationId := rfl
@[simp] theorem State.pullFrame_link (s : State) : (s.pullFrame).link = s.link := rfl
@[simp] theorem State.pullFrame_tx (s : State) : (s.pullFrame).tx = s.tx := rfl
@[simp] theorem State.pullFrame_ep (s : State) : (s.pullFrame).ep = s.ep := rfl
@[simp] theorem State.pullFrame_mb (s : State) : (s.pullFrame).mb = s.mb := rfl
@[simp] theorem State.pullFrame_panes (s : State) : (s.pullFrame).panes = s.panes := rfl
@[simp] theorem State.pullFrame_store (s : State) : (s.pullFrame).store = s.store := rfl
@[simp] theorem State.pullFrame_palettes (s : State) : (s.pullFrame).palettes = s.palettes := rfl
@[simp] theorem State.pullFrame_host (s : State) : (s.pullFrame).host = s.host := rfl
@[simp] theorem State.pullFrame_freeCount (s : State) : (s.pullFrame).freeCount = s.freeCount := rfl
@[simp] theorem State.pullFrame_pending (s : State) : (s.pullFrame).pending = s.pending := rfl

@[simp] theorem State.dropHead_stationId (s : State) : (s.dropHead).stationId = s.stationId := rfl
@[simp] theorem State.dropHead_pins (s : State) : (s.dropHead).pins = s.pins := rfl
@[simp] theorem State.dropHead_link (s : State) : (s.dropHead).link = s.link := rfl
@[simp] theorem State.dropHead_ep (s : State) : (s.dropHead).ep = s.ep := rfl
@[simp] theorem State.dropHead_mb (s : State) : (s.dropHead).mb = s.mb := rfl
@[simp] theorem State.dropHead_panes (s : State) : (s.dropHead).panes = s.panes := rfl
@[simp] theorem State.dropHead_store (s : State) : (s.dropHead).store = s.store := rfl
@[simp] theorem State.dropHead_palettes (s : State) : (s.dropHead).palettes = s.palettes := rfl
@[simp] theorem State.dropHead_raster (s : State) : (s.dropHead).raster = s.raster := rfl
@[simp] theorem State.dropHead_host (s : State) : (s.dropHead).host = s.host := rfl
@[simp] theorem State.dropHead_freeCount (s : State) : (s.dropHead).freeCount = s.freeCount := rfl
@[simp] theorem State.dropHead_pending (s : State) : (s.dropHead).pending = s.pending := rfl

@[simp] theorem State.commitEpochs_stationId (s : State) : (s.commitEpochs).stationId = s.stationId := rfl
@[simp] theorem State.commitEpochs_pins (s : State) : (s.commitEpochs).pins = s.pins := rfl
@[simp] theorem State.commitEpochs_link (s : State) : (s.commitEpochs).link = s.link := rfl
@[simp] theorem State.commitEpochs_panes (s : State) : (s.commitEpochs).panes = s.panes := rfl
@[simp] theorem State.commitEpochs_store (s : State) : (s.commitEpochs).store = s.store := rfl
@[simp] theorem State.commitEpochs_palettes (s : State) : (s.commitEpochs).palettes = s.palettes := rfl
@[simp] theorem State.commitEpochs_raster (s : State) : (s.commitEpochs).raster = s.raster := rfl
@[simp] theorem State.commitEpochs_host (s : State) : (s.commitEpochs).host = s.host := rfl
@[simp] theorem State.commitEpochs_freeCount (s : State) : (s.commitEpochs).freeCount = s.freeCount := rfl
@[simp] theorem State.commitEpochs_pending (s : State) : (s.commitEpochs).pending = s.pending := rfl

@[simp] theorem State.writePalette_stationId (s : State) (b : Byte) (n : Nat) (cs : List Colour) : (s.writePalette b n cs).stationId = s.stationId := rfl
@[simp] theorem State.writePalette_pins (s : State) (b : Byte) (n : Nat) (cs : List Colour) : (s.writePalette b n cs).pins = s.pins := rfl
@[simp] theorem State.writePalette_link (s : State) (b : Byte) (n : Nat) (cs : List Colour) : (s.writePalette b n cs).link = s.link := rfl
@[simp] theorem State.writePalette_tx (s : State) (b : Byte) (n : Nat) (cs : List Colour) : (s.writePalette b n cs).tx = s.tx := rfl
@[simp] theorem State.writePalette_ep (s : State) (b : Byte) (n : Nat) (cs : List Colour) : (s.writePalette b n cs).ep = s.ep := rfl
@[simp] theorem State.writePalette_mb (s : State) (b : Byte) (n : Nat) (cs : List Colour) : (s.writePalette b n cs).mb = s.mb := rfl
@[simp] theorem State.writePalette_panes (s : State) (b : Byte) (n : Nat) (cs : List Colour) : (s.writePalette b n cs).panes = s.panes := rfl
@[simp] theorem State.writePalette_store (s : State) (b : Byte) (n : Nat) (cs : List Colour) : (s.writePalette b n cs).store = s.store := rfl
@[simp] theorem State.writePalette_raster (s : State) (b : Byte) (n : Nat) (cs : List Colour) : (s.writePalette b n cs).raster = s.raster := rfl
@[simp] theorem State.writePalette_host (s : State) (b : Byte) (n : Nat) (cs : List Colour) : (s.writePalette b n cs).host = s.host := rfl
@[simp] theorem State.writePalette_freeCount (s : State) (b : Byte) (n : Nat) (cs : List Colour) : (s.writePalette b n cs).freeCount = s.freeCount := rfl
@[simp] theorem State.writePalette_pending (s : State) (b : Byte) (n : Nat) (cs : List Colour) : (s.writePalette b n cs).pending = s.pending := rfl

end Sys2Proof.Machine
end

