-- ==== Sys2Proof/Laws/Ops.lean ====
section
/-! SUPPORT. What each shared operation leaves alone, said once per operation: a proof about a command cites these and unfolds none of
them. Each conjunct is a rewriting rule. -/

namespace Sys2Proof.Machine

/-- A fold of updates that each keep a part of the state keeps it. -/
theorem foldl_keeps {α β : Type} (f : State → α → State) (g : State → β) (h : ∀ s a, g (f s a) = g s) (l : List α) (s : State) :
    g (l.foldl f s) = g s := by
  induction l generalizing s with
  | nil => rfl
  | cons a t ih => exact (ih _).trans (h s a)

@[simp] theorem State.postAt_keeps (s : State) (e : Half) (k : EventKind) (a : Byte) (b c : Half) :
    (s.postAt e k a b c).stationId = s.stationId ∧ (s.postAt e k a b c).link = s.link ∧ (s.postAt e k a b c).tx = s.tx ∧
    (s.postAt e k a b c).ep = s.ep ∧ (s.postAt e k a b c).mb = s.mb ∧ (s.postAt e k a b c).panes = s.panes ∧
    (s.postAt e k a b c).store = s.store ∧ (s.postAt e k a b c).palettes = s.palettes ∧
    (s.postAt e k a b c).raster = s.raster ∧ (s.postAt e k a b c).freeCount = s.freeCount ∧
    (s.postAt e k a b c).pending = s.pending := by
  simp only [State.postAt]
  (repeat' split) <;> simp

@[simp] theorem State.post_keeps (s : State) (k : EventKind) (a : Byte) (b c : Half) :
    (s.post k a b c).stationId = s.stationId ∧ (s.post k a b c).link = s.link ∧ (s.post k a b c).tx = s.tx ∧
    (s.post k a b c).ep = s.ep ∧ (s.post k a b c).mb = s.mb ∧ (s.post k a b c).panes = s.panes ∧
    (s.post k a b c).store = s.store ∧ (s.post k a b c).palettes = s.palettes ∧ (s.post k a b c).raster = s.raster ∧
    (s.post k a b c).freeCount = s.freeCount ∧ (s.post k a b c).pending = s.pending := by
  simp [State.post]

@[simp] theorem State.postEach_keeps (s : State) (e : Half) (k : EventKind) (l : List Byte) :
    (s.postEach e k l).stationId = s.stationId ∧ (s.postEach e k l).link = s.link ∧ (s.postEach e k l).tx = s.tx ∧
    (s.postEach e k l).ep = s.ep ∧ (s.postEach e k l).mb = s.mb ∧ (s.postEach e k l).panes = s.panes ∧
    (s.postEach e k l).store = s.store ∧ (s.postEach e k l).palettes = s.palettes ∧ (s.postEach e k l).raster = s.raster ∧
    (s.postEach e k l).freeCount = s.freeCount ∧ (s.postEach e k l).pending = s.pending := by
  exact ⟨foldl_keeps _ State.stationId (fun s a => by simp) l s,
    foldl_keeps _ State.link (fun s a => by simp) l s,
    foldl_keeps _ State.tx (fun s a => by simp) l s,
    foldl_keeps _ State.ep (fun s a => by simp) l s,
    foldl_keeps _ State.mb (fun s a => by simp) l s,
    foldl_keeps _ State.panes (fun s a => by simp) l s,
    foldl_keeps _ State.store (fun s a => by simp) l s,
    foldl_keeps _ State.palettes (fun s a => by simp) l s,
    foldl_keeps _ State.raster (fun s a => by simp) l s,
    foldl_keeps _ State.freeCount (fun s a => by simp) l s,
    foldl_keeps _ State.pending (fun s a => by simp) l s⟩

@[simp] theorem State.setControl_keeps (s : State) (i : Fin 32) (c : Control) :
    (s.setControl i c).stationId = s.stationId ∧ (s.setControl i c).pins = s.pins ∧ (s.setControl i c).link = s.link ∧
    (s.setControl i c).tx = s.tx ∧ (s.setControl i c).ep = s.ep ∧ (s.setControl i c).mb = s.mb ∧
    (s.setControl i c).store = s.store ∧ (s.setControl i c).palettes = s.palettes ∧ (s.setControl i c).raster = s.raster ∧
    (s.setControl i c).host = s.host ∧ (s.setControl i c).freeCount = s.freeCount ∧ (s.setControl i c).pending = s.pending := by
  simp [State.setControl]

@[simp] theorem State.setDisplay_keeps (s : State) (i : Fin 32) (d : Display) :
    (s.setDisplay i d).stationId = s.stationId ∧ (s.setDisplay i d).pins = s.pins ∧ (s.setDisplay i d).link = s.link ∧
    (s.setDisplay i d).tx = s.tx ∧ (s.setDisplay i d).ep = s.ep ∧ (s.setDisplay i d).mb = s.mb ∧
    (s.setDisplay i d).store = s.store ∧ (s.setDisplay i d).palettes = s.palettes ∧ (s.setDisplay i d).raster = s.raster ∧
    (s.setDisplay i d).host = s.host ∧ (s.setDisplay i d).freeCount = s.freeCount ∧ (s.setDisplay i d).pending = s.pending := by
  simp [State.setDisplay]

@[simp] theorem State.removeQueued_keeps (s : State) (p : Queued → Bool) :
    (s.removeQueued p).stationId = s.stationId ∧ (s.removeQueued p).pins = s.pins ∧ (s.removeQueued p).link = s.link ∧
    (s.removeQueued p).ep = s.ep ∧ (s.removeQueued p).mb = s.mb ∧ (s.removeQueued p).panes = s.panes ∧
    (s.removeQueued p).store = s.store ∧ (s.removeQueued p).palettes = s.palettes ∧ (s.removeQueued p).raster = s.raster ∧
    (s.removeQueued p).host = s.host ∧ (s.removeQueued p).freeCount = s.freeCount ∧ (s.removeQueued p).pending = s.pending := by
  simp [State.removeQueued]

@[simp] theorem State.withdrawJoin_keeps (s : State) :
    s.withdrawJoin.stationId = s.stationId ∧ s.withdrawJoin.pins = s.pins ∧ s.withdrawJoin.link = s.link ∧
    s.withdrawJoin.ep = s.ep ∧ s.withdrawJoin.mb = s.mb ∧ s.withdrawJoin.panes = s.panes ∧ s.withdrawJoin.store = s.store ∧
    s.withdrawJoin.palettes = s.palettes ∧ s.withdrawJoin.raster = s.raster ∧ s.withdrawJoin.host = s.host ∧
    s.withdrawJoin.freeCount = s.freeCount ∧ s.withdrawJoin.pending = s.pending := by
  simp [State.withdrawJoin]

@[simp] theorem State.withdrawFound_keeps (s : State) :
    s.withdrawFound.stationId = s.stationId ∧ s.withdrawFound.pins = s.pins ∧ s.withdrawFound.link = s.link ∧
    s.withdrawFound.ep = s.ep ∧ s.withdrawFound.mb = s.mb ∧ s.withdrawFound.panes = s.panes ∧
    s.withdrawFound.store = s.store ∧ s.withdrawFound.palettes = s.palettes ∧ s.withdrawFound.raster = s.raster ∧
    s.withdrawFound.host = s.host ∧ s.withdrawFound.freeCount = s.freeCount ∧ s.withdrawFound.pending = s.pending := by
  simp [State.withdrawFound]

@[simp] theorem State.breakBatch_keeps (s : State) (g : Byte) :
    (s.breakBatch g).stationId = s.stationId ∧ (s.breakBatch g).link = s.link ∧ (s.breakBatch g).ep = s.ep ∧
    (s.breakBatch g).mb = s.mb ∧ (s.breakBatch g).panes = s.panes ∧ (s.breakBatch g).store = s.store ∧
    (s.breakBatch g).palettes = s.palettes ∧ (s.breakBatch g).raster = s.raster ∧ (s.breakBatch g).freeCount = s.freeCount ∧
    (s.breakBatch g).pending = s.pending := by
  simp only [State.breakBatch]
  (repeat' split) <;> simp

@[simp] theorem State.disconnectNow_keeps (s : State) :
    s.disconnectNow.stationId = s.stationId ∧ s.disconnectNow.tx = s.tx ∧ s.disconnectNow.ep = s.ep ∧
    s.disconnectNow.mb = s.mb ∧ s.disconnectNow.panes = s.panes ∧ s.disconnectNow.store = s.store ∧
    s.disconnectNow.palettes = s.palettes ∧ s.disconnectNow.raster = s.raster ∧ s.disconnectNow.host = s.host ∧
    s.disconnectNow.freeCount = s.freeCount ∧ s.disconnectNow.pending = s.pending := by
  simp [State.disconnectNow]

@[simp] theorem State.disconnect_keeps (s : State) :
    s.disconnect.stationId = s.stationId ∧ s.disconnect.tx = s.tx ∧ s.disconnect.ep = s.ep ∧ s.disconnect.mb = s.mb ∧
    s.disconnect.panes = s.panes ∧ s.disconnect.store = s.store ∧ s.disconnect.palettes = s.palettes ∧
    s.disconnect.raster = s.raster ∧ s.disconnect.host = s.host ∧ s.disconnect.freeCount = s.freeCount ∧
    s.disconnect.pending = s.pending := by
  simp only [State.disconnect]
  (repeat' split) <;> simp

@[simp] theorem State.connect_keeps (s : State) (r : Option LinkRate) :
    (s.connect r).stationId = s.stationId ∧ (s.connect r).pins = s.pins ∧ (s.connect r).tx = s.tx ∧
    (s.connect r).ep = s.ep ∧ (s.connect r).mb = s.mb ∧ (s.connect r).panes = s.panes ∧ (s.connect r).store = s.store ∧
    (s.connect r).palettes = s.palettes ∧ (s.connect r).raster = s.raster ∧ (s.connect r).host = s.host ∧
    (s.connect r).freeCount = s.freeCount ∧ (s.connect r).pending = s.pending := by
  simp only [State.connect]
  (repeat' split) <;> simp

@[simp] theorem State.countRefusal_keeps (s : State) :
    s.countRefusal.stationId = s.stationId ∧ s.countRefusal.pins = s.pins ∧ s.countRefusal.link = s.link ∧
    s.countRefusal.ep = s.ep ∧ s.countRefusal.mb = s.mb ∧ s.countRefusal.panes = s.panes ∧ s.countRefusal.store = s.store ∧
    s.countRefusal.palettes = s.palettes ∧ s.countRefusal.raster = s.raster ∧ s.countRefusal.host = s.host ∧
    s.countRefusal.freeCount = s.freeCount ∧ s.countRefusal.pending = s.pending := by
  simp only [State.countRefusal]
  (repeat' split) <;> simp

@[simp] theorem State.reportTaken_keeps (s : State) :
    s.reportTaken.stationId = s.stationId ∧ s.reportTaken.pins = s.pins ∧ s.reportTaken.link = s.link ∧
    s.reportTaken.ep = s.ep ∧ s.reportTaken.panes = s.panes ∧ s.reportTaken.store = s.store ∧
    s.reportTaken.palettes = s.palettes ∧ s.reportTaken.raster = s.raster ∧ s.reportTaken.host = s.host ∧
    s.reportTaken.freeCount = s.freeCount ∧ s.reportTaken.pending = s.pending := by
  simp only [State.reportTaken]
  (repeat' split) <;> simp

@[simp] theorem State.reportRefused_keeps (s : State) :
    s.reportRefused.stationId = s.stationId ∧ s.reportRefused.pins = s.pins ∧ s.reportRefused.link = s.link ∧
    s.reportRefused.ep = s.ep ∧ s.reportRefused.mb = s.mb ∧ s.reportRefused.panes = s.panes ∧
    s.reportRefused.store = s.store ∧ s.reportRefused.palettes = s.palettes ∧ s.reportRefused.raster = s.raster ∧
    s.reportRefused.host = s.host ∧ s.reportRefused.freeCount = s.freeCount ∧ s.reportRefused.pending = s.pending := by
  simp only [State.reportRefused]
  (repeat' split) <;> simp

@[simp] theorem State.endPacket_keeps (s : State) (n : Nat) :
    (s.endPacket n).stationId = s.stationId ∧ (s.endPacket n).ep = s.ep ∧ (s.endPacket n).mb = s.mb ∧
    (s.endPacket n).panes = s.panes ∧ (s.endPacket n).store = s.store ∧ (s.endPacket n).palettes = s.palettes ∧
    (s.endPacket n).raster = s.raster ∧ (s.endPacket n).host = s.host ∧ (s.endPacket n).freeCount = s.freeCount ∧
    (s.endPacket n).pending = s.pending := by
  simp only [State.endPacket]
  (repeat' split) <;> simp

@[simp] theorem State.refused_keeps (s : State) :
    s.refused.stationId = s.stationId ∧ s.refused.ep = s.ep ∧ s.refused.mb = s.mb ∧
    s.refused.panes = s.panes ∧ s.refused.store = s.store ∧ s.refused.palettes = s.palettes ∧ s.refused.raster = s.raster ∧
    s.refused.host = s.host ∧ s.refused.freeCount = s.freeCount ∧ s.refused.pending = s.pending := by
  simp only [State.refused]
  (repeat' split) <;> simp

@[simp] theorem State.evidence_keeps (s : State) (b : Bool) :
    (s.evidence b).stationId = s.stationId ∧ (s.evidence b).pins = s.pins ∧ (s.evidence b).link = s.link ∧
    (s.evidence b).ep = s.ep ∧ (s.evidence b).panes = s.panes ∧ (s.evidence b).store = s.store ∧
    (s.evidence b).palettes = s.palettes ∧ (s.evidence b).raster = s.raster ∧ (s.evidence b).host = s.host ∧
    (s.evidence b).freeCount = s.freeCount ∧ (s.evidence b).pending = s.pending := by
  simp only [State.evidence]
  (repeat' split) <;> simp

@[simp] theorem State.removeSelf_keeps (s : State) (k : EventKind) (a : Byte) (o : Bool) :
    (s.removeSelf k a o).stationId = s.stationId ∧ (s.removeSelf k a o).freeCount = s.freeCount ∧
    (s.removeSelf k a o).pending = s.pending := by
  simp only [State.removeSelf]
  (repeat' split) <;> simp

@[simp] theorem State.removeOther_keeps (s : State) (i : StationId) (k : EventKind) :
    (s.removeOther i k).stationId = s.stationId ∧ (s.removeOther i k).link = s.link ∧ (s.removeOther i k).tx = s.tx ∧
    (s.removeOther i k).store = s.store ∧ (s.removeOther i k).palettes = s.palettes ∧
    (s.removeOther i k).raster = s.raster ∧ (s.removeOther i k).freeCount = s.freeCount ∧
    (s.removeOther i k).pending = s.pending := by
  simp only [State.removeOther]
  (repeat' split) <;> simp

@[simp] theorem State.foreign_keeps (s : State) (i : StationId) (k : Kind) :
    (s.foreign i k).stationId = s.stationId ∧ (s.foreign i k).link = s.link ∧ (s.foreign i k).tx = s.tx ∧
    (s.foreign i k).ep = s.ep ∧ (s.foreign i k).panes = s.panes ∧ (s.foreign i k).store = s.store ∧
    (s.foreign i k).palettes = s.palettes ∧ (s.foreign i k).raster = s.raster ∧ (s.foreign i k).freeCount = s.freeCount ∧
    (s.foreign i k).pending = s.pending := by
  simp only [State.foreign]
  (repeat' split) <;> simp

@[simp] theorem State.voidEvent_keeps (s : State) (i : StationId) (k : EventKind) (r : Reason) (a b : Half) :
    (s.voidEvent i k r a b).stationId = s.stationId ∧ (s.voidEvent i k r a b).link = s.link ∧
    (s.voidEvent i k r a b).tx = s.tx ∧ (s.voidEvent i k r a b).ep = s.ep ∧ (s.voidEvent i k r a b).mb = s.mb ∧
    (s.voidEvent i k r a b).panes = s.panes ∧ (s.voidEvent i k r a b).store = s.store ∧
    (s.voidEvent i k r a b).palettes = s.palettes ∧ (s.voidEvent i k r a b).raster = s.raster ∧
    (s.voidEvent i k r a b).freeCount = s.freeCount ∧ (s.voidEvent i k r a b).pending = s.pending := by
  simp only [State.voidEvent]
  (repeat' split) <;> simp

@[simp] theorem State.foundGroup_keeps (s : State) :
    s.foundGroup.stationId = s.stationId ∧ s.foundGroup.tx = s.tx ∧
    s.foundGroup.raster = s.raster ∧ s.foundGroup.freeCount = s.freeCount ∧ s.foundGroup.pending = s.pending := by
  simp [State.foundGroup]

@[simp] theorem State.ownFound_keeps (s : State) :
    s.ownFound.stationId = s.stationId ∧ s.ownFound.tx = s.tx ∧ s.ownFound.raster = s.raster ∧
    s.ownFound.freeCount = s.freeCount ∧ s.ownFound.pending = s.pending := by
  simp only [State.ownFound]
  (repeat' split) <;> simp

/-- Founding keeps the link but for a rise sampled high inside the FOUND, which it drops (R77). -/
theorem State.foundGroup_link (s : State) :
    s.foundGroup.link = { s.link with riseSample := if s.link.riseSample = some true then none else s.link.riseSample } := by
  simp [State.foundGroup]
  rfl

/-- Opening the hold point drives the link's two lines alone (R13). -/
@[simp] theorem State.holdOpens_keeps (s : State) :
    s.holdOpens.stationId = s.stationId ∧ s.holdOpens.link = s.link ∧ s.holdOpens.tx = s.tx ∧ s.holdOpens.ep = s.ep ∧
    s.holdOpens.mb = s.mb ∧ s.holdOpens.panes = s.panes ∧ s.holdOpens.store = s.store ∧ s.holdOpens.palettes = s.palettes ∧
    s.holdOpens.raster = s.raster ∧ s.holdOpens.host = s.host ∧ s.holdOpens.freeCount = s.freeCount ∧
    s.holdOpens.pending = s.pending :=
  ⟨rfl, rfl, rfl, rfl, rfl, rfl, rfl, rfl, rfl, rfl, rfl, rfl⟩

/-- A decision ready at the hold point: TLD low exactly when it refuses, TLC released (R13, R25). -/
@[simp] theorem State.holdDecided_keeps (s : State) (rx : RxPacket) :
    (s.holdDecided rx).pins = { s.pins with tldLow := (s.admission rx).refuse, tlcLow := false } ∧
    (s.holdDecided rx).stationId = s.stationId ∧ (s.holdDecided rx).tx = s.tx ∧ (s.holdDecided rx).ep = s.ep ∧
    (s.holdDecided rx).mb = s.mb ∧ (s.holdDecided rx).panes = s.panes ∧ (s.holdDecided rx).store = s.store ∧
    (s.holdDecided rx).palettes = s.palettes ∧ (s.holdDecided rx).raster = s.raster ∧ (s.holdDecided rx).host = s.host ∧
    (s.holdDecided rx).freeCount = s.freeCount ∧ (s.holdDecided rx).pending = s.pending :=
  ⟨rfl, rfl, rfl, rfl, rfl, rfl, rfl, rfl, rfl, rfl, rfl, rfl⟩

@[simp] theorem State.ownFoundLost_keeps (s : State) :
    s.ownFoundLost.stationId = s.stationId ∧ s.ownFoundLost.pins = s.pins ∧ s.ownFoundLost.link = s.link ∧
    s.ownFoundLost.tx = s.tx ∧ s.ownFoundLost.ep = s.ep ∧ s.ownFoundLost.panes = s.panes ∧ s.ownFoundLost.store = s.store ∧
    s.ownFoundLost.palettes = s.palettes ∧ s.ownFoundLost.raster = s.raster ∧ s.ownFoundLost.host = s.host ∧
    s.ownFoundLost.freeCount = s.freeCount ∧ s.ownFoundLost.pending = s.pending := by
  simp only [State.ownFoundLost]
  (repeat' split) <;> simp

@[simp] theorem State.hearDenial_keeps (s : State) (p : List Byte) :
    (s.hearDenial p).stationId = s.stationId ∧ (s.hearDenial p).link = s.link ∧ (s.hearDenial p).tx = s.tx ∧
    (s.hearDenial p).ep = s.ep ∧ (s.hearDenial p).panes = s.panes ∧ (s.hearDenial p).store = s.store ∧
    (s.hearDenial p).palettes = s.palettes ∧ (s.hearDenial p).raster = s.raster ∧ (s.hearDenial p).freeCount = s.freeCount ∧
    (s.hearDenial p).pending = s.pending := by
  simp only [State.hearDenial]
  (repeat' split) <;> simp

@[simp] theorem State.hearHead_keeps (s : State) (i : StationId) (p : List Byte) :
    (s.hearHead i p).stationId = s.stationId ∧ (s.hearHead i p).pins = s.pins ∧ (s.hearHead i p).link = s.link ∧
    (s.hearHead i p).panes = s.panes ∧ (s.hearHead i p).store = s.store ∧ (s.hearHead i p).palettes = s.palettes ∧
    (s.hearHead i p).raster = s.raster ∧ (s.hearHead i p).host = s.host ∧ (s.hearHead i p).freeCount = s.freeCount ∧
    (s.hearHead i p).pending = s.pending := by
  simp only [State.hearHead]
  (repeat' split) <;> simp

@[simp] theorem State.observe_keeps (s : State) (k : Kind) (i : StationId) (p : List Byte) :
    (s.observe k i p).stationId = s.stationId ∧ (s.observe k i p).raster = s.raster ∧
    (s.observe k i p).freeCount = s.freeCount ∧ (s.observe k i p).pending = s.pending := by
  simp only [State.observe]
  (repeat' split) <;> simp

/-- Noting a taken update touches the Transmitter's records and RETRACTs alone. -/
@[simp] theorem State.noteTaken_keeps (s : State) (g : Byte) :
    (s.noteTaken g).stationId = s.stationId ∧ (s.noteTaken g).pins = s.pins ∧ (s.noteTaken g).link = s.link ∧
    (s.noteTaken g).ep = s.ep ∧ (s.noteTaken g).mb = s.mb ∧ (s.noteTaken g).panes = s.panes ∧
    (s.noteTaken g).store = s.store ∧ (s.noteTaken g).palettes = s.palettes ∧ (s.noteTaken g).raster = s.raster ∧
    (s.noteTaken g).host = s.host ∧ (s.noteTaken g).freeCount = s.freeCount ∧ (s.noteTaken g).pending = s.pending := by
  simp only [State.noteTaken]
  split <;> simp

/-- R30: an update taken with its batch broken in its attempt leaves a record that is unfinished, and a RETRACT pending. -/
theorem State.noteTaken_dropped (s : State) (g : Byte) (h : s.attemptDropped = true) (hr : ∀ r ∈ s.tx.retracts, r.tag ≠ g) :
    (s.noteTaken g).tx = { s.tx with
      batches := (s.tx.batches.filter fun b => decide (b.tag ≠ g)) ++ [⟨g, true, true, true⟩]
      retracts := s.tx.retracts ++ [⟨g, 0⟩] } := by
  have : (s.tx.retracts.any fun r => decide (r.tag = g)) = false := by simpa using hr
  simp [State.noteTaken, h, this, State.raiseRetract, State.dropRecord]

@[simp] theorem State.deliverUpdate_keeps (s : State) (k : Kind) (i : StationId) (p : List Byte) :
    (s.deliverUpdate k i p).stationId = s.stationId ∧ (s.deliverUpdate k i p).link = s.link ∧
    (s.deliverUpdate k i p).panes = s.panes ∧ (s.deliverUpdate k i p).store = s.store ∧
    (s.deliverUpdate k i p).palettes = s.palettes ∧ (s.deliverUpdate k i p).raster = s.raster ∧
    (s.deliverUpdate k i p).freeCount = s.freeCount ∧ (s.deliverUpdate k i p).pending = s.pending := by
  simp only [State.deliverUpdate]
  (repeat' split) <;> simp

@[simp] theorem State.deliverClaim_keeps (s : State) (i : StationId) (p : List Byte) :
    (s.deliverClaim i p).stationId = s.stationId ∧ (s.deliverClaim i p).link = s.link ∧ (s.deliverClaim i p).tx = s.tx ∧
    (s.deliverClaim i p).palettes = s.palettes ∧ (s.deliverClaim i p).raster = s.raster ∧
    (s.deliverClaim i p).freeCount = s.freeCount ∧ (s.deliverClaim i p).pending = s.pending := by
  simp only [State.deliverClaim]
  (repeat' split) <;> simp

@[simp] theorem State.deliverHandover_keeps (s : State) (i : StationId) (p : List Byte) :
    (s.deliverHandover i p).stationId = s.stationId ∧ (s.deliverHandover i p).link = s.link ∧
    (s.deliverHandover i p).tx = s.tx ∧ (s.deliverHandover i p).ep = s.ep ∧ (s.deliverHandover i p).store = s.store ∧
    (s.deliverHandover i p).palettes = s.palettes ∧ (s.deliverHandover i p).raster = s.raster ∧
    (s.deliverHandover i p).freeCount = s.freeCount ∧ (s.deliverHandover i p).pending = s.pending := by
  simp only [State.deliverHandover]
  (repeat' split) <;> simp

@[simp] theorem State.deliverRelease_keeps (s : State) (i : StationId) (p : List Byte) :
    (s.deliverRelease i p).stationId = s.stationId ∧ (s.deliverRelease i p).link = s.link ∧
    (s.deliverRelease i p).tx = s.tx ∧ (s.deliverRelease i p).store = s.store ∧
    (s.deliverRelease i p).palettes = s.palettes ∧ (s.deliverRelease i p).raster = s.raster ∧
    (s.deliverRelease i p).freeCount = s.freeCount ∧ (s.deliverRelease i p).pending = s.pending := by
  simp only [State.deliverRelease]
  (repeat' split) <;> simp

@[simp] theorem State.deliverClose_keeps (s : State) (i : StationId) (p : List Byte) :
    (s.deliverClose i p).stationId = s.stationId ∧ (s.deliverClose i p).link = s.link ∧ (s.deliverClose i p).tx = s.tx ∧
    (s.deliverClose i p).panes = s.panes ∧ (s.deliverClose i p).store = s.store ∧
    (s.deliverClose i p).palettes = s.palettes ∧ (s.deliverClose i p).raster = s.raster ∧
    (s.deliverClose i p).freeCount = s.freeCount ∧ (s.deliverClose i p).pending = s.pending := by
  simp only [State.deliverClose]
  (repeat' split) <;> simp

@[simp] theorem State.deliverRetract_keeps (s : State) (i : StationId) (p : List Byte) :
    (s.deliverRetract i p).stationId = s.stationId ∧ (s.deliverRetract i p).link = s.link ∧
    (s.deliverRetract i p).tx = s.tx ∧ (s.deliverRetract i p).panes = s.panes ∧ (s.deliverRetract i p).store = s.store ∧
    (s.deliverRetract i p).palettes = s.palettes ∧ (s.deliverRetract i p).raster = s.raster ∧
    (s.deliverRetract i p).freeCount = s.freeCount ∧ (s.deliverRetract i p).pending = s.pending := by
  simp only [State.deliverRetract]
  (repeat' split) <;> simp

@[simp] theorem State.freePane_keeps (s : State) (i : Fin 32) :
    (s.freePane i).stationId = s.stationId ∧ (s.freePane i).pins = s.pins ∧ (s.freePane i).link = s.link ∧
    (s.freePane i).tx = s.tx ∧ (s.freePane i).ep = s.ep ∧ (s.freePane i).mb = s.mb ∧ (s.freePane i).palettes = s.palettes ∧
    (s.freePane i).raster = s.raster ∧ (s.freePane i).host = s.host ∧ (s.freePane i).freeCount = s.freeCount ∧
    (s.freePane i).pending = s.pending := by
  simp only [State.freePane]
  (repeat' split) <;> simp

@[simp] theorem State.startTransfer_keeps (s : State) :
    s.startTransfer.stationId = s.stationId ∧ s.startTransfer.pins = s.pins ∧ s.startTransfer.link = s.link ∧
    s.startTransfer.ep = s.ep ∧ s.startTransfer.panes = s.panes ∧ s.startTransfer.store = s.store ∧
    s.startTransfer.palettes = s.palettes ∧ s.startTransfer.raster = s.raster ∧ s.startTransfer.host = s.host ∧
    s.startTransfer.freeCount = s.freeCount ∧ s.startTransfer.pending = s.pending := by
  simp only [State.startTransfer]
  (repeat' split) <;> simp

@[simp] theorem State.commit_keeps (s : State) :
    s.commit.stationId = s.stationId ∧ s.commit.link = s.link ∧ s.commit.palettes = s.palettes ∧
    s.commit.raster = s.raster ∧ s.commit.freeCount = s.freeCount ∧ s.commit.pending = s.pending := by
  have h1 : ∀ (l : List (Byte × StationId)) (s : State), (fun s : State => (s.stationId, s.link, s.palettes, s.raster, s.freeCount, s.pending))
      (l.foldl (fun s r => s.freePane (paneIx r.1)) s) = (s.stationId, s.link, s.palettes, s.raster, s.freeCount, s.pending) :=
    fun l s => foldl_keeps _ (fun s : State => (s.stationId, s.link, s.palettes, s.raster, s.freeCount, s.pending)) (fun s a => by simp) l s
  have h2 : ∀ (l : List Byte) (s : State), (fun s : State => (s.stationId, s.link, s.palettes, s.raster, s.freeCount, s.pending))
      (l.foldl State.dropRecord s) = (s.stationId, s.link, s.palettes, s.raster, s.freeCount, s.pending) :=
    fun l s => foldl_keeps _ (fun s : State => (s.stationId, s.link, s.palettes, s.raster, s.freeCount, s.pending)) (fun s a => by simp) l s
  simp only [Prod.mk.injEq] at h1 h2
  simp [State.commit, h1, h2]

@[simp] theorem State.stallStep_keeps (s : State) :
    s.stallStep.stationId = s.stationId ∧ s.stallStep.pins = s.pins ∧ s.stallStep.link = s.link ∧ s.stallStep.tx = s.tx ∧
    s.stallStep.mb = s.mb ∧ s.stallStep.panes = s.panes ∧ s.stallStep.store = s.store ∧ s.stallStep.palettes = s.palettes ∧
    s.stallStep.raster = s.raster ∧ s.stallStep.host = s.host ∧ s.stallStep.freeCount = s.freeCount ∧
    s.stallStep.pending = s.pending := by
  simp only [State.stallStep]
  (repeat' split) <;> simp

@[simp] theorem State.ageStep_keeps (s : State) :
    s.ageStep.stationId = s.stationId ∧ s.ageStep.pins = s.pins ∧ s.ageStep.link = s.link ∧ s.ageStep.tx = s.tx ∧
    s.ageStep.ep = s.ep ∧ s.ageStep.panes = s.panes ∧ s.ageStep.store = s.store ∧ s.ageStep.palettes = s.palettes ∧
    s.ageStep.raster = s.raster ∧ s.ageStep.host = s.host ∧ s.ageStep.freeCount = s.freeCount ∧ s.ageStep.pending = s.pending := by
  simp only [State.ageStep]
  (repeat' split) <;> simp

@[simp] theorem State.memberRise_keeps (s : State) (b : Bool) :
    (s.memberRise b).stationId = s.stationId ∧ (s.memberRise b).link = s.link ∧ (s.memberRise b).palettes = s.palettes ∧
    (s.memberRise b).raster = s.raster ∧ (s.memberRise b).freeCount = s.freeCount ∧ (s.memberRise b).pending = s.pending := by
  have h : ∀ (l : List Byte) (s : State), (fun s : State => (s.stationId, s.link, s.palettes, s.raster, s.freeCount, s.pending))
      (l.foldl State.breakBatch s) = (s.stationId, s.link, s.palettes, s.raster, s.freeCount, s.pending) :=
    fun l s => foldl_keeps _ (fun s : State => (s.stationId, s.link, s.palettes, s.raster, s.freeCount, s.pending))
      (fun s a => by simp) l s
  simp only [Prod.mk.injEq] at h
  simp only [State.memberRise, h]
  split <;> simp

@[simp] theorem State.raiseDenial_keeps (s : State) (i : StationId) (r : DenyReason) :
    (s.raiseDenial i r).stationId = s.stationId ∧ (s.raiseDenial i r).pins = s.pins ∧ (s.raiseDenial i r).link = s.link ∧
    (s.raiseDenial i r).ep = s.ep ∧ (s.raiseDenial i r).mb = s.mb ∧ (s.raiseDenial i r).panes = s.panes ∧
    (s.raiseDenial i r).store = s.store ∧ (s.raiseDenial i r).palettes = s.palettes ∧
    (s.raiseDenial i r).raster = s.raster ∧ (s.raiseDenial i r).host = s.host ∧
    (s.raiseDenial i r).freeCount = s.freeCount ∧ (s.raiseDenial i r).pending = s.pending := by
  simp only [State.raiseDenial]
  (repeat' split) <;> simp

@[simp] theorem State.deliverJoin_keeps (s : State) (i : StationId) (p : List Byte) :
    (s.deliverJoin i p).stationId = s.stationId ∧ (s.deliverJoin i p).pins = s.pins ∧ (s.deliverJoin i p).link = s.link ∧
    (s.deliverJoin i p).ep = s.ep ∧ (s.deliverJoin i p).panes = s.panes ∧ (s.deliverJoin i p).store = s.store ∧
    (s.deliverJoin i p).palettes = s.palettes ∧ (s.deliverJoin i p).raster = s.raster ∧ (s.deliverJoin i p).host = s.host ∧
    (s.deliverJoin i p).freeCount = s.freeCount ∧ (s.deliverJoin i p).pending = s.pending := by
  simp only [State.deliverJoin]
  (repeat' split) <;> simp

@[simp] theorem State.dropDenials_keeps (s : State) :
    s.dropDenials.stationId = s.stationId ∧ s.dropDenials.pins = s.pins ∧ s.dropDenials.link = s.link ∧
    s.dropDenials.ep = s.ep ∧ s.dropDenials.mb = s.mb ∧ s.dropDenials.panes = s.panes ∧ s.dropDenials.store = s.store ∧
    s.dropDenials.palettes = s.palettes ∧ s.dropDenials.raster = s.raster ∧ s.dropDenials.host = s.host ∧
    s.dropDenials.freeCount = s.freeCount ∧ s.dropDenials.pending = s.pending := by
  simp only [State.dropDenials]
  (repeat' split) <;> simp

@[simp] theorem State.admitJoiner_keeps (s : State) (i : StationId) :
    (s.admitJoiner i).stationId = s.stationId ∧ (s.admitJoiner i).link = s.link ∧ (s.admitJoiner i).ep = s.ep ∧
    (s.admitJoiner i).panes = s.panes ∧ (s.admitJoiner i).store = s.store ∧ (s.admitJoiner i).palettes = s.palettes ∧
    (s.admitJoiner i).raster = s.raster ∧ (s.admitJoiner i).freeCount = s.freeCount ∧ (s.admitJoiner i).pending = s.pending := by
  simp only [State.admitJoiner]
  (repeat' split) <;> simp

@[simp] theorem State.deliverJoinDone_keeps (s : State) (i : StationId) (p : List Byte) :
    (s.deliverJoinDone i p).stationId = s.stationId ∧ (s.deliverJoinDone i p).freeCount = s.freeCount ∧
    (s.deliverJoinDone i p).pending = s.pending := by
  simp only [State.deliverJoinDone]
  (repeat' split) <;> simp

@[simp] theorem State.deliverLeave_keeps (s : State) (i : StationId) :
    (s.deliverLeave i).stationId = s.stationId ∧ (s.deliverLeave i).freeCount = s.freeCount ∧
    (s.deliverLeave i).pending = s.pending := by
  simp only [State.deliverLeave]
  (repeat' split) <;> simp

@[simp] theorem State.deliverHead_keeps (s : State) (i : StationId) (p : List Byte) :
    (s.deliverHead i p).stationId = s.stationId ∧ (s.deliverHead i p).pins = s.pins ∧ (s.deliverHead i p).link = s.link ∧
    (s.deliverHead i p).tx = s.tx ∧ (s.deliverHead i p).ep = s.ep ∧ (s.deliverHead i p).panes = s.panes ∧
    (s.deliverHead i p).store = s.store ∧ (s.deliverHead i p).palettes = s.palettes ∧
    (s.deliverHead i p).raster = s.raster ∧ (s.deliverHead i p).host = s.host ∧
    (s.deliverHead i p).freeCount = s.freeCount ∧ (s.deliverHead i p).pending = s.pending := by
  simp only [State.deliverHead]
  (repeat' split) <;> simp

@[simp] theorem State.appendFree_keeps (s : State) (b : Byte) (l : List Extent) :
    (s.appendFree b l).stationId = s.stationId ∧ (s.appendFree b l).pins = s.pins ∧ (s.appendFree b l).link = s.link ∧
    (s.appendFree b l).tx = s.tx ∧ (s.appendFree b l).ep = s.ep ∧ (s.appendFree b l).panes = s.panes ∧
    (s.appendFree b l).palettes = s.palettes ∧ (s.appendFree b l).raster = s.raster ∧ (s.appendFree b l).host = s.host ∧
    (s.appendFree b l).freeCount = s.freeCount ∧ (s.appendFree b l).pending = s.pending := by
  simp only [State.appendFree]
  (repeat' split) <;> simp

@[simp] theorem State.deliverEnd_keeps (s : State) (i : StationId) (p : List Byte) :
    (s.deliverEnd i p).stationId = s.stationId ∧ (s.deliverEnd i p).pins = s.pins ∧ (s.deliverEnd i p).link = s.link ∧
    (s.deliverEnd i p).ep = s.ep ∧ (s.deliverEnd i p).panes = s.panes ∧ (s.deliverEnd i p).store = s.store ∧
    (s.deliverEnd i p).palettes = s.palettes ∧ (s.deliverEnd i p).raster = s.raster ∧ (s.deliverEnd i p).host = s.host ∧
    (s.deliverEnd i p).freeCount = s.freeCount ∧ (s.deliverEnd i p).pending = s.pending := by
  simp only [State.deliverEnd]
  (repeat' split) <;> simp

@[simp] theorem State.sampleVote_keeps (s : State) (b : Bool) :
    (s.sampleVote b).stationId = s.stationId ∧ (s.sampleVote b).pins = s.pins ∧ (s.sampleVote b).tx = s.tx ∧
    (s.sampleVote b).ep = s.ep ∧ (s.sampleVote b).mb = s.mb ∧ (s.sampleVote b).panes = s.panes ∧
    (s.sampleVote b).store = s.store ∧ (s.sampleVote b).palettes = s.palettes ∧ (s.sampleVote b).raster = s.raster ∧
    (s.sampleVote b).host = s.host ∧ (s.sampleVote b).freeCount = s.freeCount ∧ (s.sampleVote b).pending = s.pending := by
  simp only [State.sampleVote]
  (repeat' split) <;> simp

@[simp] theorem State.relock_keeps (s : State) :
    s.relock.stationId = s.stationId ∧ s.relock.link = s.link ∧ s.relock.tx = s.tx ∧ s.relock.ep = s.ep ∧
    s.relock.mb = s.mb ∧ s.relock.panes = s.panes ∧ s.relock.store = s.store ∧ s.relock.palettes = s.palettes ∧
    s.relock.freeCount = s.freeCount ∧ s.relock.pending = s.pending := by
  simp [State.relock]

@[simp] theorem State.takeTiming_keeps (s : State) :
    s.takeTiming.stationId = s.stationId ∧ s.takeTiming.pins = s.pins ∧ s.takeTiming.link = s.link ∧
    s.takeTiming.tx = s.tx ∧ s.takeTiming.ep = s.ep ∧ s.takeTiming.mb = s.mb ∧ s.takeTiming.panes = s.panes ∧
    s.takeTiming.store = s.store ∧ s.takeTiming.palettes = s.palettes ∧ s.takeTiming.host = s.host ∧
    s.takeTiming.freeCount = s.freeCount ∧ s.takeTiming.pending = s.pending := by
  simp only [State.takeTiming]
  (repeat' split) <;> simp

@[simp] theorem State.lockMember_keeps (s : State) :
    s.lockMember.stationId = s.stationId ∧ s.lockMember.pins = s.pins ∧ s.lockMember.link = s.link ∧
    s.lockMember.tx = s.tx ∧ s.lockMember.ep = s.ep ∧ s.lockMember.mb = s.mb ∧ s.lockMember.panes = s.panes ∧
    s.lockMember.store = s.store ∧ s.lockMember.palettes = s.palettes ∧ s.lockMember.host = s.host ∧
    s.lockMember.freeCount = s.freeCount ∧ s.lockMember.pending = s.pending := by
  simp only [State.lockMember]
  (repeat' split) <;> simp

@[simp] theorem State.startPass_keeps (s : State) :
    s.startPass.stationId = s.stationId ∧ s.startPass.pins = s.pins ∧ s.startPass.link = s.link ∧ s.startPass.tx = s.tx ∧
    s.startPass.mb = s.mb ∧ s.startPass.panes = s.panes ∧ s.startPass.store = s.store ∧ s.startPass.palettes = s.palettes ∧
    s.startPass.raster = s.raster ∧ s.startPass.host = s.host ∧ s.startPass.freeCount = s.freeCount ∧
    s.startPass.pending = s.pending := by
  simp only [State.startPass]
  (repeat' split) <;> simp

@[simp] theorem State.startRaster_keeps (s : State) :
    s.startRaster.stationId = s.stationId ∧ s.startRaster.pins = s.pins ∧ s.startRaster.link = s.link ∧
    s.startRaster.tx = s.tx ∧ s.startRaster.ep = s.ep ∧ s.startRaster.mb = s.mb ∧ s.startRaster.panes = s.panes ∧
    s.startRaster.store = s.store ∧ s.startRaster.palettes = s.palettes ∧ s.startRaster.host = s.host ∧
    s.startRaster.freeCount = s.freeCount ∧ s.startRaster.pending = s.pending := by
  simp only [State.startRaster]
  (repeat' split) <;> simp

@[simp] theorem State.outsiderOffline_keeps (s : State) :
    s.outsiderOffline.stationId = s.stationId ∧ s.outsiderOffline.host = s.host ∧
    s.outsiderOffline.freeCount = s.freeCount ∧ s.outsiderOffline.pending = s.pending := by
  simp only [State.outsiderOffline]
  (repeat' split) <;> simp

@[simp] theorem State.discardBatch_keeps (s : State) :
    s.discardBatch.stationId = s.stationId ∧ s.discardBatch.link = s.link ∧ s.discardBatch.ep = s.ep ∧
    s.discardBatch.mb = s.mb ∧ s.discardBatch.panes = s.panes ∧ s.discardBatch.store = s.store ∧
    s.discardBatch.palettes = s.palettes ∧ s.discardBatch.raster = s.raster ∧ s.discardBatch.freeCount = s.freeCount ∧
    s.discardBatch.pending = s.pending := by
  simp only [State.discardBatch]
  (repeat' split) <;> simp

@[simp] theorem State.dropExhausted_keeps (s : State) :
    s.dropExhausted.stationId = s.stationId ∧ s.dropExhausted.pins = s.pins ∧ s.dropExhausted.link = s.link ∧
    s.dropExhausted.ep = s.ep ∧ s.dropExhausted.panes = s.panes ∧ s.dropExhausted.store = s.store ∧
    s.dropExhausted.palettes = s.palettes ∧ s.dropExhausted.raster = s.raster ∧ s.dropExhausted.host = s.host ∧
    s.dropExhausted.freeCount = s.freeCount ∧ s.dropExhausted.pending = s.pending := by
  simp only [State.dropExhausted]
  (repeat' split) <;> simp

end Sys2Proof.Machine
end

