-- ==== Sys2Proof/Laws/Sampling.lean ====
section
/-! SUPPORT. What one more level adds to a clocked line's samples and edges, and the bytes that bits make. -/

namespace Sys2Proof.Machine

/-- A further level adds a falling edge exactly when the clock was high and is low. -/
theorem fallingEdges_append (clk : Bool) (levels : List Bool) (c : Bool) :
    fallingEdges clk (levels ++ [c]) = fallingEdges clk levels + if (levels.getLast?.getD clk && !c) = true then 1 else 0 := by
  induction levels generalizing clk with
  | nil => simp [fallingEdges]
  | cons l t ih =>
    simp only [List.cons_append, fallingEdges, ih, Nat.add_assoc]
    cases t with
    | nil => rfl
    | cons l' t' => simp [List.getLast?_cons]

/-- A further level adds a sample exactly when the clock was low and is high. -/
theorem risingSamples_append (clk : Bool) (levels : List (Bool × Bool)) (c bit : Bool) :
    risingSamples clk (levels ++ [(c, bit)])
      = risingSamples clk levels ++ if (c && !(levels.getLast?.map (·.1)).getD clk) = true then [bit] else [] := by
  induction levels generalizing clk with
  | nil => simp [risingSamples]
  | cons l t ih =>
    obtain ⟨d, b⟩ := l
    have hl : ((((d, b) :: t).getLast?.map (·.1)).getD clk) = ((t.getLast?.map (·.1)).getD d) := by
      cases t with
      | nil => rfl
      | cons l' t' => simp [List.getLast?_cons]
    rw [hl, List.cons_append, risingSamples, risingSamples, ih]
    split <;> rfl

/-- A run of bits, each clocked by one low and one high level, is sampled as it stands. -/
theorem risingSamples_clocked (clk : Bool) (bits : List Bool) :
    risingSamples clk (bits.flatMap fun b => [(false, b), (true, b)]) = bits := by
  induction bits generalizing clk with
  | nil => rfl
  | cons b t ih => simp [risingSamples, ih]

theorem byteOfBits_byteBits (b : Byte) :
    byteOfBits (b.getLsbD 7) (b.getLsbD 6) (b.getLsbD 5) (b.getLsbD 4) (b.getLsbD 3) (b.getLsbD 2) (b.getLsbD 1) (b.getLsbD 0) = b := by
  apply BitVec.eq_of_getLsbD_eq
  intro i hi
  rcases i with _ | _ | _ | _ | _ | _ | _ | _ | i
  all_goals simp only [byteOfBits, BitVec.getLsbD_append, BitVec.getLsbD_ofBool]; simp

/-- R158: a byte sent most significant bit first is the byte read. -/
theorem wholeBytes_byte (b : Byte) (rest : List Bool) : wholeBytes (byteBits b ++ rest) = b :: wholeBytes rest := by
  show byteOfBits _ _ _ _ _ _ _ _ :: wholeBytes rest = _
  rw [byteOfBits_byteBits]

/-- R158: the bytes sent are the bytes read, whatever bits follow. -/
theorem wholeBytes_bytes (bs : List Byte) (rest : List Bool) : wholeBytes (bs.flatMap byteBits ++ rest) = bs ++ wholeBytes rest := by
  induction bs with
  | nil => rfl
  | cons b t ih => rw [List.flatMap_cons, List.append_assoc, wholeBytes_byte, ih]; rfl

theorem wholeBytes_short : ∀ {bits : List Bool}, bits.length < 8 → wholeBytes bits = []
  | [], _ | [_], _ | [_, _], _ | [_, _, _], _ | [_, _, _, _], _ | [_, _, _, _, _], _ | [_, _, _, _, _, _], _
  | [_, _, _, _, _, _, _], _ => rfl
  | _ :: _ :: _ :: _ :: _ :: _ :: _ :: _ :: _, h => by simp at h; omega

/-- R158: the first bits of a run of bytes make its first complete bytes. -/
theorem wholeBytes_take (bs : List Byte) (n : Nat) : wholeBytes ((bs.flatMap byteBits).take n) = bs.take (n / 8) := by
  induction bs generalizing n with
  | nil => simp [wholeBytes]
  | cons b t ih =>
    by_cases h : n < 8
    · rw [wholeBytes_short (by rw [List.length_take]; omega), Nat.div_eq_of_lt h]; rfl
    · obtain ⟨m, rfl⟩ : ∃ m, n = m + 8 := ⟨n - 8, by omega⟩
      have hl : (byteBits b).length = 8 := rfl
      rw [List.flatMap_cons, List.take_append, List.take_of_length_le (by omega), wholeBytes_byte, hl, Nat.add_sub_cancel, ih,
        show (m + 8) / 8 = m / 8 + 1 by omega]
      rfl

end Sys2Proof.Machine
end

