-- ==== Sys2Proof/Laws/Spi.lean ====
section
/-! SUPPORT. The command that MOSI's bytes spell. -/

namespace Sys2Proof.Machine

/-- R158: a further level adds a falling edge exactly when SCK was high and is low. -/
theorem sckFalls_append (sck : Bool) (levels : List (Bool × Bool)) (clk bit : Bool) :
    sckFalls sck (levels ++ [(clk, bit)])
      = sckFalls sck levels + if ((levels.getLast?.map (·.1)).getD sck && !clk) = true then 1 else 0 := by
  simp [sckFalls, fallingEdges_append]

/-- R159: a command is evaluated when exactly its parameter bytes have come, and later bytes do not matter. -/
theorem hostCommand_complete {cmd : Byte} {ps : List Byte} {c : Instr} (rest : List Byte)
    (hn : paramCount cmd (ps ++ rest) = some ps.length) (hc : commandOf cmd ps = some c) : hostCommand (cmd :: (ps ++ rest)) = some c := by
  simp [hostCommand, hn, hc]

/-- R160: with fewer bytes than it calls for, no command is evaluated. -/
theorem hostCommand_incomplete {cmd : Byte} {ps : List Byte} (h : ∀ n, paramCount cmd ps = some n → ps.length < n) :
    hostCommand (cmd :: ps) = none := by
  cases hn : paramCount cmd ps with
  | none => simp [hostCommand, hn]
  | some n => have := h n hn; simp [hostCommand, hn]; omega

/-- A command byte and parameters spell their command when the count comes out as their number whatever follows, and never as fewer bytes than have
come. -/
theorem spells_of {cmd : Byte} {ps : List Byte} {c : Instr} (hn : ∀ rest, paramCount cmd (ps ++ rest) = some ps.length)
    (hc : commandOf cmd ps = some c) (hs : ∀ m < ps.length, ∀ n, paramCount cmd (ps.take m) = some n → m < n) : spells (cmd :: ps) c := by
  refine ⟨fun rest => ?_, fun n h => ?_⟩
  · rw [mosiCommand, wholeBytes_bytes, List.cons_append]
    exact hostCommand_complete _ (hn _) hc
  · rw [mosiCommand, wholeBytes_take]
    cases hm : n / 8 with
    | zero => rfl
    | succ m =>
      have hl : m < ps.length := by rw [List.length_cons] at h; omega
      refine hostCommand_incomplete fun k hk => ?_
      rw [List.length_take, Nat.min_eq_left (by omega)]
      exact hs m hl k hk

end Sys2Proof.Machine
end

