-- ==== Sys2Proof/Laws/Wire.lean ====
section
/-! SUPPORT. What a station drives at each place of a packet, how the driver fields of State stand to it, and what a receiver samples. -/

namespace Sys2Proof.Machine

/-- R3: a packet's bit slots are as many as its length field says. -/
theorem Packet.bits_length (p : Packet) (h : p.payload.length ≤ 63) : p.bits.length = bitSlots p.length := by
  have flat : ∀ bs : List Byte, (bs.flatMap byteBits).length = 8 * bs.length := by
    intro bs; induction bs with
    | nil => rfl
    | cons b t ih => simp only [List.flatMap_cons, List.length_append, ih, List.length_cons]; simp [byteBits]; omega
  simp only [Packet.bits, flat, Packet.covered, List.length_append, bitSlots, Packet.length, BitVec.toNat_ofNat]
  simp [halfBytes]; omega

/-- The two bytes of a field, read as a field again. -/
theorem halfOf_bytes (h : Half) : halfOf (h.extractLsb' 8 8) (h.extractLsb' 0 8) = h := by
  apply BitVec.eq_of_getLsbD_eq; intro i hi
  simp only [halfOf, BitVec.getLsbD_append, BitVec.getLsbD_extractLsb']
  by_cases h8 : i < 8
  · simp [h8]
  · simp [h8, show i - 8 < 8 by omega, show 8 + (i - 8) = i by omega]

/-- R3: the four fields of a header, read from its sixteen bits. -/
theorem headerHalf_fields (c : BitVec 2) (s : StationId) (k : BitVec 4) (l : BitVec 6) :
    (headerHalf c s k l).extractLsb' 0 6 = l ∧ (headerHalf c s k l).extractLsb' 6 4 = k
    ∧ (headerHalf c s k l).extractLsb' 10 4 = s ∧ (headerHalf c s k l).extractLsb' 14 2 = c := by
  refine ⟨?_, ?_, ?_, ?_⟩ <;>
  · apply BitVec.eq_of_getLsbD_eq; intro i hi
    simp only [headerHalf, BitVec.getLsbD_append, BitVec.getLsbD_extractLsb', hi, decide_true, Bool.true_and]
    repeat' split
    all_goals first | omega | (congr 1; omega)

/-- R3, R4, R9: a packet whose bits are sampled as sent is received as sent, whatever is sampled after it. -/
theorem RxPacket.ofBits_bits (p : Packet) (h : p.payload.length ≤ 63) (rest : List Bool) :
    RxPacket.ofBits (p.bits ++ rest) = some p.received := by
  have hl : p.length.toNat = p.payload.length := by simp [Packet.length]; omega
  rw [RxPacket.ofBits, Packet.bits, wholeBytes_bytes]
  simp [Packet.covered, halfBytes, halfOf_bytes, headerHalf_fields, hl, Packet.received]

/-- R3, R4: the refusal slot is the one after the check, by the length received. -/
theorem fieldAt_refusal (n : BitVec 6) (k : Nat) : fieldAt n k = .refusal ↔ k = 32 + 8 * n.toNat := by
  have hb : bitSlots n = 32 + 8 * n.toNat := rfl
  unfold fieldAt
  repeat' split
  all_goals simp; try omega

/-- R8, R9: in a bit slot a sender pulls TLD for a 0 and TLC in its low half. -/
theorem State.drive_bit {s : State} {a : Attempt} (h : s.link.state = .transmitting) (ha : s.tx.attempt = some a) (k : Nat) (c : Clock) :
    s.drive (.bit k c) = ⟨decide (a.packet.bits[k]? = some false), decide (c = .low)⟩ := by
  simp [State.drive, State.sending, h, ha, Packet.pullsTld, Clock.pulls]

/-- R8, R10, R16: a station that does not send drives neither line outside the hold point and the refusal slot. -/
theorem State.drive_receiver {s : State} (h : s.link.state ≠ .transmitting) (p : Place) (hp : ∀ c, p ≠ .refusal c) :
    s.drive p = ⟨false, false⟩ := by
  cases p with
  | refusal c => exact absurd rfl (hp c)
  | _ => simp [State.drive, State.sending, h]

/-- R6, R8: a fall of TLC in the start condition opens the first slot, whether the sender has pulled TLC yet or a co-sender came first. -/
theorem Place.start_fall (slots : Nat) (tlcPulled : Bool) : (Place.start tlcPulled).next slots .fall = some (.bit 0 .low) := rfl

/-- R10: a sender that loses at a slot has TLD released there. -/
theorem Packet.releases_where_lost {p : Packet} {k : Nat} (h : p.bits[k]? = some true) : p.pullsTld k = false := by
  simp [Packet.pullsTld, h]

/-- R6: START_CONDITION leaves the driver fields as at the end of the start condition. -/
theorem execStartCondition_drive {s t : State} {n : Nat} (h : execStartCondition n s = .next t) (hs : s.link.state ≠ .transmitting)
    (ht : t.link.state = .transmitting) :
    t.drive (.start true) = ⟨t.pins.tldLow, t.pins.tlcLow⟩ := by
  unfold execStartCondition at h
  cases h
  split at ht
  · split at ht
    · simp [*, State.drive, State.sending, State.beginPacket]
    · exact absurd ht hs
  · exact absurd ht hs

/-- R13: at the opening of the hold point the driver fields are what the station drives in the refusal slot's low half. -/
theorem State.holdOpens_drive {s : State} (hd : s.link.decision = none) (ht : s.pins.tldLow = true → s.link.state = .transmitting) :
    s.holdOpens.drive (.refusal .low) = ⟨s.holdOpens.pins.tldLow, s.holdOpens.pins.tlcLow⟩ := by
  cases hp : s.pins.tldLow <;> simp_all [State.holdOpens, State.drive, State.sending, Clock.pulls]

/-- R13, R14: with its decision made the station drives TLD alone, and that if it refuses, until TLC falls again. -/
theorem State.holdDecided_drive (s : State) (rx : RxPacket) (c : Clock) (hc : c ≠ .low) :
    (s.holdDecided rx).drive (.refusal c) = ⟨(s.holdDecided rx).pins.tldLow, (s.holdDecided rx).pins.tlcLow⟩ := by
  cases c <;> simp_all [State.holdDecided, State.drive, Clock.pulls]

end Sys2Proof.Machine
end

