-- ==== Sys2Proof/Tests/Slice0.lean ====
section
/-! SUPPORT. Tests: an ill-formed command for each check of WellFormed; one step of each command against the spec's worked examples or a hand
reading of its rules; and, for each statement with hypotheses, a state and operands that meet them. -/

open Sys2Proof Sys2Proof.Machine

namespace Sys2Proof.Tests

/-! ### Ill-formed commands -/

set_option maxRecDepth 20000 in
theorem test_wf_count : (Instr.setPalette ⟨1, 0, List.replicate 256 0⟩).wellFormed = false := by decide
theorem test_wf_payload : (Instr.closeTaken 3 (List.replicate 33 0)).wellFormed = false := by decide
theorem test_wf_rx : (Instr.holdPoint ⟨0, 0, 0, 3, [1, 2], 0⟩).wellFormed = false := by decide
theorem test_wf_framing : (Instr.framingError 6152).wellFormed = false := by decide
theorem test_wf_names_a_command : (Instr.badCommand 0x22).wellFormed = false := by decide
theorem test_wf_slot : (Instr.lostInArbitration 288).wellFormed = false := by decide
theorem test_wf_tile_row : (Instr.spanListBuild 48).wellFormed = false := by decide

/-- No row of the table gives bits. -/
theorem test_decode_none : decodeTableWord 8 0x22 = none ∧ (State.reset.withFetchWord 8 0x22).pending = [] := by decide

/-! ### Small states -/

/-- The tile of section 9.1. -/
def tile : TileFields := ⟨640, 800, 656, 752, 480, 10, 2, 33, 0, 0, 2, 1⟩

/-- A configured station between packets, in a membership state; the digest is made up. -/
def station (i : StationId) (m : MemberState) : State := { State.reset with
  stationId := i
  mb := membershipCleared m
  link := { linkReset with state := .idle, rate := some .m1 }
  raster := { rasterReset with
    config := some tile, timing := some tile, sync := .following, phase := some .active, fontDigest := 0x1234 } }

/-- A member of a group just founded, with the roster given. -/
def member (i : StationId) (roster : IdSet) : State :=
  let s := station i .member
  { s with mb := { s.mb with roster := roster }, store := ⟨[], [⟨0, 512⟩]⟩, pins := { s.pins with tlvLow := true } }

/-- At the instant a host command is evaluated. -/
def atHost (s : State) : State := { s with host := { s.host with spi := .command } }

/-- An evaluator that has admitted another station's packet. -/
def hears (s : State) : State :=
  { s with link := { s.link with state := .receiving, role := some .evaluator, decision := some ⟨false, false⟩ } }

/-- An observer of another station's packet. -/
def watches (s : State) : State := { s with link := { s.link with state := .receiving, role := some .observer } }

/-- An evaluator that sends a candidate and has admitted it. -/
def sends (c : Candidate) (s : State) : State := { s with
  link := { s.link with state := .transmitting, role := some .evaluator, decision := some ⟨false, false⟩ }
  tx := { s.tx with attempt := some ⟨c, s.formPacket c, true⟩ } }

/-- A queue. -/
def queued (q : List Queued) (s : State) : State := { s with tx := { s.tx with queue := q } }

/-- The state of a pane. -/
def owns (k : Fin 32) (o : StationId) (e : Extent) (s : State) : State :=
  s.setPane k ⟨.owned o e, { displayDefaults with ext := some e }⟩

/-- A running apply pass with the entries given. -/
def applying (ops : List EntryOp) (s : State) : State :=
  { s with ep := { s.ep with
      openNum := 2, pendingApply := true, passRunning := true, staging := ops.map fun o => ⟨.applying, 3, none, o⟩ } }

/-- A station in a vertical phase and sync state. -/
def inRaster (p : Phase) (y : Sync) (s : State) : State := { s with raster := { s.raster with phase := some p, sync := y } }

/-- The state after a command. -/
def after (c : Instr) (s : State) : State :=
  match exec c s with
  | .next t => t
  | _ => s

/-! ### The Host Port -/

theorem test_power_on : (after (.powerOnReset 11) (member 3 0xF)).stationId = 11
    ∧ (after (.powerOnReset 11) (member 3 0xF)).mb.state = .offline := by decide
theorem test_transaction_start : (after .transactionStart (member 0 1)).host.spi = .command := by decide
theorem test_miso :
    let s : State := { member 0 1 with host := { hostReset with spi := .response, response := [0x00, 0x41] } }
    (List.range 24).map s.miso = (List.range 24).map (fun n => some (n = 9 ∨ n = 15 : Bool))
    ∧ (atHost (member 0 1)).miso 0 = some false ∧ (member 0 1).miso 0 = none := by decide
/-- Section 10.7, by hand: CLAIM of pane 2 with count 300 (012Ch); a last bit short; PUT-CELLS of one cell; RESET and READ-EVENT whole. -/
theorem test_mosi :
    mosiCommand ([0x30, 0x02, 0x01, 0x2C].flatMap byteBits) = some (.claim 2 300)
    ∧ mosiCommand (([0x30, 0x02, 0x01, 0x2C].flatMap byteBits).take 31) = none
    ∧ mosiCommand ([0x20, 0x02, 0x01, 0x00, 0x01, 0x41, 0x07, 0xFF].flatMap byteBits) = some (.putCells ⟨2, 256, [⟨0x41, 7⟩]⟩)
    ∧ mosiCommand ([0x23, 0x02, 0x20, 0x02, 0x0F, 0xA0, 0x01].flatMap byteBits)
      = some (.setPane ⟨2, none, some 4000, none, none, none, none, none, none, none, none, none, none, none, some 1, 0⟩) := by decide
theorem test_transaction :
    transaction 9 (byteBits 0x05 ++ byteBits 0) = [.transactionStart, .reset, .softReset 9, .transactionEnd]
    ∧ transaction 9 ((byteBits 0x41) ++ List.replicate 72 false) = [.transactionStart, .readEvent, .eventRecordRemoval, .transactionEnd]
    ∧ transaction 9 (byteBits 0x32) = [.transactionStart, .framingError 8]
    ∧ mosiSamples false [(true, true), (true, false), (false, false), (true, false)] = [true, false] := by decide
/-- R158: response 80h. SCK high at the evaluation; the first fall puts out the 1, which stands through the rise, and the next fall the 0. -/
theorem test_miso_edges :
    let s : State := { member 0 1 with host := { hostReset with spi := .response, response := [0x80] } }
    ([[], [(false, true)], [(false, true), (true, true)], [(false, true), (true, true), (false, true)]] : List (List (Bool × Bool))).map s.misoLine
      = [some false, some true, some true, some false] := by decide
theorem test_transaction_end : (after .transactionEnd (after .reset (atHost (member 0 1)))).host.spi = .idle := by decide
theorem test_framing_counts : (after (.framingError 9) (atHost (member 0 1))).host.framing = 1 := by decide
theorem test_framing_no_edge : (after (.framingError 0) (atHost (member 0 1))).host.framing = 0 := by decide
theorem test_bad_command : (after (.badCommand 0x77) (atHost (member 0 1))).host.response = [0x01] := by decide
theorem test_configure : (after (.configure tile) (atHost (station 0 .offline))).host.response = [0x00] := by decide
theorem test_configure_total_too_small :
    (after (.configure { tile with hTotal := 671 }) (atHost (station 0 .offline))).host.response = [0x02] := by decide
theorem test_load_font :
    fontBRow (after (.loadFontB 0x41 (Vector.replicate 16 0x3C)) (atHost (station 0 .offline))).raster.fontB 0x41 15 = 0x3C := by decide
theorem test_load_font_online : (after (.loadFontB 0x41 (Vector.replicate 16 0)) (atHost (member 0 1))).host.response = [0x03] := by decide
theorem test_go_online : (after .goOnline (atHost (station 0 .offline))).mb.listenTimer = some 500 := by decide
theorem test_go_online_not_configured : (after .goOnline (atHost State.reset)).host.response = [0x04] := by decide
theorem test_go_offline_member : (after .goOffline (atHost (member 0 1))).tx.queue = [⟨.leave, 0⟩] := by decide
/-- R30, R36, R169: GO-OFFLINE breaks the open batch while its first update is in its attempt. Taken, the update is staged, a RETRACT is raised and no CLOSE
is due; refused, it leaves nothing. -/
theorem test_go_offline_in_attempt :
    let u : Update := .setPane ⟨2, some 5, none, none, none, none, none, none, none, none, none, none, none, none, none, 0⟩
    let o := queued [⟨.update 3 u, 0⟩] (owns 2 0 ⟨0, 30⟩ (member 0 1))
    let b : State := { o with
      tx := { o.tx with batches := [⟨3, false, false, false⟩] }
      host := { o.host with batch := .opened 3 1 } }
    let s := after .goOffline (atHost (sends .queueHead b))
    let t := after (u.taken 0 1 3) s
    s.tx.batches = [] ∧ s.tx.queue = [⟨.leave, 0⟩] ∧ s.closeDue = some 1
    ∧ t.tx.batches = [⟨3, true, true, true⟩] ∧ t.tx.retracts = [⟨3, 0⟩] ∧ t.closeDue = none ∧ t.offer = some .retract
    ∧ (t.formPacket .retract).payload = [0, 1, 3] ∧ (after (.retractTaken 0 [0, 1, 3]) (sends .retract { t with link := { t.link with slot := .pending } })).ep.staging = []
    ∧ (after .packetRefused s).tx.batches = [] ∧ (after .packetRefused s).tx.retracts = [] := by decide
theorem test_go_offline_requesting : (after .goOffline (atHost (station 4 .requesting))).link.state = .disconnected := by decide
theorem test_soft_reset : (after (.softReset 9) (after .reset (atHost (member 0 1)))).host.events = [⟨.resetDone, 1, 9, 0, 0⟩] := by decide
/-- R167: a batch with no updates has its record dropped at once; one whose update still waits in the queue keeps it, ended. -/
theorem test_end_batch_records :
    let s (q : List Queued) : State := queued q { atHost (member 0 1) with host := { (atHost (member 0 1)).host with batch := .opened 6 1 } }
    let t (q : List Queued) : State := { s q with tx := { (s q).tx with batches := [⟨6, false, false, false⟩] } }
    (after .endBatch (t [])).tx.batches = []
    ∧ (after .endBatch (t [⟨.update 6 (.setPalette ⟨1, 1, [5]⟩), 0⟩])).tx.batches = [⟨6, true, false, false⟩] := by decide
theorem test_begin_batch_wraps :
    (after .beginBatch (atHost { member 0 1 with host := { hostReset with nextTag := 15 } })).host.response = [0x00, 15] := by decide
theorem test_end_batch :
    (after .endBatch (atHost { member 0 1 with host := { hostReset with batch := .opened 6 3 } })).host.response = [0x00, 6, 3] := by decide
theorem test_put_cells_not_owner : (after (.putCells ⟨2, 0, [⟨0x41, 7⟩]⟩) (atHost (member 0 1))).host.response = [0x06] := by decide
theorem test_put_cells_implicit_batch :
    (after (.putCells ⟨2, 0, [⟨0x41, 7⟩]⟩) (atHost (owns 2 0 ⟨0, 30⟩ (member 0 1)))).tx.batches = [⟨0, true, false, false⟩] := by decide
theorem test_fill_function_4 : (after (.fill ⟨2, 0, 0, 4, 120, 0x20, 0x1F, 4, 1, 0xFF⟩) (atHost (member 0 1))).host.response = [0x02] := by decide
theorem test_copy_zero_rows : (after (.copy ⟨2, 0, 0, 0, 2, 0, 10⟩) (atHost (member 0 1))).host.response = [0x02] := by decide
theorem test_set_pane_depth_64 :
    (after (.setPane { fullFields 2 displayDefaults with depth := some 64 }) (atHost (owns 2 0 ⟨0, 30⟩ (member 0 1)))).host.response
      = [0x02] := by decide
theorem test_set_palette_bank_0 : (after (.setPalette ⟨0, 1, [0x002060]⟩) (atHost (member 0 1))).host.response = [0x02] := by decide
theorem test_set_palette_needs_no_pane : (after (.setPalette ⟨1, 1, [0x002060]⟩) (atHost (member 0 1))).tx.queue.length = 1 := by decide
theorem test_claim_512 : (after (.claim 2 512) (atHost (member 0 1))).tx.queue = [⟨.claim 2 512, 0⟩] := by decide
theorem test_claim_513 : (after (.claim 2 513) (atHost (member 0 1))).host.response = [0x02] := by decide
theorem test_handover_16 : (after (.handover 2 16) (atHost (member 0 1))).host.response = [0x02] := by decide
theorem test_release_outsider : (after (.release 2) (atHost (station 0 .joining))).host.response = [0x05] := by decide
theorem test_read_status :
    (after .readStatus (atHost (station 9 .listening))).host.response.take 8 = [0x00, 9, 1, 0, 2, 1, 1, 0] := by decide
theorem test_read_event_empty : (after .readEvent (atHost (member 0 1))).host.response = [0x0E] := by decide

/-- The worked example of section 8.8: 31 records and three losses, the head clocked out. -/
theorem test_events_lost :
    let s : State := { member 6 0x40 with host := { hostReset with
      spi := .response, headRead := true, events := List.replicate 32 ⟨.joined, 1, 0, 0, 0⟩, lost := 3 } }
    (after .eventRecordRemoval s).host.events.length = 32 ∧ (after .eventRecordRemoval s).host.lost = 0
      ∧ (after .eventRecordRemoval s).host.events.getLast? = some ⟨.eventsLost, 1, 3, 0, 0⟩ := by decide
theorem test_read_pane : (after (.readPane 31) (atHost (member 0 1))).host.response.length = 31 := by decide
theorem test_read_cells_last : (after (.readCells 8191 1) (atHost (member 0 1))).host.response = [0x00, 0x20, 0x07] := by decide
theorem test_read_cells_past_end : (after (.readCells 8191 2) (atHost (member 0 1))).host.response = [0x02] := by decide
theorem test_read_roster : (after .readRoster (atHost (member 0 0xF))).host.response = [0x00, 0x00, 0x0F, 0, 0, 0xFF, 0xFF] := by decide

/-! ### The link -/

theorem test_start : (after (.startCondition 1) (queued [⟨.leave, 0⟩] (member 5 0x220))).link.state = .transmitting := by decide
theorem test_start_pulls_both_lines :
    (after (.startCondition 1) (queued [⟨.leave, 0⟩] (member 5 0x220))).pins = ⟨true, true, false, true, false⟩ := by decide
theorem test_no_start_within_a_bit_of_tlf :
    (after (.startCondition 0) (queued [⟨.leave, 0⟩] (member 5 0x220))).link.state = .idle := by decide
theorem test_start_seen : (after .startSeen (member 5 0x220)).link.role = some .evaluator := by decide

/-- The worked example of section 1.5: stations 5 and 9 send a CONTROL packet; at the first sender slot 9 releases TLD and 5 pulls it, and 9, lost,
drives no more. -/
theorem test_drive :
    let s (i : StationId) := after (.startCondition 1) (queued [⟨.leave, 0⟩] (member i 0x220))
    ((s 5).drive (.bit 2 .low), (s 9).drive (.bit 2 .low)) = (⟨true, true⟩, ⟨false, true⟩)
    ∧ ((s 5).drive (.bit 3 .high), (after (.lostInArbitration 2) (s 9)).drive (.bit 3 .low)) = (⟨false, false⟩, ⟨false, false⟩)
    ∧ ((s 5).drive (.start false), (s 5).drive (.start true), (s 5).drive (.stop .high)) = (⟨true, false⟩, ⟨true, true⟩, ⟨true, false⟩) := by
  decide
/-- R16: at the fall before the stop a refusing evaluator releases TLD. -/
theorem test_drive_refusal :
    let s : State := { hears (member 7 0x85) with link := { (hears (member 7 0x85)).link with decision := some ⟨true, false⟩ } }
    (s.drive (.refusal .high), (after .packetRefused s).drive (.stop .low)) = (⟨true, false⟩, ⟨false, false⟩) := by decide
/-- R6, R8: a co-sender's earlier fall of TLC opens slot 0 at a sender still in its start half-bit, which then goes on. -/
theorem test_start_followed :
    [ClockEvent.fall, .halfBit, .rise].foldl (fun p e => p.bind (Place.next 32 e)) (some (.start false)) = some (.bit 0 .high)
    ∧ [ClockEvent.halfBit, .fall].foldl (fun p e => p.bind (Place.next 32 e)) (some (.start false)) = some (.bit 0 .low) := by decide
/-- R8: a sender's clock follows a faster sender's fall and waits for a slower one's rise. -/
theorem test_clock :
    [ClockEvent.halfBit, .rise, .fall].foldl (fun p e => p.bind (Place.next 32 e)) (some (.bit 4 .low)) = some (.bit 5 .low)
    ∧ [ClockEvent.halfBit, .rise, .halfBit].foldl (fun p e => p.bind (Place.next 32 e)) (some (.bit 31 .low)) = some (.refusal .low)
    ∧ [ClockEvent.halfBit, .halfBit].foldl (fun p e => p.bind (Place.next 32 e)) (some (.bit 4 .low)) = some (.bit 4 .released)
    ∧ [ClockEvent.halfBit, .rise, .halfBit].foldl (fun p e => p.bind (Place.next 32 e)) (some (.stop .low)) = none := by decide
/-- R3, R9, by hand: class 1, sender 2, kind 9, one payload byte A5h, check 8001h, then a refusal slot pulled low. A level of TLD that stands only while
TLC is low is not sampled; an idle station samples nothing. -/
theorem test_slot_bits :
    let bits := [false, true, false, false, true, false, true, false, false, true, false, false, false, false, false, true,
      true, false, true, false, false, true, false, true, true, false, false, false, false, false, false, false, false, false, false, false, false,
      false, false, true]
    RxPacket.ofBits (bits ++ [false]) = some ⟨1, 2, 9, 1, [0xA5], 0x8001⟩ ∧ RxPacket.ofBits (bits.take 39) = none
    ∧ refusalSample 1 (bits ++ [false]) = some false
    ∧ (hears (member 0 1)).tldSamples [(false, true), (false, false), (true, false), (true, false), (false, true), (true, true)] = [false, true]
    ∧ (member 0 1).tldSamples [(false, false), (true, false)] = [] := by decide
/-- The worked example of section 1.5: stations 5 and 9 start together; 9 loses at the first sender slot, 5 does not. -/
theorem test_arbitration :
    (after (.lostInArbitration 2) (after (.startCondition 1) (queued [⟨.leave, 0⟩] (member 9 0x220)))).link.state = .receiving
    ∧ (after (.lostInArbitration 2) (after (.startCondition 1) (queued [⟨.leave, 0⟩] (member 5 0x220)))).link.state = .transmitting := by
  decide

set_option maxRecDepth 20000 in
/-- Station 7 of section 1.9: the check fails, it pulls TLD low. -/
theorem test_hold_point_refuses :
    let s : State := { member 7 0x85 with link := { linkReset with state := .receiving, role := some .evaluator } }
    (after (.holdPoint ⟨1, 2, 0, 2, [0, 1], 0⟩) s).pins.tldLow = true := by decide
/-- R13: a station that sends its FOUND, an observer, releases TLD and TLC at the hold point. -/
theorem test_hold_point_observer :
    let s := after (.startCondition 1) (queued [⟨.found, 0⟩] (station 9 .founding))
    s.pins.tldLow = true ∧ (after (.holdPoint ⟨0, 9, 0, 3, [0x12, 0x34, 1], 0⟩) s).pins = pinsReleased := by decide
theorem test_refusal_counted :
    (after .packetRefused (sends .queueHead (queued [⟨.leave, 6⟩] (member 2 0x85)))).tx.queue = [⟨.leave, 7⟩] := by decide
set_option maxRecDepth 20000 in
theorem test_observer_hears_evidence :
    (after (.observerReceipt true (Packet.received ⟨1, 2, 0, [0, 1]⟩)) (watches (station 11 .listening))).mb.state = .requesting := by decide
theorem test_stop : (after .stopCondition (hears (member 7 0x85))).link.state = .waitFree := by decide
theorem test_break_counts :
    let s := sends .queueHead (queued [⟨.leave, 0⟩] (member 2 0x85))
    (after .packetBreak s).tx.queue = [⟨.leave, 1⟩] := by decide
/-- R17: a start restarts the free-bus timer. -/
theorem test_start_restarts_timer :
    let s : State := { member 7 0x85 with link := { (member 7 0x85).link with state := .waitFree, freeBus := 7 } }
    (after .startSeen s).link.freeBus = 0 ∧ (after .startSeen s).link.state = .receiving := by decide
theorem test_abandoned : (after .packetAbandoned (hears (member 7 0x85))).link.freeBus = 8 := by decide
theorem test_timeout : (after .linkTimeout (hears (member 7 0x85))).host.events = [⟨.linkTimeout, 1, 0, 0, 0⟩] := by decide
theorem test_bus_free :
    (after (.busFreeInterval 8) { member 7 0x85 with link := { linkReset with state := .waitFree } }).link.state = .idle
    ∧ (after (.busFreeInterval 15) { member 7 0x85 with link := { linkReset with state := .waitFree, fairWait := true } }).link.state
      = .waitFree := by decide
theorem test_recovery :
    (after .recoveryBusFree { member 7 0x85 with link := { linkReset with state := .recovery } }).link.state = .waitFree := by decide
/-- R17: high times that a low line parts do not add up. -/
theorem test_irregular_fall_restarts :
    let s := after (.busFreeInterval 6) { member 7 0x85 with link := { linkReset with state := .waitFree } }
    (after (.busFreeInterval 7) (after .irregularTlcFall s)).link.state = .waitFree
    ∧ (after (.busFreeInterval 8) (after .irregularTlcFall s)).link.state = .idle := by decide
theorem test_irregular_fall : (after .irregularTlcFall (member 7 0x85)).link.state = .waitFree := by decide

/-! ### Taken packets -/

theorem test_found_evidence : (after (.foundTaken 2 [0, 0, 1]) (watches (station 4 .founding))).mb.state = .requesting := by decide
/-- R77: a rise sampled high inside the own FOUND commits nothing at the founder. -/
theorem test_founder_drops_high_sample :
    let s := after (.tlfRise true) (after (.startCondition 1) (queued [⟨.found, 0⟩] (station 9 .founding)))
    let t := after .tlfRiseEffects (after .stopCondition (after (.foundTaken 9 [0x12, 0x34, 1]) s))
    s.link.riseSample = some true ∧ t.mb.state = .member ∧ t.ep.openNum = 1 := by decide
theorem test_join_appended :
    (after (.joinTaken 9 [0x12, 0x34, 1]) (hears (member 3 0x08))).mb.joinQueue = [9] := by decide
theorem test_join_font : (after (.joinTaken 9 [0x12, 0x35, 1]) (hears (member 3 0x08))).tx.denials = [⟨9, .font, 0⟩] := by decide
theorem test_join_deny : (after (.joinDenyTaken 0 [9, 1]) (watches (station 9 .requesting))).mb.state = .denied
    ∧ (after (.joinDenyTaken 0 [9, 1]) (watches (station 9 .requesting))).host.events = [⟨.denied, 1, 1, 0, 0⟩] := by decide

/-- Section 9.2: JOIN-DONE(302, OK) of station 1 at station 0; stations 2 and 3 wait. -/
theorem test_join_done :
    let s : State := { member 0 0x1 with
      mb := { membershipCleared .member with roster := 0x1, joinQueue := [1, 2, 3], transfer := some ⟨1, 0, 10, true⟩ }
      ep := { epochsCleared with openNum := 302, applied := 301 } }
    (after (.joinDoneTaken 1 [0x01, 0x2E, 0]) (hears s)).mb.roster = 0x3
    ∧ (after (.joinDoneTaken 1 [0x01, 0x2E, 0]) (hears s)).mb.joinQueue = [2, 3]
    ∧ (after (.joinDoneTaken 1 [0x01, 0x2F, 0]) (hears s)).mb.roster = 0x1 := by decide
theorem test_leave_at_sender :
    (after (.leaveTaken 2 []) (sends .queueHead (queued [⟨.leave, 0⟩] (member 2 0x85)))).mb.state = .offline := by decide

/-- Section 9.3: the claim race for pane 0. -/
theorem test_claim_race :
    let s : State := { member 0 0xF with ep := { epochsCleared with openNum := 400, applied := 399, openClose := 0xF } }
    let t := after (.claimTaken 1 [0, 0, 30]) (hears s)
    (t.pane 0).control = .owned 1 ⟨0, 30⟩ ∧ t.store.freeList = [⟨30, 482⟩]
    ∧ t.ep.staging = [⟨.nextE, 1, none, .clear 0 ⟨0, 30⟩⟩]
    ∧ (after (.claimTaken 3 [0, 0, 20]) (hears t)).store.freeList = [⟨30, 482⟩] := by decide
theorem test_handover :
    ((after (.handoverTaken 1 [3, 2]) (hears (owns 3 1 ⟨0, 8⟩ (member 2 0xF)))).pane 3).control = .owned 2 ⟨0, 8⟩
    ∧ (after (.handoverTaken 1 [3, 2]) (hears (owns 3 1 ⟨0, 8⟩ (member 2 0xF)))).host.events = [⟨.paneReceived, 1, 3, 1, 0⟩] := by
  decide

/-- Section 5.6: RELEASE(70, pane 7) from station 2. -/
theorem test_release :
    let s : State := { owns 7 2 ⟨40, 8⟩ (member 6 0x44) with ep := { epochsCleared with openNum := 70, applied := 69 } }
    ((after (.releaseTaken 2 [0, 70, 7]) (hears s)).pane 7).control = .releasing ⟨40, 8⟩
    ∧ (after (.releaseTaken 2 [0, 70, 7]) (hears s)).ep.staging = [⟨.openE, 2, none, .release 7⟩] := by decide
theorem test_retract :
    let s : State := { member 0 0xF with ep := { epochsCleared with staging :=
      [⟨.openE, 1, some 6, .update (.setPalette ⟨1, 1, [5]⟩)⟩, ⟨.openE, 1, some 7, .update (.setPalette ⟨1, 1, [5]⟩)⟩] } }
    (after (.retractTaken 1 [0, 1, 6]) (hears s)).ep.staging = [⟨.openE, 1, some 7, .update (.setPalette ⟨1, 1, [5]⟩)⟩] := by decide
theorem test_close : (after (.closeTaken 1 [0, 1]) (hears (member 0 0x3))).ep.openClose = 0x2 := by decide
theorem test_close_of_another_epoch : (after (.closeTaken 1 [0, 2]) (hears (member 0 0x3))).ep.openClose = 0 := by decide

/-- Section 9.4: SET-PALETTE(bank 1, first index 1, 002060h), batch 6, goes into NEXT 501. -/
theorem test_set_palette_taken :
    let s : State := { member 0 0xF with ep := { epochsCleared with openNum := 500, applied := 499, openClose := 0xF } }
    (after (.setPaletteTaken 1 [0x01, 0xF5, 6, 1, 1, 1, 0x00, 0x20, 0x60]) (hears s)).ep.staging
      = [⟨.nextE, 1, some 6, .update (.setPalette ⟨1, 1, [0x002060]⟩)⟩] := by decide
theorem test_set_pane_taken :
    (after (.setPaneTaken 1 [0, 1, 6, 2, 0x20, 0x00, 0]) (hears (owns 2 1 ⟨0, 30⟩ (member 0 0xF)))).ep.staging.length = 1 := by decide
theorem test_put_cells_taken :
    (after (.putCellsTaken 1 [0, 1, 6, 2, 0, 30, 1, 0x58, 7]) (hears (owns 2 1 ⟨0, 30⟩ (member 0 0xF)))).ep.staging
      = [⟨.openE, 1, some 6, .update (.putCells ⟨2, 30, [⟨0x58, 7⟩]⟩)⟩] := by decide
theorem test_fill_taken_not_owner :
    (after (.fillTaken 1 [0, 1, 6, 2, 0, 1, 6, 0, 5, 8, 0x2D, 0x1E, 0, 1, 0xFF]) (hears (owns 2 3 ⟨0, 30⟩ (member 0 0xF)))).ep.staging
      = [] := by decide
theorem test_copy_taken_stale :
    (after (.copyTaken 1 [0, 2, 6, 2, 0, 0, 0, 0, 0, 2, 0, 1, 10]) (hears (owns 2 1 ⟨0, 30⟩ (member 0 0xF)))).ep.staging = [] := by decide
theorem test_snap_head_at_joiner :
    let t := after (.snapHeadTaken 0 [1, 0x01, 0x2E, 0, 1, 0, 1, 3, 1, 2, 3]) (watches (queued [⟨.join, 0⟩] (station 1 .requesting)))
    t.mb.state = .joining ∧ t.mb.joinQueue = [1, 2, 3] ∧ t.ep.openNum = 302 ∧ t.ep.applied = 301 ∧ t.tx.queue = [] := by decide

/-- A joiner of the transfer from station 0, its head taken. -/
def joiner : State :=
  let s := station 1 .joining
  { s with mb := { s.mb with roster := 1, joinQueue := [1], transfer := some ⟨1, 0, 0, true⟩, assembly := some ⟨1, 0, false⟩ } }

/-- R87, R180: a SNAP-HEAD out of its allowance at a joiner sets the assembly-fault flag, and another within it does nothing. -/
theorem test_snap_head_in_joining :
    (after (.snapHeadTaken 0 ([1, 0, 1, 0, 1, 0, 1, 16] ++ List.replicate 16 2)) (hears joiner)).mb.assembly = some ⟨1, 0, true⟩
    ∧ (after (.snapHeadTaken 0 [1, 0, 1, 0, 1, 0, 1, 0]) (hears joiner)).mb.assembly = some ⟨1, 0, false⟩ := by decide
theorem test_snap_pane :
    ((after (.snapPaneTaken 0 (paneRecord 2 ⟨.owned 0 ⟨0, 30⟩, displayDefaults⟩)) (hears joiner)).pane 2).control = .owned 0 ⟨0, 30⟩ := by
  decide
theorem test_snap_free : (after (.snapFreeTaken 0 [0, 0, 30, 0x01, 0xE2]) (hears joiner)).store.freeList = [⟨30, 482⟩] := by decide
theorem test_snap_free_out_of_order :
    (after (.snapFreeTaken 0 [1, 0, 30, 0x01, 0xE2]) (hears joiner)).mb.assembly = some ⟨2, 0, true⟩ := by decide
theorem test_snap_palette :
    ((after (.snapPaletteTaken 0 ([2, 8] ++ List.replicate 24 5)) (hears joiner)).palettes[1])[15] = 0x050505 := by decide
theorem test_snap_cells :
    readCell (after (.snapCellsTaken 0 [0x1F, 0xFF, 0x41, 0x1E]) (hears joiner)).store.cells 8191 = ⟨0x41, 0x1E⟩ := by decide
theorem test_snap_end_with_fault :
    let s : State := { joiner with mb := { joiner.mb with assembly := some ⟨587, 1, true⟩ } }
    (after (.snapEndTaken 0 [0x02, 0x4B, 0, 0]) (hears s)).tx.joinDone = some ⟨1, false, 0⟩ := by decide

/-! ### Rises, limits and timers -/

theorem test_rise_sampled : (after (.tlfRise true) (station 1 .listening)).link.riseSample = some true := by decide
theorem test_own_pull_hides_the_rise : (after (.tlfRise true) { member 0 1 with pins := ⟨false, false, true, true, false⟩ }).link.riseSample
    = none := by decide

/-- Section 3.10, rise C: the commit of 22 at station 3. -/
theorem test_commit :
    let e : Entry := ⟨.openE, 3, some 5, .update (.fill ⟨2, 0, 0, 1, 1, 0x20, 7, 0, 1, 0xFF⟩)⟩
    let s : State := { member 3 0x49 with
      link := { linkReset with state := .idle, riseSample := some true }
      ep := { epochsCleared with openNum := 22, applied := 21, openClose := 0x49, nextClose := 0x49, staging := [e] }
      tx := { transmitterEmpty with batches := [⟨5, true, true, false⟩] } }
    let t := after .tlfRiseEffects s
    t.ep.openNum = 23 ∧ t.ep.openClose = 0x49 ∧ t.ep.nextClose = 0 ∧ t.ep.applied = 21 ∧ t.pins.tlvLow = true
    ∧ t.ep.staging = [{ e with cls := .applying }] ∧ t.host.events = [⟨.batchCommitted, 23, 5, 0, 0⟩] := by decide
theorem test_rise_low_stalls :
    (after .tlfRiseEffects { member 0 0x3 with link := { linkReset with state := .idle, riseSample := some false } }).ep.stall = 1 := by decide
theorem test_stall_limit :
    let s : State := { member 0 0x3 with ep := { epochsCleared with stall := 16, openClose := 0x1 } }
    (after .stallLimit s).mb.roster = 0x1 ∧ (after .stallLimit s).host.events = [⟨.memberEvicted, 1, 1, 0, 0⟩] := by decide
theorem test_transfer_limit :
    let s : State := { member 0 0x1 with mb := { membershipCleared .member with
      roster := 1, joinQueue := [1, 2], transfer := some ⟨1, 0, 240, true⟩ } }
    (after .transferLimit s).mb.joinQueue = [2] ∧ (after .transferLimit s).mb.transfer = none := by decide
theorem test_exhausted_update :
    let s := queued [⟨.update 6 (.setPalette ⟨1, 1, [5]⟩), 8⟩, ⟨.leave, 0⟩] (member 0 1)
    (after .exhaustedUpdate s).tx.queue = [⟨.leave, 0⟩] ∧ (after .exhaustedUpdate s).host.events = [⟨.batchBroken, 1, 6, 0, 0⟩] := by decide
theorem test_exhausted_claim :
    (after .exhaustedRequest (queued [⟨.claim 2 30, 8⟩] (member 0 1))).host.events = [⟨.claimLost, 1, 8, 2, 0⟩] := by decide
theorem test_self_demotion :
    (after .selfDemotion { member 0 0x3 with tx := { transmitterEmpty with closeOpen := 8 } }).mb.state = .listening := by decide
theorem test_listen_expiry :
    let s : State := { station 4 .listening with mb := { membershipCleared .listening with listenTimer := some 500 } }
    (after .listenIntervalExpiry s).tx.queue = [⟨.found, 0⟩] ∧ (after .listenIntervalExpiry s).mb.state = .founding := by decide
theorem test_request_expiry :
    let s : State := { queued [⟨.join, 3⟩] (station 4 .requesting) with mb := { membershipCleared .requesting with
      requestTimer := some 2000, riseSeen := true } }
    (after .requestTimerExpiry s).tx.queue = [⟨.join, 0⟩] := by decide

/-! ### The apply pass: the worked example of section 6.10 -/

/-- Pane 4 of station 3, granules 60 and 61, pitch 10, row 0 holding A to J. -/
def pane4 : State :=
  let s := (member 3 0x8).setPane 4 ⟨.owned 3 ⟨60, 2⟩, { displayDefaults with pitch := 10, ext := some ⟨60, 2⟩ }⟩
  { s with store := ⟨writeCells [] 960 ((List.range 10).map fun i => ⟨byte (65 + i), 7⟩), []⟩ }

theorem test_apply_copy :
    let t := after .applyCopy (applying [.update (.copy ⟨4, 0, 0, 0, 2, 1, 10⟩)] pane4)
    (readCellRun t.store.cells 960 10).map Cell.char = [65, 66, 65, 66, 67, 68, 69, 70, 71, 72] := by decide
theorem test_apply_fill :
    let t := after .applyFill (applying [.update (.fill ⟨4, 1, 6, 5, 8, 0x2D, 0x1E, 0, 1, 0xFF⟩)] pane4)
    readCell t.store.cells 975 = ⟨0x20, 7⟩ ∧ readCell t.store.cells 976 = ⟨0x2D, 0x1E⟩ ∧ readCell t.store.cells 989 = ⟨0x2D, 0x1E⟩
    ∧ readCell t.store.cells 990 = ⟨0x20, 7⟩ := by decide

/-- Section 6.9: XOR of 8 into the foreground turns 7 into 15. -/
theorem test_fill_xor : fillCell ⟨0, 0, 0, 1, 1, 0x2D, 0x08, 3, 0, 0x0F⟩ ⟨0x20, 7⟩ = ⟨0x20, 0x0F⟩ := by decide
theorem test_apply_put_cells :
    let t := after .applyPutCells (applying [.update (.putCells ⟨4, 30, [⟨88, 7⟩, ⟨89, 7⟩, ⟨90, 7⟩]⟩)] pane4)
    readCell t.store.cells 991 = ⟨89, 7⟩ ∧ readCell t.store.cells 992 = ⟨0x20, 7⟩ := by decide
theorem test_apply_clear :
    let t := after .applyClear (applying [.clear 4 ⟨60, 2⟩] pane4)
    t.store.cells = [] ∧ (t.pane 4).display = { displayDefaults with ext := some ⟨60, 2⟩ } := by decide
theorem test_apply_set_pane :
    let a : SetPaneArgs := { fullFields 4 displayDefaults with col := none, width := some 120, visible := some 1 }
    let t := after .applySetPane (applying [.update (.setPane a)] pane4)
    (t.pane 4).display.width = 120 ∧ (t.pane 4).display.visible = true ∧ (t.pane 4).display.ext = some ⟨60, 2⟩ := by decide
theorem test_apply_set_palette :
    let t := after .applySetPalette (applying [.update (.setPalette ⟨1, 1, [0x002060]⟩)] pane4)
    (t.palettes[0])[1] = 0x002060 ∧ (t.palettes[1])[1] = 0x000080 := by decide
theorem test_apply_release : ((after .applyRelease (applying [.release 4] pane4)).pane 4).display = displayDefaults := by decide
theorem test_apply_pass_end :
    let s : State := { pane4 with ep := { epochsCleared with openNum := 2, pendingApply := true, passRunning := true, passDone := 1, staging :=
      [⟨.applying, 3, none, .release 4⟩, ⟨.openE, 3, none, .release 4⟩] } }
    (after .applyPassEnd s).ep.applied = 1 ∧ (after .applyPassEnd s).ep.staging.length = 1 := by decide

/-! ### The raster -/

theorem test_enter_front_locks :
    (after .enterFront (inRaster .active .following (member 0 1))).raster.sync = .locked
    ∧ (after .enterFront (inRaster .active .following (member 0 1))).pins.tlfLow = true
    ∧ (after .enterFront (inRaster .active .following (station 0 .listening))).raster.sync = .following := by decide
theorem test_front_end : (after .frontEnd (inRaster .front .locked (member 0 1))).raster.phase = some .sync := by decide
theorem test_sync_end : (after .syncEnd (inRaster .sync .locked (member 0 1))).raster.phase = some .hold := by decide

/-- A LOCKED member in HOLD that holds TLF. -/
def holds : State :=
  let s := inRaster .hold .locked (member 0 1)
  { s with raster := { s.raster with holding := true, pulled := true, riseRead := true }, pins := { s.pins with tlfLow := true } }

theorem test_tlf_release_floor :
    (after (.tlfRelease 5999) holds).pins.tlfLow = true ∧ (after (.tlfRelease 6000) holds).pins.tlfLow = false := by decide
theorem test_hold_line_end : (after (.holdLineEnd false) (inRaster .hold .following (station 0 .listening))).raster.waiting = true := by decide
theorem test_following_wait_limit :
    (after .followingWaitLimit (after (.holdLineEnd false) (inRaster .hold .following (station 0 .listening)))).raster.holdEnding = true := by
  decide
theorem test_frame_hold_limit : (after .frameHoldLimit (inRaster .hold .locked (member 0 1))).raster.sync = .freeRun := by decide
theorem test_back_end_phases :
    (after .backEnd { inRaster .back .locked (member 0 1) with ep := { epochsCleared with applied := 24 } }).raster.blinkOn = false
    ∧ (after .backEnd { inRaster .back .locked (member 0 1) with ep := { epochsCleared with applied := 24 } }).raster.cursorOn = false := by
  decide

/-- The worked example of section 7.4: panes 2, 5 and 8 of a tile at (40, 10). -/
def threePanes : State :=
  let s := inRaster .active .locked (member 0 1)
  let s : State := { s with raster := { s.raster with timing := some { tile with originCol := 40, originRow := 10 } } }
  let pane (c r : Half) (w h d p : Byte) (sr : Half) (e : Extent) : Pane := ⟨.owned 0 e, { displayDefaults with
    col := c, row := r, width := w, height := h, depth := d, pitch := p, scrollRow := sr, visible := true, ext := some e }⟩
  ((s.setPane 2 (pane 30 10 20 5 5 20 2 ⟨100, 5⟩)).setPane 5 (pane 45 12 30 3 5 32 0 ⟨200, 6⟩)).setPane 8 (pane 50 13 4 1 9 4 0 ⟨300, 1⟩)

theorem test_span_list : (after (.spanListBuild 3) threePanes).raster.spanList = [8, 2, 5] := by decide
theorem test_pane_on_top :
    let t := after (.spanListBuild 3) threePanes
    t.paneOnTop 49 = some 2 ∧ t.paneOnTop 50 = some 8 ∧ t.paneOnTop 54 = some 5 ∧ t.paneOnTop 75 = none := by decide

/-- The cell pane 2 shows at canvas (45, 13) is at offset 1635. -/
theorem test_cell_shown :
    let s : State := { threePanes with store := ⟨writeCells [] 1635 [⟨0x41, 0x1F⟩], []⟩ }
    s.cellShown (s.pane 2).display 3 15 = ⟨0x41, 0x1F⟩ := by decide

/-- R140: a removal within a line of ACTIVE marks the line; from the next line on, and after BACK, the background shows. -/
theorem test_cut_line :
    let s := (threePanes).unlock
    s.raster.sync = .following ∧ s.raster.lineRest = true ∧ (s.video true false 0 40).rgb = 0
    ∧ (after .enterFront s).raster.lineRest = false := by decide

/-- R137, R157: pixel 0 stands through PXCLK's rise, the next falling edge brings pixel 1, and the line of 700 pixel periods ends at the 700th. SYNC of 12
lines of 700. -/
theorem test_panel_line :
    let s := { inRaster .sync .locked (member 0 1) with raster := { (inRaster .sync .locked (member 0 1)).raster with timing := some { tile with hTotal := 700, hSyncStart := 1, hSyncEnd := 2, vSync := 12 } } }
    let hs (l : List Bool) := (s.panel false 0 l).map fun v => (v.pclk, v.hs)
    hs [] = some (false, true) ∧ hs [true] = some (true, true) ∧ hs [true, false] = some (false, false) ∧ hs [true, false, true, false] = some (false, true)
    ∧ ({ tile with hTotal := 700, vSync := 12 } : TileFields).phasePeriods .sync = some 8400
    ∧ ({ tile with hTotal := 700 } : TileFields).beam 1401 = (2, 1) := by decide
/-- R145: line 37 is scanline 5 of tile cell row 2. Row 3's list stands for lines 48 to 63 of the canvas, and for no other. -/
theorem test_tile_row :
    tileCellRow 37 = 2 ∧ scanlineOf 37 = 5 ∧ tileCellCol 79 = 9
    ∧ (let t := after (.spanListBuild 3) threePanes
      [47, 48, 63, 64].map (fun l => (t.panel false l []).isSome) = [false, true, true, false]) := by decide
theorem test_panel_line_end :
    let s := { inRaster .sync .locked (member 0 1) with raster := { (inRaster .sync .locked (member 0 1)).raster with timing := some { tile with hTotal := 3 } } }
    (s.panel false 0 [true, false, true, false]).isSome = true ∧ s.panel false 0 [true, false, true, false, true, false] = none := by decide

/-- A full block in font A shows its foreground, bank 0 entry 15. -/
theorem test_pixel :
    let s : State := { threePanes with store := ⟨writeCells [] 1635 [⟨0xFF, 0x1F⟩], []⟩ }
    s.panePixel 2 13 45 0 0 = 0xFFFFFF := by decide

/-- Section 6.5: first fit and coalescing. -/
theorem test_first_fit :
    firstFit 20 [⟨100, 50⟩, ⟨240, 272⟩] = some (100, [⟨120, 30⟩, ⟨240, 272⟩]) ∧ firstFit 300 [⟨120, 30⟩, ⟨240, 272⟩] = none := by decide
theorem test_return :
    returnExtent ⟨150, 30⟩ [⟨120, 30⟩, ⟨240, 272⟩] = [⟨120, 60⟩, ⟨240, 272⟩]
    ∧ returnExtent ⟨180, 60⟩ [⟨120, 60⟩, ⟨240, 272⟩] = [⟨120, 392⟩] := by decide

/-! ### Witnesses: a state and operands that meet the hypotheses of each statement, clause by clause -/

theorem hears_admitted (s : State) (h : s.link.slot = .pending) : (hears s).admitted := ⟨rfl, rfl, h, _, rfl, rfl⟩
theorem watches_observing (s : State) (h : s.link.slot = .pending) (h' : s.link.decision = none) : (watches s).observing := ⟨rfl, rfl, h, h'⟩
theorem sends_sendingOwn (c : Candidate) (s : State) (h : s.link.slot = .pending) (h' : s.link.disconnect = .no) :
    (sends c s).sendingOwn c := ⟨rfl, rfl, h, h', ⟨_, rfl, rfl⟩, _, rfl, rfl, rfl⟩

/-- The members of fieldsSound as one check. -/
def fieldsCheck (s : State) : Bool :=
  ((List.finRange 32).all fun i => (fullFields (byte i.val) (s.pane i).display).inRange && (s.pane i).display.ext.all Extent.inStore)
  && s.allExtents.all Extent.inRange
  && (s.ep.staging.all fun x => x.op.inRange)
  && (s.tx.queue.all fun q => q.request.inRange)
  && s.raster.config.all TileFields.inRange && s.raster.timing.all TileFields.inRange
  && s.mb.snapPos.all SnapPos.inRange

theorem fieldsSound_of (s : State) (h : fieldsCheck s = true) : s.fieldsSound := by
  simp only [fieldsCheck, Bool.and_eq_true, List.all_eq_true, List.mem_finRange, true_implies] at h
  obtain ⟨⟨⟨⟨⟨⟨hd, he⟩, hs⟩, hq⟩, hc⟩, ht⟩, hk⟩ := h
  refine ⟨fun i => (hd i).1, he, ⟨fun i e hi => ?_, fun x hx p e hp => ?_⟩, hs, hq, fun f hf => ?_, fun f hf => ?_, fun k hs => ?_⟩
  · have := (hd i).2; rw [hi] at this; exact this
  · have := hs x hx; rw [hp] at this; exact (Bool.and_eq_true _ _ ▸ this).2
  · rw [hf] at hc; exact hc
  · rw [hf] at ht; exact ht
  · rw [hs] at hk; exact hk

/-- The founder of a group, between packets, with a command waiting. -/
def founder (c : Instr) : State :=
  { member 3 0x8 with pending := [c] }

theorem witness_StepRunsFrontCommand : State.reset.pending = [] := rfl
theorem witness_CommandsLeaveTheQueue : exec .enterFront (founder .enterFront) = .next (after .enterFront (founder .enterFront)) := rfl
theorem witness_EveryCommandCompletes : threePanes.extentsInStore := (fieldsSound_of threePanes (by decide)).2.2.1
theorem witness_step : ∃ t, step (founder .enterFront) = .next t := ⟨_, rfl⟩
theorem memorySound_of (s : State) (m : Memory) (h : s.raster = { rasterReset with fontB := m, fontDigest := fontDigestOf m })
    (hc : s.store.cells.cellsWf = true) (hf : m.fontWf = true) : s.memorySound := by
  refine ⟨hc, ?_, ?_⟩ <;> rw [h]
  exact hf
theorem witness_StepKeepsMemory :
    ∃ s : State, s.memorySound ∧ s.store.cells = writeCells [] 8191 [⟨0x41, 7⟩] ∧ s.raster.fontB = [(0, 0x3C)] :=
  ⟨{ State.reset with
      store := ⟨writeCells [] 8191 [⟨0x41, 7⟩], []⟩
      raster := { rasterReset with fontB := [(0, 0x3C)], fontDigest := fontDigestOf [(0, 0x3C)] } },
   memorySound_of _ [(0, 0x3C)] rfl (by decide) (by decide), rfl, rfl⟩
theorem witness_StepKeepsDrivers : (founder .enterFront).driversSound := by unfold State.driversSound; decide
theorem witness_StepKeepsLink : (founder .startSeen).linkSound := by unfold State.linkSound; decide
theorem witness_StepKeepsCloseSets : (founder .startSeen).closeSetsNested := by unfold State.closeSetsNested; decide
theorem witness_StepKeepsEpochs : (founder .enterFront).driversSound ∧ (founder .enterFront).epochsSound := by
  unfold State.driversSound State.epochsSound; decide
theorem allExtents_founder : (founder .startSeen).allExtents = [⟨0, 512⟩] := by decide
theorem witness_StepKeepsGranuleAccount : (founder .startSeen).isMember = true ∧ (founder .startSeen).accountSound := by
  refine ⟨by decide, ?_, by decide, fun g hg => ?_⟩
  · rw [allExtents_founder]; decide
  · have : g < 512 := hg
    simp [allExtents_founder, Extent.covers, this]
theorem witness_StepKeepsFieldsInRange :
    (founder .startSeen).fieldsSound
    ∧ (queued [⟨.claim 31 512, 0⟩, ⟨.handover 31 15, 0⟩, ⟨.release 31, 0⟩]
        { founder .startSeen with mb := { (founder .startSeen).mb with snapPos := some (.cells 546) } }).fieldsSound :=
  ⟨fieldsSound_of _ (by decide), fieldsSound_of _ (by decide)⟩
/-- R85, R170: a pane, a count or a target past its range is out of the bound. -/
theorem test_fields_out_of_range :
    (Request.claim 32 1).inRange = false ∧ (Request.claim 0 513).inRange = false ∧ (Request.handover 0 16).inRange = false
    ∧ (EntryOp.release 32).inRange = false ∧ (SnapPos.pane 32).inRange = false ∧ (SnapPos.palette 6).inRange = false := by decide
theorem witness_StepKeepsRosterAndJoinQueue :
    (founder .startSeen).rosterSound ∧ joiner.rosterSound ∧ (founder .startSeen).joinQueueSound :=
  ⟨⟨fun _ => by decide, fun h => absurd h (by decide)⟩, ⟨fun h => absurd h (by decide), fun _ => ⟨_, rfl, rfl⟩⟩,
   ⟨List.nodup_nil, fun _ h => absurd h List.not_mem_nil, fun _ h => by cases h⟩⟩
theorem witness_StepKeepsCapacities : (founder .startSeen).countsSound := by
  refine ⟨by decide, by decide, by decide, by decide, by decide, by decide, by decide, by decide, fun _ h => by cases h⟩
theorem witness_StepKeepsCapacities_holdPoint :
    let s : State := { member 7 0x85 with link := { linkReset with state := .receiving, role := some .evaluator } }
    let rx := Packet.received ⟨0, 2, 5, [31, 0x02, 0x00]⟩
    s.isMember = true ∧ s.packetInProgress = true ∧ s.link.slot = .pending ∧ s.link.decision = none ∧ s.ep.gatheringCount ≤ 256
    ∧ rx.kind? = some .claim ∧ exec (.holdPoint rx) s = .next (after (.holdPoint rx) s)
    ∧ entriesAdded .claim rx.payload ≤ 1 ∧ exec (.claimTaken 2 rx.payload) (hears s) = .next (after (.claimTaken 2 rx.payload) (hears s)) :=
  ⟨by decide, by decide, by decide, by decide, by decide, by decide, rfl, by decide, rfl⟩

set_option maxRecDepth 20000 in
theorem witness_UpdatePayloadReadsBack :
    (Update.putCells ⟨0, 0, List.replicate 255 ⟨0, 0⟩⟩).countFits ∧ (Update.setPalette ⟨0, 0, List.replicate 255 0⟩).countFits := by
  unfold Update.countFits; decide
theorem witness_PaneRecordReadsBack : (fullFields (byte 31) displayDefaults).inRange = true ∧ (⟨511, 1⟩ : Extent).inRange = true := by decide
theorem witness_SnapshotReadsBack :
    (after (.claimTaken 3 [0, 0, 30]) (hears (member 3 0x8))).store.freeList = [⟨30, 482⟩]
    ∧ joiner.mb.transfer = some ⟨1, 0, 0, true⟩ ∧ joiner.mb.joinQueue.length ≤ 15
    ∧ (fullFields (byte 31) ((owns 31 3 ⟨511, 1⟩ (member 3 0x8)).pane 31).display).inRange = true
    ∧ ((owns 31 3 ⟨511, 1⟩ (member 3 0x8)).pane 31).control.extent? = some ⟨511, 1⟩ := by decide
theorem witness_PacketBitsAndCheck : (⟨3, 0, 4, List.replicate 32 0⟩ : Packet).payload.length ≤ 32
    ∧ (sends (.close 1) (member 0 1)).link.state = .transmitting ∧ (sends (.close 1) (member 0 1)).tx.attempt.isSome = true
    ∧ (sends (.close 1) (member 0 1)).link.decision = some ⟨false, false⟩
    ∧ (hears (member 0 1)).link.state ≠ .transmitting ∧ (hears (member 0 1)).tx.attempt = none
    ∧ 0 + 1 < (⟨0, 5, 4, []⟩ : Packet).bits.length ∧ 31 + 1 = (⟨0, 5, 4, []⟩ : Packet).bits.length
    ∧ (watches (station 4 .listening)).link.role ≠ some .evaluator ∧ (watches (station 4 .listening)).link.decision = none
    ∧ (⟨3, 0, 4, List.replicate 63 0⟩ : Packet).payload.length ≤ 63 ∧ (member 0 1).link.state ≠ .transmitting
    ∧ (member 0 1).link.state ≠ .receiving := by decide
theorem witness_PacketBitsAndCheck_hold :
    ({ hears (member 0 1) with link := { (hears (member 0 1)).link with decision := none } } : State).link.role = some .evaluator := by decide
theorem witness_OfferedPacketIsAdmitted :
    let s := queued [⟨.claim 0 30, 0⟩] { member 3 0x8 with ep := { epochsCleared with openClose := 0x8 } }
    s.isMember = true ∧ s.offer = some .queueHead ∧ s.fieldsSound ∧ s.rosterSound ∧ s.joinQueueSound :=
  ⟨by decide, by decide, fieldsSound_of _ (by decide), ⟨fun _ => by decide, fun h => absurd h (by decide)⟩,
   ⟨List.nodup_nil, fun _ h => absurd h List.not_mem_nil, fun _ h => by cases h⟩⟩
theorem witness_OfferedPacketIsAdmitted_retract :
    let s : State := { member 3 0x8 with tx := { transmitterEmpty with retracts := [⟨6, 0⟩] }, ep := { epochsCleared with openClose := 0x8 } }
    s.offer = some .retract ∧ s.ep.current s.stationId = some .nextE ∧ s.fieldsSound ∧ s.isMember = true :=
  ⟨by decide, by decide, fieldsSound_of _ (by decide), by decide⟩

/-! The Host Port -/

theorem witness_Resets : (atHost (member 0 1)).host.spi = .command ∧ (after .reset (atHost (member 0 1))).host.resetWaiting = true
    ∧ (after .reset (atHost (member 0 1))).raster.config.isSome = true
    ∧ (after .reset (atHost (member 0 1))).raster.phase.isSome = true := by decide
theorem witness_TransactionPhases : (member 0 1).host.spi = .idle ∧ (atHost (member 0 1)).host.spi = .command
    ∧ (after .reset (atHost (member 0 1))).host.spi = .response ∧ namesNoCommand 0x00 = true
    ∧ mosiCommand [true] = none ∧ mosiCommand (byteBits 0x05) = some .reset := by decide
theorem witness_ConfigureCommand : (atHost (member 0 1)).mb.state ≠ .offline ∧ (atHost (station 0 .offline)).mb.state = .offline
    ∧ { tile with hTotal := 671 }.inRange = false ∧ { tile with hTotal := 752, hSyncEnd := 752 }.inRange = true := by decide
theorem witness_LoadFontCommand : (atHost (station 0 .offline)).raster.fontB.fontWf = true := by decide
theorem witness_GoOnlineCommand : (atHost State.reset).raster.config = none ∧ (atHost State.reset).mb.state = .offline
    ∧ (atHost (station 0 .offline)).raster.config = some tile ∧ (atHost (station 0 .denied)).mb.state ≠ .offline := by decide
theorem witness_GoOfflineOutsider :
    (atHost (station 0 .offline)).mb.state = .offline ∧ (atHost joiner).mb.state = .joining ∧ (atHost joiner).link.state ≠ .transmitting
    ∧ (after (.startCondition 1) (queued [⟨.join, 0⟩] (station 0 .requesting))).link.state = .transmitting := by decide
theorem witness_GoOfflineMember :
    let full := atHost (queued (List.replicate 48 ⟨.release 0, 0⟩) (member 0 1))
    let open_ : State := { queued (List.replicate 47 ⟨.release 0, 0⟩) (atHost (member 0 1)) with
      host := { (atHost (member 0 1)).host with batch := .opened 6 0 } }
    full.mb.leaveRequested = false ∧ 48 ≤ full.tx.queue.length ∧ full.host.batch = .none
    ∧ (after .goOffline (atHost (member 0 1))).mb.leaveRequested = true
    ∧ open_.host.batch = .opened 6 0 ∧ open_.tx.queue.length < 48 ∧ open_.host.events.length < 32
    ∧ (let own : State := queued (List.replicate 47 ⟨.release 0, 0⟩ ++ [⟨.update 6 (.setPalette ⟨1, 1, [5]⟩), 0⟩]) open_
      48 ≤ own.tx.queue.length ∧ (∃ q ∈ own.tx.queue, q.request.tag? = some 6) ∧ (after .goOffline own).tx.queue.length = 48)
    ∧ ({ open_ with host := { open_.host with batch := .broken 6 3 } } : State).host.batch = .broken 6 3 := by decide

/-- A member at the instant of evaluation with a host batch state. -/
def withBatch (b : BatchState) : State :=
  let s := atHost (member 0 1)
  { s with host := { s.host with batch := b } }

theorem takesWork_withBatch (b : BatchState) : (withBatch b).takesWork := ⟨rfl, rfl, rfl⟩
theorem witness_HostBatchCommands :
    (withBatch (.opened 6 3)).host.batch = .opened 6 3 ∧ (withBatch (.broken 6 3)).host.batch = .broken 6 3
    ∧ (withBatch .none).freeTag = some 0
    ∧ ({ withBatch .none with tx := { transmitterEmpty with batches := allTags.map fun t => ⟨t, true, false, false⟩ } } : State).freeTag = none := by
  decide
theorem witness_UpdateCommands :
    let u : Update := .setPalette ⟨1, 8, [0, 0, 0, 0, 0, 0, 0, 0]⟩
    let v : Update := .fill ⟨31, 8191, 254, 8192, 255, 0, 0, 3, 1, 0⟩
    u.inRange = true ∧ u.pane? = none ∧ v.inRange = true ∧ v.pane? = some 31
    ∧ ownedBy ((withBatch .none).pane (paneIx 31)) 0 = false ∧ ownedBy ((owns 31 0 ⟨0, 1⟩ (withBatch .none)).pane (paneIx 31)) 0 = true
    ∧ (Update.setPalette ⟨1, 9, [0, 0, 0, 0, 0, 0, 0, 0]⟩).inRange = false
    ∧ (withBatch (.opened 6 40)).host.batch = .opened 6 40
    ∧ (queued (List.replicate 48 ⟨.release 0, 0⟩) (withBatch (.opened 6 39))).tx.queue.length = 48
    ∧ (queued (List.replicate 47 ⟨.release 0, 0⟩) (withBatch .none)).freeTag = some 0 := by decide
theorem witness_PaneRequestsAndModeTest :
    (31 : Byte).toNat ≤ 31 ∧ (512 : Half).toNat ≤ 512 ∧ (15 : Byte).toNat ≤ 15 ∧ (atHost joiner).mb.state ≠ .member
    ∧ (after .transactionStart (after .transactionEnd (after .goOffline (atHost (member 0 1))))).mb.leaveRequested = true
    ∧ (after .transactionStart (after .transactionEnd (after .goOffline (atHost (member 0 1))))).host.spi = .command := by decide
theorem witness_ReadCommands : (withBatch (.opened 6 3)).host.spi = .command ∧ (withBatch (.broken 6 40)).host.batch = .broken 6 40 ∧ (withBatch .none).host.batch = .none
    ∧ (8128 : Half).toNat + (64 : Byte).toNat ≤ 8192 ∧ (atHost joiner).mb.transfer = some ⟨1, 0, 0, true⟩ := by decide
theorem witness_EventQueue :
    let s : State := { member 6 0x40 with host := { hostReset with
      spi := .response, headRead := true, events := List.replicate 32 ⟨.joined, 1, 0, 0, 0⟩, lost := 3 } }
    s.host.events = ⟨.joined, 1, 0, 0, 0⟩ :: List.replicate 31 ⟨.joined, 1, 0, 0, 0⟩ ∧ 0 < s.host.lost ∧ 32 ≤ s.host.events.length
    ∧ (atHost (member 0 1)).host.events = [] := by decide

/-! The link -/

theorem witness_StartCondition :
    let s := queued [⟨.leave, 0⟩] (member 5 0x220)
    s.offer = some (.close 1) ∧ s.link.state = .idle ∧ s.pins.tlfLow = false ∧ (station 0 .listening).offer = none
    ∧ (queued [⟨.found, 0⟩] (station 0 .founding)).offer = some .queueHead := by decide

/-- R32: with every candidate there, the order of the choice; each state drops the first of the one before. -/
theorem test_choice_order :
    let m := queued [⟨.handover 0 1, 0⟩] (member 0 0x3)
    let a : State := { m with tx := { m.tx with retracts := [⟨6, 0⟩], denials := [⟨9, .font, 0⟩] } }
    let b : State := { m with tx := { m.tx with denials := [⟨9, .font, 0⟩] } }
    let d : State := { m with ep := { m.ep with openClose := 0x1 } }
    let e : State := { d with ep := { d.ep with nextClose := 0x1 } }
    let f : State := { e with mb := { e.mb with transfer := some ⟨9, 0, 0, false⟩, snapPos := some .head } }
    let j : State := { joiner with tx := { joiner.tx with joinDone := some ⟨1, true, 0⟩ } }
    a.offer = some .retract ∧ b.offer = some .joinDeny ∧ j.offer = some .joinDone ∧ m.offer = some (.close 1) ∧ d.offer = some (.close 2)
    ∧ e.offer = some .queueHead ∧ f.offer = some .snapshot
    ∧ ({ f with ep := { f.ep with pendingApply := true } } : State).offer = none
    ∧ (queued [⟨.claim 0 0, 0⟩] e).offer = none ∧ (queued [⟨.handover 0 1, 8⟩] e).offer = none := by decide
theorem witness_PacketContents_internal :
    let j : State := { joiner with tx := { joiner.tx with joinDone := some ⟨1, true, 0⟩ } }
    j.tx.queue = [] ∧ j.formPacket .joinDone = ⟨0, 1, 3, [0, 1, 0]⟩ ∧ (member 5 0x220).tx.queue = []
    ∧ (member 5 0x220).formPacket (.close 1) = ⟨1, 5, 0, [0, 1]⟩
    ∧ ({ member 0 1 with mb := { (member 0 1).mb with snapPos := some .head } } : State).mb.snapPos = some .head := by decide
theorem witness_PacketContents : (queued [⟨.update 6 (.setPalette ⟨1, 1, [5]⟩), 0⟩] (member 5 0x220)).tx.queue
    = [⟨.update 6 (.setPalette ⟨1, 1, [5]⟩), 0⟩] := rfl
theorem witness_LinkMoves :
    let s : State := { member 7 0x85 with link := { linkReset with state := .waitFree, fairWait := true, freeBus := 8 } }
    s.link.state = .waitFree ∧ (if s.link.fairWait then 16 else 8) ≤ s.link.freeBus + 8
    ∧ s.link.freeBus + 7 < (if s.link.fairWait then 16 else 8) ∧ (member 7 0x85).link.state = .idle
    ∧ ({ s with link := { s.link with state := .recovery } } : State).link.state = .recovery := by decide
theorem witness_HoldPoint :
    let s : State := { member 7 0x85 with link := { linkReset with state := .receiving, role := some .evaluator } }
    s.link.slot = .pending ∧ s.link.decision = none ∧ s.mb.state = .member ∧ joiner.mb.state ≠ .member
    ∧ (watches (station 9 .requesting)).link.role = some .observer ∧ (watches (station 9 .requesting)).link.slot = .pending := by decide
theorem witness_RefusedAndLostAttempts :
    let s := sends .queueHead (queued [⟨.leave, 7⟩] (member 2 0x85))
    let o := after (.startCondition 1) (queued [⟨.found, 0⟩] (station 9 .founding))
    let r : State := { s with link := { s.link with decision := some ⟨true, true⟩ } }
    s.link.slot = .pending ∧ s.link.role = some .evaluator ∧ s.link.decision = some ⟨false, false⟩ ∧ s.tx.queue = [⟨.leave, 7⟩]
    ∧ r.mb.state = .member ∧ r.link.decision = some ⟨true, true⟩ ∧ o.link.role = some .observer ∧ o.link.decision = none
    ∧ o.tx.attempt.map (fun a => (a.cand, a.live, a.packet.bits[2]?, a.packet.bits[3]?)) = some (.queueHead, true, some true, some false)
    ∧ (sends (.close 1) (member 2 0x85)).tx.attempt.map (fun a => (a.cand, a.live)) = some (.close 1, true)
    ∧ (after .packetRefused (sends (.close 2) (member 2 0x85))).tx.closeNext = 1
    ∧ (after .packetRefused (sends .snapshot (member 2 0x85))).tx.snapRefusals = 1
    ∧ (after .packetRefused (sends .joinDone { joiner with tx := { joiner.tx with joinDone := some ⟨1, true, 7⟩ } })).tx.joinDone
      = some ⟨1, true, 8⟩
    ∧ (after .packetRefused (sends .retract { member 2 0x85 with tx := { transmitterEmpty with retracts := [⟨6, 7⟩] } })).tx.retracts = [⟨6, 8⟩]
    ∧ (after .packetRefused (sends .joinDeny { member 2 0x84 with tx := { transmitterEmpty with denials := [⟨9, .font, 0⟩] } })).tx.denials
      = [⟨9, .font, 1⟩]
    ∧ (after .goOffline (atHost o)).tx.attempt.map (fun a => a.live) = some false
    ∧ (after .goOffline (atHost o)).link.disconnect = .wanted
    ∧ (hears (member 2 0x85)).link.decision ≠ none ∧ (watches (station 9 .listening)).link.state = .receiving := by decide
theorem witness_PacketEnds_cancelled :
    let w := after .goOffline (atHost (after (.startCondition 1) (queued [⟨.join, 0⟩] (station 9 .requesting))))
    let s := after .goOnline (atHost w)
    s.link.state = .transmitting ∧ s.link.disconnect = .cancelled ∧ s.link.slot = .pending ∧ s.tx.attempt.all (fun a => !a.live) = true
    ∧ s.host.events.length < 32 ∧ (after .stopCondition s).link.state = .waitFree := by decide
theorem witness_PacketEnds :
    let s := sends .queueHead (queued [⟨.leave, 7⟩] (member 2 0x85))
    let w := after .goOffline (atHost (after (.startCondition 1) (queued [⟨.join, 0⟩] (station 9 .requesting))))
    (hears (member 2 0x85)).link.state = .receiving ∧ (hears (member 2 0x85)).link.disconnect = .no
    ∧ s.link.state = .transmitting ∧ s.link.disconnect = .no ∧ s.link.slot = .pending ∧ (after .packetRefused s).link.slot ≠ .pending
    ∧ w.link.state = .transmitting ∧ w.link.disconnect = .wanted ∧ w.tx.attempt.all (fun a => !a.live) = true
    ∧ s.host.events.length < 32 := by decide

/-! Membership -/

/-- An outsider between packets with a rise to take. -/
def risen (s : State) (b : Bool) : State := { s with link := { s.link with riseSample := some b } }

theorem witness_EvidenceOfAGroup :
    (watches (station 4 .listening)).tx.attempt = none ∧ (watches (station 4 .listening)).observing
    ∧ (station 4 .founding).mb.foundBegun = false ∧ (risen (station 4 .listening) true).link.riseSample = some true
    ∧ (risen (station 4 .listening) true).quiet
    ∧ (after .stopCondition (after .packetRefused (after (.startCondition 1) (queued [⟨.found, 0⟩] (station 9 .founding))))).mb.foundBegun = true :=
  ⟨rfl, watches_observing _ rfl rfl, rfl, rfl, ⟨by decide, by decide⟩, by decide⟩
set_option maxRecDepth 20000 in
theorem witness_ObserverReceipt :
    (watches (station 9 .requesting)).observing
    ∧ (Packet.received ⟨1, 2, 0, [0, 1]⟩).checkOk = true ∧ (Packet.received ⟨1, 2, 0, [0, 1]⟩).lengthOk = true
    ∧ (Packet.received ⟨1, 2, 0, [0, 1]⟩).kind? = some .close ∧ 33 ≤ (⟨1, 2, 0, 33, [], 0⟩ : RxPacket).length.toNat
    ∧ readSnapHead [9, 0, 1, 0, 1, 0, 1, 1, 9] = some ⟨9, 1, 1, 1, [9]⟩ ∧ (9 : Byte) = idByte 9 :=
  ⟨watches_observing _ rfl rfl, by decide, by decide, by decide, by decide, by decide, by decide⟩
theorem witness_ObserverReceipt_others : (watches (station 9 .requesting)).observing ∧ Kind.snapCells ≠ .found ∧ Kind.snapCells ≠ .close
    ∧ Kind.snapCells ≠ .joinDeny ∧ Kind.snapCells ≠ .snapHead :=
  ⟨watches_observing _ rfl rfl, by decide, by decide, by decide, by decide⟩
theorem witness_OwnFound :
    let s := after (.startCondition 1) (queued [⟨.found, 0⟩] (station 9 .founding))
    s.link.state = .transmitting ∧ s.link.role = some .observer ∧ s.link.slot = .pending ∧ s.link.decision = none ∧ s.link.disconnect = .no
    ∧ s.mb.state = .founding ∧ s.tx.attempt = some ⟨.queueHead, ⟨0, 9, 0, [0x12, 0x34, 1]⟩, true⟩ ∧ s.mb.groupSeen = false
    ∧ s.host.events.length < 32 := by decide
theorem witness_JoinDelivery :
    let s := hears (member 3 0x08)
    s.admitted ∧ s.mb.state = .member ∧ idIn 3 s.mb.roster = true ∧ idIn 9 s.mb.roster = false ∧ s.isLowest = true
    ∧ s.tx.denials.length < 16 ∧ s.raster.fontDigest = 0x1234 ∧ (9 : StationId) ∉ s.mb.joinQueue ∧ joiner.mb.joinQueue = [1] :=
  ⟨hears_admitted _ rfl, rfl, by decide, by decide, by decide, by decide, rfl, by decide, rfl⟩
theorem witness_JoinDelivery_join :
    let s := after (.startCondition 1) (queued [⟨.join, 0⟩] (station 9 .requesting))
    (s.link.state = .transmitting ∧ s.link.role = some .observer ∧ s.link.slot = .pending ∧ s.link.decision = none ∧ s.link.disconnect = .no)
    ∧ s.tx.attempt = some ⟨.queueHead, ⟨0, 9, 1, [0x12, 0x34, 1]⟩, true⟩ ∧ (after (.joinTaken 9 [0x12, 0x34, 1]) s).tx.queue = []
    ∧ (⟨0, 9, 1, 3, [0x12, 0x34, 1], 0⟩ : RxPacket).kind? = some .join := by decide
theorem witness_JoinDelivery_own :
    let s : State := { member 3 0x8 with tx := { transmitterEmpty with denials := [⟨9, .font, 0⟩] } }
    (sends .joinDeny s).sendingOwn .joinDeny ∧ s.mb.state = .member ∧ s.tx.denials = [⟨9, .font, 0⟩] :=
  ⟨sends_sendingOwn _ _ rfl rfl, rfl, rfl⟩
theorem witness_JoinDoneDelivery :
    let s : State := { joiner with stationId := 0, mb := { joiner.mb with state := .member } }
    (hears s).admitted ∧ (hears s).mb.state = .member ∧ s.mb.transfer = some ⟨1, 0, 0, true⟩ ∧ s.ep.openNum = 1
    ∧ (sends .joinDone joiner).sendingOwn .joinDone ∧ joiner.mb.state = .joining ∧ joiner.stationId = 1 ∧ joiner.host.events.length < 32 :=
  ⟨hears_admitted _ rfl, rfl, rfl, rfl, sends_sendingOwn _ _ rfl rfl, rfl, rfl, by decide⟩
theorem witness_JoinDoneDelivery_none :
    (hears (member 3 0x8)).admitted ∧ (hears (member 3 0x8)).mb.transfer = none ∧ 2 ≤ (2 : Byte).toNat :=
  ⟨hears_admitted _ rfl, rfl, by decide⟩
/-- R22: the joiner's host takes it offline while its JOIN-DONE is on the line. -/
theorem witness_JoinDoneDelivery_status : (sends .joinDone joiner).sendingOwn .joinDone ∧ 2 ≤ (255 : Byte).toNat :=
  ⟨sends_sendingOwn _ _ rfl rfl, by decide⟩
/-- R180: status 2 names no value, and the transfer stands. -/
theorem test_join_done_status :
    let s : State := { joiner with stationId := 0, mb := { joiner.mb with state := .member } }
    (after (.joinDoneTaken 1 [0, 1, 2]) (hears s)).mb.transfer = some ⟨1, 0, 0, true⟩
    ∧ (after (.joinDoneTaken 1 [0, 1, 1]) (hears s)).mb.transfer = none := by decide
theorem witness_JoinDoneDelivery_left :
    let s := after .goOffline (atHost (sends .joinDone joiner))
    s.link.state = .transmitting ∧ s.link.role = some .evaluator ∧ s.link.slot = .pending ∧ s.link.decision = some ⟨false, false⟩
    ∧ s.mb.state ≠ .member ∧ s.mb.state ≠ .joining ∧ s.tx.attempt.map (·.live) = some false := by decide
theorem witness_LeaveDelivery :
    let s := owns 2 7 ⟨0, 30⟩ (member 2 0x85)
    (hears s).admitted ∧ idIn 7 s.mb.roster = true ∧ (7 : StationId) ≠ s.stationId ∧ s.host.events.length < 32
    ∧ (sends .queueHead (queued [⟨.leave, 0⟩] (member 2 0x84))).sendingOwn .queueHead ∧ idIn 2 (member 2 0x84).mb.roster = true :=
  ⟨hears_admitted _ rfl, by decide, by decide, by decide, sends_sendingOwn _ _ rfl rfl, by decide⟩
theorem witness_ForeignTraffic :
    (hears (member 3 0x8)).admitted ∧ idIn 9 (member 3 0x8).mb.roster = false ∧ lengthAllowed .close [0, 1] = true
    ∧ lengthAllowed .setPane [0, 1, 6, 2, 0, 0] = true ∧ (hears (member 3 0x8)).mb.foreignCount = 16
    ∧ (after (.closeTaken 9 [0, 1]) (hears (member 3 0x8))).mb.foreignCount < 16 ∧ (hears joiner).admitted :=
  ⟨hears_admitted _ rfl, by decide, by decide, by decide, by decide, by decide, hears_admitted _ rfl⟩

/-! Panes and updates -/

theorem witness_ClaimDelivery :
    let s := member 3 0x8
    (hears s).admitted ∧ (sends .queueHead s).sendingOwn .queueHead ∧ idIn 3 s.mb.roster = true ∧ s.ep.current 3 = some .openE
    ∧ (s.pane (paneIx 31)).control = .free ∧ firstFit 512 s.store.freeList = some (0, []) ∧ firstFit 1 [] = none
    ∧ ({ s with ep := { s.ep with openClose := 0x8, nextClose := 0x8 } } : State).ep.current 3 = none
    ∧ (32 : Byte).toNat > 31 ∧ (513 : Half).toNat > 512 :=
  ⟨hears_admitted _ rfl, sends_sendingOwn _ _ rfl rfl, by decide, by decide, by decide, by decide, by decide, by decide, by decide, by decide⟩
theorem witness_HandoverAndRelease :
    let s := owns 31 3 ⟨0, 30⟩ (member 3 0x8008)
    (hears s).admitted ∧ (sends .queueHead s).sendingOwn .queueHead ∧ idIn 3 s.mb.roster = true ∧ ownedBy (s.pane (paneIx 31)) 3 = true
    ∧ idOfByte 15 = some 15 ∧ idIn 15 s.mb.roster = true ∧ idIn 14 s.mb.roster = false ∧ s.ep.current 3 = some .openE
    ∧ s.ep.numberOf .openE = 1 ∧ ownedBy (s.pane (paneIx 30)) 3 = false ∧ (hears (owns 31 1 ⟨0, 30⟩ (member 3 0xA))).stationId = 3 :=
  ⟨hears_admitted _ rfl, sends_sendingOwn _ _ rfl rfl, by decide, by decide, by decide, by decide, by decide, by decide, by decide, by decide, rfl⟩
theorem witness_CloseAndRetract :
    let s := member 3 0xA
    let c : State := { s with ep := { s.ep with openClose := 0x8 } }
    let r : State := { s with tx := { s.tx with retracts := [⟨6, 0⟩] } }
    (hears s).admitted ∧ idIn 3 s.mb.roster = true ∧ idIn 3 s.ep.openClose = false ∧ idIn 3 c.ep.openClose = true
    ∧ idIn 3 c.ep.nextClose = false ∧ (sends (.close 1) s).sendingOwn (.close 1) ∧ (sends (.close 2) c).sendingOwn (.close 2)
    ∧ (sends .retract r).sendingOwn .retract ∧ r.tx.retracts = [⟨6, 0⟩] :=
  ⟨hears_admitted _ rfl, by decide, by decide, by decide, by decide, sends_sendingOwn _ _ rfl rfl, sends_sendingOwn _ _ rfl rfl,
   sends_sendingOwn _ _ rfl rfl, rfl⟩
theorem witness_UpdateDelivery :
    let s := owns 31 3 ⟨0, 30⟩ (member 3 0x8)
    let u : Update := .fill ⟨31, 8191, 254, 8192, 255, 0, 0, 3, 1, 0⟩
    u.countFits ∧ idIn 3 s.mb.roster = true ∧ (hears s).admitted ∧ (sends .queueHead s).sendingOwn .queueHead ∧ u.inRange = true
    ∧ ownedBy (s.pane (paneIx 31)) 3 = true ∧ s.ep.current 3 = some .openE ∧ (Update.fill ⟨31, 0, 0, 0, 1, 0, 0, 0, 0, 0⟩).inRange = false
    ∧ ownedBy (s.pane (paneIx 30)) 3 = false :=
  ⟨trivial, by decide, hears_admitted _ rfl, sends_sendingOwn _ _ rfl rfl, by decide, by decide, by decide, by decide, by decide⟩
theorem witness_UpdateDelivery_dropped :
    let d (s : State) : State := { s with tx := { s.tx with attempt := s.tx.attempt.map fun a => { a with live := false } } }
    let s := d (sends .queueHead (owns 31 3 ⟨0, 30⟩ (member 3 0x8)))
    s.link.state = .transmitting ∧ s.link.role = some .evaluator ∧ s.link.slot = .pending ∧ s.link.disconnect = .no
    ∧ s.link.decision = some ⟨false, false⟩ ∧ s.tx.attempt.map (·.live) = some false ∧ s.tx.retracts = [] ∧ s.mb.state = .member := by decide
theorem witness_SnapshotDelivery :
    let m : State := { joiner with stationId := 0, mb := { joiner.mb with state := .member, transfer := some ⟨1, 0, 3, false⟩ } }
    (hears joiner).admitted ∧ (hears m).admitted ∧ m.mb.transfer = some ⟨1, 0, 3, false⟩
    ∧ readSnapHead [1, 0, 1, 0, 1, 0, 1, 1, 1] = some ⟨1, 1, 1, 1, [1]⟩ ∧ joiner.mb.assembly = some ⟨1, 0, false⟩
    ∧ readPaneRecord [] = none ∧ readPaneRecord (paneRecord 31 paneCleared) = some (31, paneCleared) ∧ readSnapFree [0, 2, 0, 0, 1] = none
    ∧ readSnapFree [0, 0x01, 0xFF, 0, 1] = some (0, [⟨511, 1⟩]) ∧ readSnapPalette [3, 9] = none
    ∧ readSnapPalette ([3, 8] ++ List.replicate 24 0) = some (3, 8, List.replicate 8 0) ∧ readSnapCells [0x20, 0, 0, 0] = none
    ∧ readSnapCells [0x1F, 0xFF, 0x41, 0x1E] = some (8191, [⟨0x41, 0x1E⟩]) ∧ joiner.store.cells.cellsWf = true
    ∧ readSnapEnd [2, 0x4B, 0, 0] = some (587, 0) ∧ readSnapEnd [] = none :=
  ⟨hears_admitted _ rfl, hears_admitted _ rfl, rfl, by decide, rfl, by decide, by decide, by decide, by decide, by decide, by decide, by decide,
   by decide, by decide, by decide, by decide⟩

theorem witness_SnapshotDelivery_own :
    let m : State := { joiner with stationId := 0, mb := { joiner.mb with
      state := .member, transfer := some ⟨1, 0, 3, false⟩, snapPos := some .head } }
    (sends .snapshot m).sendingOwn .snapshot ∧ m.mb.snapPos = some .head ∧ m.mb.transfer = some ⟨1, 0, 3, false⟩
    ∧ readSnapHead [1, 0, 1, 0, 1, 0, 1, 1, 1] = some ⟨1, 1, 1, 1, [1]⟩ ∧ m.ep.openNum = 1 ∧ lengthAllowed .snapHead [1, 0, 1] = false
    ∧ lengthAllowed .snapHead [1, 0, 1, 0, 1, 0, 1, 0] = true ∧ readSnapHead [1, 0, 1, 0, 1, 0, 1, 1, 16] = none :=
  ⟨sends_sendingOwn _ _ rfl rfl, rfl, rfl, by decide, rfl, by decide, by decide, by decide⟩

/-! Rises, limits, timers -/

theorem witness_CommitDecision :
    let s := risen (member 3 0x8) true
    s.mb.state = .member ∧ s.link.riseSample = some true ∧ s.quiet ∧ s.mb.transfer = none ∧ s.shortBatches = []
    ∧ lowestId s.mb.roster = some 3 ∧ s.ep.nextClose = 0 :=
  ⟨rfl, rfl, ⟨by decide, by decide⟩, rfl, by decide, by decide, rfl⟩

/-- A member caught short of staging room: 256 entries stand in OPEN, one of them its open batch's. -/
def short : State :=
  let s := risen (queued [⟨.update 6 (.setPalette ⟨1, 1, [5]⟩), 0⟩] (member 3 0x8)) false
  { s with
    ep := { s.ep with staging := ⟨.openE, 3, some 6, .release 0⟩ :: List.replicate 255 ⟨.openE, 3, none, .release 0⟩ }
    tx := { s.tx with batches := [⟨6, false, true, false⟩] } }

set_option maxRecDepth 20000 in
theorem witness_RiseSampledLow :
    (short.shortBatches = [6] ∧ short.link.riseSample = some false ∧ short.ep.stall < 15 ∧ short.batchTaken 6 = true ∧ short.tx.attempt = none)
    ∧ (risen (member 3 0x8) false).shortBatches = [] ∧ (risen joiner true).mb.transfer = some ⟨1, 0, 0, true⟩
    ∧ (risen joiner false).mb.state = .joining ∧ (member 3 0x8).mb.roster &&& ~~~(member 3 0x8).ep.openClose ≠ 0 := by decide
theorem witness_StallAndTransferLimits :
    let s : State := { member 0 0x3 with ep := { epochsCleared with stall := 16, openClose := 0x1 } }
    let t : State := { joiner with mb := { joiner.mb with transfer := some ⟨1, 0, 240, true⟩ } }
    (16 ≤ s.ep.stall ∧ idIn 0 s.ep.openClose = true ∧ s.mb.roster &&& ~~~s.ep.openClose ≠ 0)
    ∧ (idIn 1 s.mb.roster = true ∧ idIn 1 s.ep.openClose = false) ∧ s.host.events.length + (idList (s.mb.roster &&& ~~~s.ep.openClose)).length ≤ 32
    ∧ (t.mb.state = .joining ∧ t.mb.transfer = some ⟨1, 0, 240, true⟩) ∧ joiner.mb.transfer = some ⟨1, 0, 0, true⟩ := by decide
theorem witness_StallAndTransferLimits_self :
    let s : State := { member 0 0x3 with ep := { epochsCleared with stall := 16, openClose := 0x2 } }
    let l : State := { s with mb := { s.mb with leaveRequested := true } }
    (s.mb.state = .member ∧ 16 ≤ s.ep.stall ∧ idIn s.stationId s.mb.roster = true ∧ idIn s.stationId s.ep.openClose = false)
    ∧ (s.mb.leaveRequested = false ∧ (after .stallLimit s).mb.state = .listening)
    ∧ (l.mb.leaveRequested = true ∧ l.link.state ≠ .transmitting ∧ (after .stallLimit l).mb.state = .offline) := by decide
theorem witness_ExhaustionAndTimers :
    let s := queued [⟨.update 6 (.setPalette ⟨1, 1, [5]⟩), 8⟩] (member 0 1)
    let d : State := { member 0 1 with tx := { transmitterEmpty with closeOpen := 8 } }
    let l : State := { station 4 .listening with mb := { membershipCleared .listening with listenTimer := some 0 } }
    let r : State := { station 4 .requesting with mb := { membershipCleared .requesting with requestTimer := some 0 } }
    s.tx.queue = [⟨.update 6 (.setPalette ⟨1, 1, [5]⟩), 8⟩] ∧ s.tx.attempt = none ∧ s.host.events.length < 32 ∧ s.batchTaken 6 = false
    ∧ short.batchTaken 6 = true ∧ 8 ≤ d.tx.closeOpen ∧ d.mb.state = .member ∧ l.mb.listenTimer = some 0 ∧ r.mb.requestTimer = some 0
    ∧ (queued [⟨.leave, 8⟩] (member 0 1)).tx.queue = [⟨.leave, 8⟩]
    ∧ ({ member 0 1 with tx := { transmitterEmpty with snapRefusals := 8 } } : State).tx.closeNext < 8
    ∧ (after .selfDemotion { member 0 1 with tx := { transmitterEmpty with denials := [⟨9, .font, 8⟩, ⟨8, .font, 7⟩] } }).tx.denials
      = [⟨8, .font, 7⟩] := by decide

/-! The raster and the apply pass -/

theorem witness_RasterPhases : (inRaster .active .following (member 0 1)).raster.phase = some .active
    ∧ (inRaster .back .locked (member 0 1)).raster.phase = some .back := by decide
theorem witness_FrameLine :
    holds.pins.tlfLow = true ∧ holds.raster.holding = true ∧ holds.raster.phase = some .hold ∧ holds.ep.passRunning = false
    ∧ holds.raster.riseRead = true ∧ (after (.tlfRelease 6000) holds).pins.tlfLow = false
    ∧ (inRaster .hold .freeRun (member 0 1)).raster.sync = .freeRun ∧ (inRaster .hold .following (station 0 .listening)).pins.tlfLow = false
    ∧ (after (.holdLineEnd false) (inRaster .hold .following (station 0 .listening))).raster.waiting = true := by decide
theorem witness_SpanListBuild :
    threePanes.raster.timing = some { tile with originCol := 40, originRow := 10 } ∧ threePanes.raster.phase = some .active
    ∧ threePanes.raster.sync = .locked ∧ 29 < tile.rows ∧ threePanes.fieldsSound :=
  ⟨rfl, rfl, rfl, by decide, fieldsSound_of _ (by decide)⟩
theorem witness_PixelColour_top :
    let t := after (.spanListBuild 3) threePanes
    t.raster.spanList = [8] ++ 2 :: [5] ∧ t.raster.phase = some .active ∧ t.raster.sync = .locked ∧ (tile.hActive.toNat > 79)
    ∧ (t.pane 8).display.coversCol (40 + 79 / 8) = false ∧ (t.pane 2).display.coversCol (40 + 79 / 8) = true := by decide
theorem witness_PixelColour : (inRaster .sync .locked (member 0 1)).raster.phase = some .sync ∧ State.reset.raster.phase = none
    ∧ (threePanes.pane 2).display.ext = some ⟨100, 5⟩ ∧ 16 * 5 / (threePanes.pane 2).display.pitch.toNat = 4
    ∧ fallingEdges false [true, false] < tile.hTotal.toNat ∧ ({ tile with hTotal := 1 } : TileFields).hTotal.toNat ≤ fallingEdges false [true, false]
    ∧ threePanes.raster.phase = some .active ∧ threePanes.raster.sync = .locked ∧ threePanes.raster.spanRow ≠ 64 / 16
    ∧ 48 = 16 * 3 + (0 : Fin 16).val ∧ tile.phaseLines .sync = some tile.vSync.toNat ∧ 0 < tile.hTotal.toNat := by decide
theorem witness_ApplyPutCells :
    let s := applying [.update (.putCells ⟨4, 30, [⟨88, 7⟩, ⟨89, 7⟩, ⟨90, 7⟩]⟩)] pane4
    s.ep.nextToApply = some ⟨.applying, 3, none, .update (.putCells ⟨4, 30, [⟨88, 7⟩, ⟨89, 7⟩, ⟨90, 7⟩]⟩)⟩
    ∧ s.store.cells.cellsWf = true ∧ (s.pane 4).display.ext = some ⟨60, 2⟩ ∧ (⟨60, 2⟩ : Extent).inStore = true
    ∧ (s.pane 5).display.ext = none := by decide
theorem witness_ApplyFill :
    let a : FillArgs := ⟨4, 1, 6, 5, 8, 0x2D, 0x1E, 3, 1, 0xFF⟩
    (applying [.update (.fill a)] pane4).ep.nextToApply = some ⟨.applying, 3, none, .update (.fill a)⟩ ∧ a.fn.toNat ≤ 3 := by decide
theorem witness_ApplyCopyAndClear :
    (applying [.update (.copy ⟨4, 0, 0, 0, 2, 1, 10⟩)] pane4).ep.nextToApply = some ⟨.applying, 3, none, .update (.copy ⟨4, 0, 0, 0, 2, 1, 10⟩)⟩
    ∧ (applying [.clear 4 ⟨510, 2⟩] pane4).ep.nextToApply = some ⟨.applying, 3, none, .clear 4 ⟨510, 2⟩⟩ ∧ (⟨510, 2⟩ : Extent).inStore = true := by
  decide
theorem witness_ApplyDisplayAndEnd :
    let s := applying [.update (.setPalette ⟨3, 8, List.replicate 8 5⟩)] pane4
    s.ep.nextToApply = some ⟨.applying, 3, none, .update (.setPalette ⟨3, 8, List.replicate 8 5⟩)⟩
    ∧ (⟨3, 8, List.replicate 8 5⟩ : SetPaletteArgs).inRange = true ∧ s.ep.passRunning = true ∧ s.ep.passDone < s.ep.applyingEntries.length
    ∧ (after .applySetPalette s).ep.applyingEntries.length ≤ (after .applySetPalette s).ep.passDone := by decide

end Sys2Proof.Tests
end

section
/-! PROOF. O7: every step keeps the Link Controller in step with the Membership Unit and the line drivers. The invariant reads six
values of a state, its link view; what keeps the view keeps the invariant, and the few operations that move it are treated one by one. -/

namespace Sys2Proof.Machine

/-! ### The link view -/

/-- What `State.linkSound` reads of a state: the link's state and disconnection, the drivers on TLD and TLC, whether an attempt is in
progress, and whether the Membership Unit is OFFLINE. -/
def State.linkView (s : State) : LinkState × Disconnect × Bool × Bool × Bool × Bool :=
  (s.link.state, s.link.disconnect, s.pins.tldLow, s.pins.tlcLow, s.tx.attempt.isSome, decide (s.mb.state = .offline))

theorem State.linkView_eq_iff (s t : State) : t.linkView = s.linkView ↔
    t.link.state = s.link.state ∧ t.link.disconnect = s.link.disconnect ∧ t.pins.tldLow = s.pins.tldLow ∧ t.pins.tlcLow = s.pins.tlcLow ∧
    t.tx.attempt.isSome = s.tx.attempt.isSome ∧ (t.mb.state = .offline ↔ s.mb.state = .offline) := by
  simp [State.linkView]

/-- The invariant is kept where the link's state, its disconnection and OFFLINE stand, no attempt begins, and outside a packet the
lines stay released. -/
theorem State.linkSound_mono {s t : State} (hs : s.linkSound) (hstate : t.link.state = s.link.state)
    (hdisc : t.link.disconnect = s.link.disconnect) (hoff : t.mb.state = .offline ↔ s.mb.state = .offline)
    (hatt : t.tx.attempt ≠ none → s.tx.attempt ≠ none)
    (hlines : s.packetInProgress = false → s.pins.tldLow = false ∧ s.pins.tlcLow = false → t.pins.tldLow = false ∧ t.pins.tlcLow = false) :
    t.linkSound := by
  obtain ⟨hO, hW, hL, hA⟩ := hs
  have hprog : t.packetInProgress = s.packetInProgress := by simp [State.packetInProgress, hstate]
  refine ⟨?_, ?_, fun hp => ?_, fun ha => ?_⟩
  · rw [hoff, hstate, hdisc]; exact hO
  · rw [hstate, hdisc]; exact hW
  · rw [hprog] at hp; exact hlines hp (hL hp)
  · rw [hstate]; exact hA (hatt ha)

/-- The invariant reads the link view alone. -/
theorem State.linkSound_congr {s t : State} (h : t.linkView = s.linkView) (hs : s.linkSound) : t.linkSound := by
  obtain ⟨hstate, hdisc, htld, htlc, hatt, hoff⟩ := (State.linkView_eq_iff s t).1 h
  refine State.linkSound_mono hs hstate hdisc hoff (fun ha => ?_) (fun _ hl => by rwa [htld, htlc])
  rw [← Option.isSome_iff_ne_none] at ha ⊢
  rwa [← hatt]

/-- A station that is not OFFLINE, with its link connected and no disconnection wanted. -/
theorem State.linkSound_online {t : State} (hm : t.mb.state ≠ .offline) (hd : t.link.state ≠ .disconnected)
    (hw : t.link.disconnect ≠ .wanted) (hl : t.packetInProgress = false → t.pins.tldLow = false ∧ t.pins.tlcLow = false)
    (ha : t.tx.attempt ≠ none → t.link.state = .transmitting) : t.linkSound :=
  ⟨⟨fun h => absurd h hm, fun h => h.elim (absurd · hd) (absurd · hw)⟩, fun h => absurd h hw, hl, ha⟩

/-- Between packets a connected station is not OFFLINE, waits for no disconnection, drives neither line and has no attempt. -/
theorem State.linkSound.between {s : State} (hs : s.linkSound)
    (h : s.link.state = .waitFree ∨ s.link.state = .idle ∨ s.link.state = .recovery) :
    s.mb.state ≠ .offline ∧ s.link.disconnect ≠ .wanted ∧ (s.pins.tldLow = false ∧ s.pins.tlcLow = false) ∧ s.tx.attempt = none := by
  obtain ⟨hO, hW, hL, hA⟩ := hs
  have ht : s.link.state ≠ .transmitting := by rcases h with h | h | h <;> simp [h]
  have hd : s.link.state ≠ .disconnected := by rcases h with h | h | h <;> simp [h]
  have hp : s.packetInProgress = false := by rcases h with h | h | h <;> simp [State.packetInProgress, h]
  have hw : s.link.disconnect ≠ .wanted := fun hw => ht (hW hw)
  exact ⟨fun hm => (hO.1 hm).elim hd hw, hw, hL hp, not_not.1 fun ha => ht (hA ha)⟩

/-! ### What keeps the drivers of TLD and TLC -/

@[simp] theorem State.postAt_lines (s : State) (e : Half) (k : EventKind) (a : Byte) (b c : Half) :
    (s.postAt e k a b c).pins.tldLow = s.pins.tldLow ∧ (s.postAt e k a b c).pins.tlcLow = s.pins.tlcLow := by
  simp only [State.postAt]; split <;> simp

@[simp] theorem State.post_lines (s : State) (k : EventKind) (a : Byte) (b c : Half) :
    (s.post k a b c).pins.tldLow = s.pins.tldLow ∧ (s.post k a b c).pins.tlcLow = s.pins.tlcLow := by
  simp [State.post]

@[simp] theorem State.postEach_lines (s : State) (e : Half) (k : EventKind) (l : List Byte) :
    (s.postEach e k l).pins.tldLow = s.pins.tldLow ∧ (s.postEach e k l).pins.tlcLow = s.pins.tlcLow :=
  ⟨foldl_keeps _ (fun s => s.pins.tldLow) (fun s a => by simp) l s, foldl_keeps _ (fun s => s.pins.tlcLow) (fun s a => by simp) l s⟩

@[simp] theorem State.revote_lines (s : State) : s.revote.pins.tldLow = s.pins.tldLow ∧ s.revote.pins.tlcLow = s.pins.tlcLow := ⟨rfl, rfl⟩

@[simp] theorem State.unlock_lines (s : State) : s.unlock.pins.tldLow = s.pins.tldLow ∧ s.unlock.pins.tlcLow = s.pins.tlcLow := ⟨rfl, rfl⟩

@[simp] theorem State.pullFrame_lines (s : State) : s.pullFrame.pins.tldLow = s.pins.tldLow ∧ s.pullFrame.pins.tlcLow = s.pins.tlcLow :=
  ⟨rfl, rfl⟩

@[simp] theorem State.removeOther_lines (s : State) (i : StationId) (k : EventKind) :
    (s.removeOther i k).pins.tldLow = s.pins.tldLow ∧ (s.removeOther i k).pins.tlcLow = s.pins.tlcLow := by
  simp only [State.removeOther]; split <;> simp

/-! ### What keeps whether an attempt is in progress -/

@[simp] theorem State.removeQueued_attempt (s : State) (p : Queued → Bool) :
    (s.removeQueued p).tx.attempt.isSome = s.tx.attempt.isSome := by
  simp only [State.removeQueued, Transmitter.dropAttempt]; split <;> simp

@[simp] theorem State.withdrawJoin_attempt (s : State) : s.withdrawJoin.tx.attempt.isSome = s.tx.attempt.isSome := by
  simp [State.withdrawJoin]

@[simp] theorem State.withdrawFound_attempt (s : State) : s.withdrawFound.tx.attempt.isSome = s.tx.attempt.isSome := by
  simp [State.withdrawFound]

@[simp] theorem State.dropHead_attempt (s : State) : s.dropHead.tx.attempt = s.tx.attempt := rfl

@[simp] theorem State.enqueue_attempt (s : State) (r : Request) : (s.enqueue r).tx.attempt = s.tx.attempt := rfl

@[simp] theorem State.purge_attempt (s : State) : s.purge.tx.attempt.isSome = s.tx.attempt.isSome := by
  simp [State.purge, Transmitter.dropAttempt]

@[simp] theorem State.endAttempt_attempt (s : State) : s.endAttempt.tx.attempt = none := rfl

@[simp] theorem State.breakBatch_lines (s : State) (g : Byte) :
    (s.breakBatch g).pins.tldLow = s.pins.tldLow ∧ (s.breakBatch g).pins.tlcLow = s.pins.tlcLow := by
  simp only [State.breakBatch]; split <;> simp

@[simp] theorem State.breakBatch_attempt (s : State) (g : Byte) : (s.breakBatch g).tx.attempt.isSome = s.tx.attempt.isSome := by
  simp only [State.breakBatch]; split <;> simp [State.changeRecord, State.raiseRetract, State.dropRecord]

@[simp] theorem State.noteTaken_attempt (s : State) (g : Byte) : (s.noteTaken g).tx.attempt = s.tx.attempt := by
  simp only [State.noteTaken]; split <;> simp [State.changeRecord, State.raiseRetract, State.dropRecord]

@[simp] theorem State.startTransfer_attempt (s : State) : s.startTransfer.tx.attempt = s.tx.attempt := by
  simp only [State.startTransfer]; (repeat' split) <;> rfl

@[simp] theorem State.raiseDenial_attempt (s : State) (i : StationId) (r : DenyReason) :
    (s.raiseDenial i r).tx.attempt = s.tx.attempt := by
  simp only [State.raiseDenial]; split <;> rfl

@[simp] theorem State.dropDenials_attempt (s : State) : s.dropDenials.tx.attempt = s.tx.attempt := by
  simp only [State.dropDenials]; split <;> rfl

/-! ### What keeps the membership state -/

@[simp] theorem State.startTransfer_state (s : State) : s.startTransfer.mb.state = s.mb.state := by
  simp only [State.startTransfer]; (repeat' split) <;> rfl

@[simp] theorem State.ageStep_state (s : State) : s.ageStep.mb.state = s.mb.state := by
  simp only [State.ageStep]; split <;> rfl

@[simp] theorem State.removeOther_state (s : State) (i : StationId) (k : EventKind) : (s.removeOther i k).mb.state = s.mb.state := by
  simp only [State.removeOther]; split <;> simp

@[simp] theorem State.reportTaken_state (s : State) : s.reportTaken.mb.state = s.mb.state := by
  simp only [State.reportTaken]; (repeat' split) <;> simp

/-! ### The shared operations that keep the link view

What they write lies in other blocks, or they move between membership states none of which is OFFLINE. -/

@[simp] theorem State.setHost_linkView (s : State) (h : HostPort) : (s.setHost h).linkView = s.linkView := rfl

@[simp] theorem State.post_linkView (s : State) (k : EventKind) (a : Byte) (b c : Half) : (s.post k a b c).linkView = s.linkView := by
  simp [State.linkView_eq_iff]

@[simp] theorem State.revote_linkView (s : State) : s.revote.linkView = s.linkView := rfl

@[simp] theorem State.enqueue_linkView (s : State) (r : Request) : (s.enqueue r).linkView = s.linkView := rfl

@[simp] theorem State.breakBatch_linkView (s : State) (g : Byte) : (s.breakBatch g).linkView = s.linkView := by
  simp [State.linkView_eq_iff]

@[simp] theorem State.discardBatch_linkView (s : State) : s.discardBatch.linkView = s.linkView := by
  simp only [State.discardBatch]; split <;> simp

@[simp] theorem State.removeOther_linkView (s : State) (i : StationId) (k : EventKind) : (s.removeOther i k).linkView = s.linkView := by
  simp [State.linkView_eq_iff]

@[simp] theorem State.foreign_linkView (s : State) (i : StationId) (k : Kind) : (s.foreign i k).linkView = s.linkView := by
  simp only [State.foreign]; split <;> simp [State.linkView_eq_iff]

@[simp] theorem State.voidEvent_linkView (s : State) (i : StationId) (k : EventKind) (r : Reason) (a b : Half) :
    (s.voidEvent i k r a b).linkView = s.linkView := by
  simp only [State.voidEvent]; split <;> simp

@[simp] theorem State.stage_linkView (s : State) (c : EpochClass) (i : StationId) (g : Option Byte) (o : EntryOp) :
    (s.stage c i g o).linkView = s.linkView := rfl

@[simp] theorem State.setControl_linkView (s : State) (i : Fin 32) (c : Control) : (s.setControl i c).linkView = s.linkView := rfl

@[simp] theorem State.assemblyFault_linkView (s : State) : s.assemblyFault.linkView = s.linkView := rfl

@[simp] theorem State.countPacket_linkView (s : State) : s.countPacket.linkView = s.linkView := rfl

@[simp] theorem State.enterPhase_linkView (s : State) (p : Phase) : (s.enterPhase p).linkView = s.linkView := rfl

@[simp] theorem State.dropHead_linkView (s : State) : s.dropHead.linkView = s.linkView := rfl

@[simp] theorem State.dropRecord_linkView (s : State) (g : Byte) : (s.dropRecord g).linkView = s.linkView := rfl

@[simp] theorem State.ageStep_linkView (s : State) : s.ageStep.linkView = s.linkView := by simp [State.linkView_eq_iff]

@[simp] theorem State.stallStep_linkView (s : State) : s.stallStep.linkView = s.linkView := by simp [State.linkView_eq_iff]

@[simp] theorem State.freePane_linkView (s : State) (i : Fin 32) : (s.freePane i).linkView = s.linkView := by simp [State.linkView_eq_iff]

@[simp] theorem State.startTransfer_linkView (s : State) : s.startTransfer.linkView = s.linkView := by simp [State.linkView_eq_iff]

@[simp] theorem State.postEach_linkView (s : State) (e : Half) (k : EventKind) (l : List Byte) :
    (s.postEach e k l).linkView = s.linkView := by
  simp [State.linkView_eq_iff]

@[simp] theorem State.commitEpochs_linkView (s : State) : s.commitEpochs.linkView = s.linkView := rfl

/-- R58: a commit decision moves no link. -/
@[simp] theorem State.commit_linkView (s : State) : s.commit.linkView = s.linkView := by
  have free (l : List (Byte × StationId)) (u : State) : (l.foldl (fun u r => u.freePane (paneIx r.1)) u).linkView = u.linkView :=
    foldl_keeps _ _ (fun u r => u.freePane_linkView _) l u
  have drop (l : List Byte) (u : State) : (l.foldl State.dropRecord u).linkView = u.linkView := 
    foldl_keeps _ State.linkView State.dropRecord_linkView l u
  simp [State.commit, free, drop]

/-- R54, R57: a rise's effects at a member move no link. -/
@[simp] theorem State.memberRise_linkView (s : State) (b : Bool) : (s.memberRise b).linkView = s.linkView := by
  simp only [State.memberRise, foldl_keeps _ State.linkView State.breakBatch_linkView]
  split <;> simp

/-- R73 to R75: evidence of a group makes no station leave OFFLINE. -/
@[simp] theorem State.evidence_linkView (s : State) (rise : Bool) : (s.evidence rise).linkView = s.linkView := by
  rw [State.linkView_eq_iff]
  simp only [State.evidence]
  split
  case h_1 hm => simp [hm]
  case h_2 hm => split <;> simp [hm]
  case h_3 hm => split <;> simp [hm]
  case h_4 => simp

/-! ### The deliveries that keep the link view -/

@[simp] theorem State.deliverUpdate_linkView (s : State) (k : Kind) (i : StationId) (p : List Byte) :
    (s.deliverUpdate k i p).linkView = s.linkView := by
  simp only [State.deliverUpdate]
  (repeat' split) <;> simp [State.linkView_eq_iff]

@[simp] theorem State.deliverClaim_linkView (s : State) (i : StationId) (p : List Byte) :
    (s.deliverClaim i p).linkView = s.linkView := by
  simp only [State.deliverClaim]
  (repeat' split) <;> simp [State.linkView_eq_iff]

@[simp] theorem State.deliverHandover_linkView (s : State) (i : StationId) (p : List Byte) :
    (s.deliverHandover i p).linkView = s.linkView := by
  simp only [State.deliverHandover]
  (repeat' split) <;> simp

@[simp] theorem State.deliverRelease_linkView (s : State) (i : StationId) (p : List Byte) :
    (s.deliverRelease i p).linkView = s.linkView := by
  simp only [State.deliverRelease]
  (repeat' split) <;> simp

@[simp] theorem State.deliverClose_linkView (s : State) (i : StationId) (p : List Byte) :
    (s.deliverClose i p).linkView = s.linkView := by
  simp only [State.deliverClose]
  (repeat' split) <;> simp [State.linkView_eq_iff]

@[simp] theorem State.deliverRetract_linkView (s : State) (i : StationId) (p : List Byte) :
    (s.deliverRetract i p).linkView = s.linkView := by
  simp only [State.deliverRetract]
  (repeat' split) <;> simp [State.linkView_eq_iff]

@[simp] theorem State.deliverJoin_linkView (s : State) (i : StationId) (p : List Byte) :
    (s.deliverJoin i p).linkView = s.linkView := by
  simp only [State.deliverJoin]
  (repeat' split) <;> simp [State.linkView_eq_iff]

@[simp] theorem State.deliverHead_linkView (s : State) (i : StationId) (p : List Byte) :
    (s.deliverHead i p).linkView = s.linkView := by
  simp only [State.deliverHead]
  (repeat' split) <;> simp [State.linkView_eq_iff]

@[simp] theorem State.appendFree_linkView (s : State) (b : Byte) (l : List Extent) :
    (s.appendFree b l).linkView = s.linkView := by
  simp only [State.appendFree]
  (repeat' split) <;> simp [State.linkView_eq_iff]

@[simp] theorem State.deliverEnd_linkView (s : State) (i : StationId) (p : List Byte) :
    (s.deliverEnd i p).linkView = s.linkView := by
  simp only [State.deliverEnd]
  (repeat' split) <;> simp [State.linkView_eq_iff]

/-- R87: a snapshot packet keeps the link view where its writing does. -/
theorem State.assemble_linkView {α : Type} (s : State) (i : StationId) (c : Option α) (write : State → α → State)
    (h : ∀ u a, (write u a).linkView = u.linkView) : (s.assemble i c write).linkView = s.linkView := by
  simp only [State.assemble]
  (repeat' split) <;> simp [h]

/-- R89: the joiner goes from JOINING to MEMBER; neither is OFFLINE. -/
@[simp] theorem State.admitJoiner_linkView (s : State) (i : StationId) : (s.admitJoiner i).linkView = s.linkView := by
  simp only [State.admitJoiner]
  split
  next hj => have : s.mb.state = .joining := by simpa [State.isJoiner] using hj
             simp [State.linkView_eq_iff, this]
  next => simp [State.linkView_eq_iff]; rfl

/-! ### What an observer hears -/

@[simp] theorem State.ownFound_linkView (s : State) : s.ownFound.linkView = s.linkView := by
  simp only [State.ownFound]
  split
  next hm => split <;> simp [State.linkView_eq_iff, State.foundGroup, membershipCleared, hm]
  next => rfl

@[simp] theorem State.ownFoundLost_linkView (s : State) : s.ownFoundLost.linkView = s.linkView := by
  simp only [State.ownFoundLost]
  split <;> simp [State.linkView_eq_iff, *]

@[simp] theorem State.hearDenial_linkView (s : State) (p : List Byte) : (s.hearDenial p).linkView = s.linkView := by
  simp only [State.hearDenial]
  (repeat' split) <;> simp [State.linkView_eq_iff, *]

@[simp] theorem State.hearHead_linkView (s : State) (i : StationId) (p : List Byte) : (s.hearHead i p).linkView = s.linkView := by
  simp only [State.hearHead]
  (repeat' split) <;> simp [State.linkView_eq_iff, membershipCleared, *]

@[simp] theorem State.observe_linkView (s : State) (k : Kind) (i : StationId) (p : List Byte) :
    (s.observe k i p).linkView = s.linkView := by
  simp only [State.observe]
  (repeat' split) <;> simp

/-! ### The host commands that keep the link view -/

/-- R159: what the port adds to a command's effect is its own. -/
theorem State.evaluate_linkView {s : State} {n : Nat} {f : State → State × Status × List Byte} (h : (f s).1.linkView = s.linkView) :
    (s.evaluate n f).linkView = s.linkView := by
  simp only [State.evaluate]
  split
  · exact h
  · rfl

@[simp] theorem State.configure_linkView (s : State) (f : TileFields) : (s.configure f).1.linkView = s.linkView := by
  simp only [State.configure]; (repeat' split) <;> rfl

@[simp] theorem State.loadFont_linkView (s : State) (b : Byte) (rows : Vector Byte 16) : (s.loadFont b rows).1.linkView = s.linkView := by
  simp only [State.loadFont]; split <;> rfl

@[simp] theorem State.beginBatch_linkView (s : State) : s.beginBatch.1.linkView = s.linkView := by
  simp only [State.beginBatch]; (repeat' split) <;> rfl

@[simp] theorem State.endBatch_linkView (s : State) : s.endBatch.1.linkView = s.linkView := by
  simp only [State.endBatch]; (repeat' split) <;> rfl

@[simp] theorem State.submit_linkView (s : State) (u : Update) : (s.submit u).1.linkView = s.linkView := by
  simp only [State.submit]; (repeat' split) <;> rfl

@[simp] theorem State.request_linkView (s : State) (b : Bool) (r : Request) : (s.request b r).1.linkView = s.linkView := by
  simp only [State.request]; (repeat' split) <;> rfl

@[simp] theorem State.readEvent_linkView (s : State) : s.readEvent.1.linkView = s.linkView := by
  simp only [State.readEvent]; split <;> rfl

/-- R159: a host command keeps the invariant where its effect does. -/
theorem State.evaluate_linkSound {s : State} (hs : s.linkSound) {n : Nat} {f : State → State × Status × List Byte}
    (h : (f s).1.linkSound) : (s.evaluate n f).linkSound := by
  simp only [State.evaluate]
  split
  · exact State.linkSound_congr rfl h
  · exact hs

/-! ### What takes a station off the link, or puts it on -/

/-- R22: a station that has entered OFFLINE is DISCONNECTED, or finishes its attempt first. -/
theorem State.disconnect_linkSound {s : State} (hm : s.mb.state = .offline) (ha : s.tx.attempt ≠ none → s.link.state = .transmitting) :
    s.disconnect.linkSound := by
  by_cases hs : s.link.state = .transmitting
  · simp [State.disconnect, State.sending, State.linkSound, State.packetInProgress, hs, hm]
  · have : s.tx.attempt = none := not_not.1 fun h => hs (ha h)
    simp [State.disconnect, State.disconnectNow, State.sending, State.linkSound, linkReset, hs, hm, this]

/-- What R94 makes of a station once its records are posted, before its next state is entered. -/
def State.cleared (s : State) : State :=
  { s.purge.clearShared.unlock with mb := membershipCleared .offline, host := { s.host with batch := .none } }

/-- R94: a removal is its records, then the clearing, then OFFLINE or LISTENING entered. -/
theorem State.removeSelf_eq (s : State) (k : EventKind) (a : Byte) (o : Bool) : ∃ p : State, p.linkView = s.linkView
    ∧ s.removeSelf k a o = (if o then p.cleared.disconnect else p.cleared.enterListening).revote := by
  refine ⟨if s.isMember then ((s.postAt s.removalStamp k a 0 0).postEach s.removalStamp .batchBroken s.purgedTags).postEach
    s.removalStamp .paneOrphaned s.ownPanes else s.postAt s.removalStamp k a 0 0, ?_, rfl⟩
  split <;> simp [State.linkView_eq_iff]

/-- R94: a station removed from the group goes to LISTENING on a connected link, or to OFFLINE off it. -/
theorem State.removeSelf_linkSound {s : State} (hs : s.linkSound) (hm : s.mb.state ≠ .offline) (k : EventKind) (a : Byte) (o : Bool) :
    (s.removeSelf k a o).linkSound := by
  obtain ⟨p, hv, he⟩ := s.removeSelf_eq k a o
  have hp : p.linkSound := State.linkSound_congr hv hs
  rw [he]
  refine State.linkSound_congr (State.revote_linkView _) ?_
  cases o with
  | true =>
    obtain ⟨-, -, -, hA⟩ := hp
    refine State.disconnect_linkSound rfl fun ha => hA ?_
    rw [← Option.isSome_iff_ne_none] at ha ⊢
    simpa [State.cleared] using ha
  | false =>
    refine State.linkSound_congr ?_ hp
    obtain ⟨-, -, -, -, -, hoff⟩ := (State.linkView_eq_iff s p).1 hv
    have hne : p.mb.state ≠ .offline := fun h => hm (hoff.1 h)
    simp [State.linkView_eq_iff, State.cleared, hne]

/-- R72: an outsider or the joiner that goes offline. -/
theorem State.outsiderOffline_linkSound {s : State} (hs : s.linkSound) : s.outsiderOffline.linkSound := by
  obtain ⟨-, -, -, hA⟩ := hs
  simp only [State.outsiderOffline]
  refine State.linkSound_congr (State.revote_linkView _) (State.disconnect_linkSound rfl ?_)
  rw [← Option.isSome_iff_ne_none] at hA ⊢
  split <;> simpa using hA

/-- R22, R164: GO-ONLINE connects the link, or cancels the disconnection that waits. -/
theorem State.goOnline_linkSound {s : State} (hs : s.linkSound) : s.goOnline.1.linkSound := by
  simp only [State.goOnline]
  split
  · exact hs
  · next hm =>
    have hm : s.mb.state = .offline := not_not.1 hm
    split
    · exact hs
    · next f _ =>
      refine State.linkSound_congr (s := s.enterListening.connect (some f.linkRate)) (by simp [State.linkView_eq_iff]) ?_
      obtain ⟨hO, hW, hL, hA⟩ := hs
      by_cases ht : s.link.state = .transmitting
      · apply State.linkSound_online <;> simp [State.connect, State.sending, State.packetInProgress, ht]
      · have hd : s.link.state = .disconnected := (hO.1 hm).resolve_right fun hw => ht (hW hw)
        have ha : s.tx.attempt = none := not_not.1 fun h => ht (hA h)
        obtain ⟨htld, htlc⟩ := hL (by simp [State.packetInProgress, hd])
        apply State.linkSound_online <;> simp [State.connect, State.sending, linkReset, ht, ha, htld, htlc]

/-- R72, R165: GO-OFFLINE takes an outsider off the link; a member only queues its LEAVE. -/
theorem State.goOffline_linkSound {s : State} (hs : s.linkSound) : s.goOffline.1.linkSound := by
  simp only [State.goOffline]
  split
  · exact hs
  · next hm =>
    (repeat' split) <;> refine State.linkSound_congr ?_ hs
    · rfl
    · rfl
    · exact (rfl : _ = (s.discardBatch.enqueue .leave).linkView).trans (by simp)
  · exact State.outsiderOffline_linkSound hs

/-! ### The ends of an attempt and of a packet -/

@[simp] theorem State.reportTaken_attempt (s : State) : s.reportTaken.tx.attempt = none := by
  simp [State.reportTaken]

@[simp] theorem State.reportRefused_attempt (s : State) : s.reportRefused.tx.attempt = none := by
  simp [State.reportRefused]

/-- R22: with its drivers released and its attempt over, a station that waited for it disconnects. -/
theorem State.disconnectNow_linkSound {s : State} (hm : s.mb.state = .offline) (ha : s.tx.attempt = none) : s.disconnectNow.linkSound := by
  simp [State.disconnectNow, State.linkSound, linkReset, hm, ha]

/-- R9, R16, R22: a packet's end leaves a connected station between packets, or takes the disconnection that waits. -/
theorem State.endPacket_linkSound {s : State} (hs : s.linkSound) (hp : s.packetInProgress = true) (n : Nat) : (s.endPacket n).linkSound := by
  obtain ⟨hO, -, -, -⟩ := hs
  have hd : s.link.state ≠ .disconnected := by rintro h; simp [State.packetInProgress, h] at hp
  have hl : (if s.sending && decide (s.link.slot = .pending) then s.countRefusal else s).link = s.link := by split <;> simp
  have hm : (if s.sending && decide (s.link.slot = .pending) then s.countRefusal else s).mb = s.mb := by split <;> simp
  simp only [State.endPacket]
  generalize (if s.sending && decide (s.link.slot = .pending) then s.countRefusal else s) = u at hl hm
  split
  next hw =>
    have hw : s.link.disconnect = .wanted := by simpa [hl] using hw
    exact State.disconnectNow_linkSound (by simpa [hm] using hO.2 (.inr hw)) rfl
  next hw =>
    have hw : s.link.disconnect ≠ .wanted := by simpa [hl] using hw
    apply State.linkSound_online <;> simp [hm, hO, hd, hw]

/-- R13, R14: the slot passed keeps the invariant where the delivery does. -/
theorem State.taking_linkSound {s : State} (hs : s.linkSound) {deliver : State → State} (h : ∀ u : State, u.linkSound → (deliver u).linkSound) :
    (s.taking deliver).linkSound := by
  simp only [State.taking]
  split
  · have hd := h { s.releaseLink with link := { s.link with slot := .taken } }
      (State.linkSound_mono hs rfl rfl Iff.rfl id fun _ _ => ⟨rfl, rfl⟩)
    split
    · exact State.linkSound_mono hd (by simp) (by simp) (by simp) (by simp) (by simp)
    · exact hd
  · exact hs

/-- R14, R15: a taken packet keeps the invariant where its delivery does; an observer's hearing keeps it. -/
theorem State.take_linkSound {s : State} (hs : s.linkSound) (k : Kind) (i : StationId) (p : List Byte) {deliver : State → State}
    (h : ∀ u : State, u.linkSound → (deliver u).linkSound) : (s.take k i p deliver).linkSound := by
  refine State.taking_linkSound hs fun u hu => ?_
  split
  · exact h u hu
  · split
    · exact State.linkSound_congr (u.observe_linkView k i p) hu
    · exact hu

/-- R14, R15: the same for a packet whose delivery keeps the link view. -/
theorem State.take_linkSound_of_view {s : State} (hs : s.linkSound) (k : Kind) (i : StationId) (p : List Byte) {deliver : State → State}
    (h : ∀ u : State, (deliver u).linkView = u.linkView) : (s.take k i p deliver).linkSound :=
  State.take_linkSound hs k i p fun u hu => State.linkSound_congr (h u) hu

/-- R15: an observer's receipt. -/
theorem State.observeReceipt_linkSound {s : State} (hs : s.linkSound) (rx : RxPacket) : (s.observeReceipt rx).linkSound := by
  refine State.taking_linkSound hs fun u hu => State.linkSound_congr ?_ hu
  (repeat' split) <;> simp [State.linkView_eq_iff, *]

/-- R14: a refused slot ends an attempt and moves no link. -/
theorem State.refused_linkSound {s : State} (hs : s.linkSound) : s.refused.linkSound := by
  simp only [State.refused]
  split
  · refine State.linkSound_mono hs ?_ ?_ ?_ ?_ ?_
    all_goals (repeat' split) <;> simp
  · exact hs

/-! ### The deliveries that may remove this station -/

theorem State.isMember_ne_offline {s : State} (h : s.isMember = true) : s.mb.state ≠ .offline := by
  simp [show s.mb.state = .member by simpa [State.isMember] using h]

theorem State.isJoiner_ne_offline {s : State} (h : s.isJoiner = true) : s.mb.state ≠ .offline := by
  simp [show s.mb.state = .joining by simpa [State.isJoiner] using h]

theorem State.evaluates_ne_offline {s : State} (h : s.evaluates = true) : s.mb.state ≠ .offline := by
  rw [State.evaluates, Bool.or_eq_true] at h
  exact h.elim State.isMember_ne_offline State.isJoiner_ne_offline

/-- R89: a JOIN-DONE removes the joiner alone. -/
theorem State.deliverJoinDone_linkSound {s : State} (hs : s.linkSound) (i : StationId) (p : List Byte) :
    (s.deliverJoinDone i p).linkSound := by
  simp only [State.deliverJoinDone]
  split
  · exact hs
  · split
    · exact hs
    · split
      · exact State.linkSound_congr (s.admitJoiner_linkView i) hs
      · split
        next hj => exact State.removeSelf_linkSound hs (State.isJoiner_ne_offline hj) _ _ _
        next => exact State.linkSound_congr rfl hs

/-- R92: a LEAVE removes its sender, this station as a member or another. -/
theorem State.deliverLeave_linkSound {s : State} (hs : s.linkSound) (i : StationId) : (s.deliverLeave i).linkSound := by
  simp only [State.deliverLeave]
  split
  · exact State.linkSound_congr (s.foreign_linkView i .leave) hs
  · split
    next hm => exact State.removeSelf_linkSound hs (State.isMember_ne_offline hm.1) _ _ _
    next => exact State.linkSound_congr (s.removeOther_linkView i .memberLeft) hs

/-! ### The commands -/

/-- A command's own next state, where it has one. -/
theorem next_eq {s t : State} (h : (Host.Outcome.next s : Result) = .next t) : s = t := by cases h; rfl

/-- R125: a cell entry applied keeps the link view. -/
theorem State.cellEntry_linkView {s t : State} {p : Byte} {w : Memory → Extent → Nat → Memory} (h : s.cellEntry p w = .next t) :
    t.linkView = s.linkView := by
  simp only [State.cellEntry] at h
  split at h
  · split at h
    · cases h; rfl
    · cases h
  · cases h; rfl

/-- R64: no row of the apply pass moves the link. -/
theorem exec_apply_linkView {c : Instr} {s t : State}
    (hc : c ∈ [.applyClear, .applyPutCells, .applyFill, .applyCopy, .applySetPane, .applySetPalette, .applyRelease, .applyPassEnd])
    (h : exec c s = .next t) : t.linkView = s.linkView := by
  simp only [List.mem_cons, List.not_mem_nil, or_false] at hc
  rcases hc with rfl | rfl | rfl | rfl | rfl | rfl | rfl | rfl
  · simp only [exec, execApplyClear] at h
    (repeat' split at h) <;> cases h <;> rfl
  · simp only [exec, execApplyPutCells] at h
    split at h
    · exact State.cellEntry_linkView h
    · cases h; rfl
  · simp only [exec, execApplyFill] at h
    split at h
    · exact State.cellEntry_linkView h
    · cases h; rfl
  · simp only [exec, execApplyCopy] at h
    split at h
    · exact State.cellEntry_linkView h
    · cases h; rfl
  · simp only [exec, execApplySetPane] at h
    split at h <;> cases h <;> rfl
  · simp only [exec, execApplySetPalette] at h
    split at h <;> cases h <;> rfl
  · simp only [exec, execApplyRelease] at h
    split at h <;> cases h <;> rfl
  · simp only [exec, execApplyPassEnd] at h
    split at h <;> cases h <;> rfl

/-- R19: a rise sampled, or its sample taken, is none of the link's state. -/
@[simp] theorem State.sampleVote_linkView (s : State) (b : Bool) : (s.sampleVote b).linkView = s.linkView := by
  simp only [State.sampleVote]; split <;> rfl

@[simp] theorem State.noteRise_linkView (s : State) : s.noteRise.linkView = s.linkView := rfl

@[simp] theorem State.relock_linkView (s : State) : s.relock.linkView = s.linkView := by
  simp only [State.relock, State.post_linkView]; rfl

theorem exec_tlfRise_linkView {b : Bool} {s t : State} (h : exec (.tlfRise b) s = .next t) : t.linkView = s.linkView := by
  rw [← next_eq h]
  dsimp only
  (repeat' split) <;> simp

theorem exec_enterFront_linkView {s t : State} (h : exec .enterFront s = .next t) : t.linkView = s.linkView := by
  rw [← next_eq h]
  split
  · simp [State.linkView_eq_iff]
  · rfl

theorem exec_frameHoldLimit_linkView {s t : State} (h : exec .frameHoldLimit s = .next t) : t.linkView = s.linkView := by
  rw [← next_eq h]
  split
  · rw [State.post_linkView]; rfl
  · rfl

theorem exec_spanListBuild_linkView {row : Nat} {s t : State} (h : exec (.spanListBuild row) s = .next t) : t.linkView = s.linkView := by
  rw [← next_eq h]
  dsimp only
  split
  · split
    · split
      · rw [State.post_linkView]; rfl
      · rfl
    · rfl
  · rfl

/-- R54, R57, R73, R90: a rise's effects move no link. -/
theorem exec_tlfRiseEffects_linkView {s t : State} (h : exec .tlfRiseEffects s = .next t) : t.linkView = s.linkView := by
  rw [← next_eq h]
  split
  · split
    · rfl
    · dsimp only
      split
      · rw [State.memberRise_linkView]; rfl
      · rw [State.ageStep_linkView]; rfl
      · rw [State.evidence_linkView]; rfl
  · rfl

/-- R62: a stall limit removes members, this one too. -/
theorem exec_stallLimit_linkSound {s t : State} (hs : s.linkSound) (h : exec .stallLimit s = .next t) : t.linkSound := by
  rw [← next_eq h]
  split
  next hm =>
    split
    · exact State.removeSelf_linkSound hs (State.isMember_ne_offline hm.1) _ _ _
    · exact State.linkSound_congr (foldl_keeps _ State.linkView (fun u i => u.removeOther_linkView i .memberEvicted) _ _) hs
  next => exact hs

/-- R90: a transfer limit removes the joiner. -/
theorem exec_transferLimit_linkSound {s t : State} (hs : s.linkSound) (h : exec .transferLimit s = .next t) : t.linkSound := by
  rw [← next_eq h]
  split
  · split
    · split
      next hj => exact State.removeSelf_linkSound hs (State.isJoiner_ne_offline hj) _ _ _
      next => split <;> exact State.linkSound_congr rfl hs
    · exact hs
  · exact hs

theorem exec_exhaustedUpdate_linkView {s t : State} (h : exec .exhaustedUpdate s = .next t) : t.linkView = s.linkView := by
  rw [← next_eq h]
  (repeat' split) <;> simp

/-- R37: an exhausted request's outcome; an exhausted LEAVE removes this member. -/
theorem exec_exhaustedRequest_linkSound {s t : State} (hs : s.linkSound) (h : exec .exhaustedRequest s = .next t) : t.linkSound := by
  rw [← next_eq h]
  have hd : s.dropHead.linkSound := State.linkSound_congr s.dropHead_linkView hs
  split
  · split
    · split
      case h_1 => exact hs
      case h_2 => exact State.linkSound_congr (State.post_linkView _ _ _ _ _) hd
      case h_3 => exact State.linkSound_congr (State.post_linkView _ _ _ _ _) hd
      case h_4 => exact State.linkSound_congr (State.post_linkView _ _ _ _ _) hd
      case h_5 =>
        split
        next hm => exact State.linkSound_congr (by simp [State.linkView_eq_iff, hm]) hd
        next => exact hd
      case h_6 =>
        split
        next hm => exact State.linkSound_congr (by simp [State.linkView_eq_iff, hm]) hd
        next => exact hd
      case h_7 =>
        split
        next hm => exact State.removeSelf_linkSound hd (State.isMember_ne_offline hm) _ _ _
        next => exact hd
    · exact hs
  · exact hs

/-- R38: a self-demotion removes this member or joiner. -/
theorem exec_selfDemotion_linkSound {s t : State} (hs : s.linkSound) (h : exec .selfDemotion s = .next t) : t.linkSound := by
  rw [← next_eq h]
  split
  next hd =>
    rw [State.demotes, Bool.and_eq_true] at hd
    exact State.removeSelf_linkSound hs (State.evaluates_ne_offline hd.1) _ _ _
  next =>
    refine State.linkSound_congr ?_ hs
    simp only [State.dropExhausted]
    split <;> rfl

/-- R74: LISTENING goes to FOUNDING; neither is OFFLINE. -/
theorem exec_listenIntervalExpiry_linkView {s t : State} (h : exec .listenIntervalExpiry s = .next t) : t.linkView = s.linkView := by
  rw [← next_eq h]
  split
  next hm => simp [State.linkView_eq_iff, hm.1]
  next => rfl

/-- R79: REQUESTING asks again, or goes to LISTENING; none is OFFLINE. -/
theorem exec_requestTimerExpiry_linkView {s t : State} (h : exec .requestTimerExpiry s = .next t) : t.linkView = s.linkView := by
  rw [← next_eq h]
  split
  next hm => split <;> simp [State.linkView_eq_iff, hm.1]
  next => rfl

/-! ### The Link Controller's commands -/

/-- R6: the attempt begins with the packet, in TRANSMITTING. -/
theorem exec_startCondition_linkSound {n : Nat} {s t : State} (hs : s.linkSound) (h : exec (.startCondition n) s = .next t) :
    t.linkSound := by
  rw [← next_eq h]
  split
  · split
    next hi =>
      obtain ⟨hm, hw, -, -⟩ := hs.between (.inr (.inl hi.1))
      apply State.linkSound_online <;> simp [State.beginPacket, State.packetInProgress, hm, hw]
    next => exact hs
  · exact hs

theorem exec_startSeen_linkSound {s t : State} (hs : s.linkSound) (h : exec .startSeen s = .next t) : t.linkSound := by
  rw [← next_eq h]
  split
  next hb =>
    obtain ⟨hm, hw, -, ha⟩ := hs.between hb
    apply State.linkSound_online <;> simp [State.beginPacket, State.packetInProgress, hm, hw, ha]
  next => exact hs

/-- R10, R22: an attempt lost in arbitration leaves the station RECEIVING, or takes the disconnection that waits. -/
theorem exec_lostInArbitration_linkSound {n : Nat} {s t : State} (hs : s.linkSound) (h : exec (.lostInArbitration n) s = .next t) :
    t.linkSound := by
  rw [← next_eq h]
  obtain ⟨hO, -, -, -⟩ := id hs
  split
  · split
    next hl =>
      have ht : s.link.state = .transmitting := by simpa [State.sending] using hl.1
      dsimp only
      split
      next hw => exact State.disconnectNow_linkSound (hO.2 (.inr hw)) rfl
      next hw =>
        have hw : s.link.disconnect ≠ .wanted := hw
        apply State.linkSound_online <;> simp [hO, ht, hw]
    next => exact hs
  · exact hs

/-- R13: at the hold point a packet is in progress, where the lines may be driven. -/
theorem exec_holdPoint_linkSound {rx : RxPacket} {s t : State} (hs : s.linkSound) (h : exec (.holdPoint rx) s = .next t) :
    t.linkSound := by
  rw [← next_eq h]
  split
  next hp =>
    have inPacket {u : State} (hl : u.link.state = s.link.state) (hd : u.link.disconnect = s.link.disconnect) (hm : u.mb = s.mb)
        (ht : u.tx = s.tx) : u.linkSound :=
      State.linkSound_mono hs hl hd (by rw [hm]) (by rw [ht]; exact id) fun hq => by simp [hp.1] at hq
    split
    · split
      · exact inPacket rfl rfl rfl rfl
      · exact hs
    · exact inPacket rfl rfl rfl rfl
    · exact hs
  next => exact hs

/-- R17, R18, R21: a connected station that stays between packets. -/
theorem State.linkSound.stays_between {s t : State} (hs : s.linkSound)
    (hb : s.link.state = .waitFree ∨ s.link.state = .idle ∨ s.link.state = .recovery)
    (hb' : t.link.state = .waitFree ∨ t.link.state = .idle ∨ t.link.state = .recovery)
    (hd : t.link.disconnect = s.link.disconnect) (hm : t.mb = s.mb) (hx : t.tx = s.tx) (hp : t.pins = s.pins) : t.linkSound := by
  obtain ⟨hoff, hw, hl, ha⟩ := hs.between hb
  refine State.linkSound_online (by rwa [hm]) ?_ (by rwa [hd]) (fun _ => by rwa [hp]) (fun h => absurd ha (by rwa [hx] at h))
  rcases hb' with h | h | h <;> simp [h]

/-- R9, R16: with no disconnection waiting, a packet's end leaves the station in WAIT_FREE. -/
theorem State.endPacket_state {s : State} (h : s.link.disconnect ≠ .wanted) (n : Nat) : (s.endPacket n).link.state = .waitFree := by
  have hl : (if s.sending && decide (s.link.slot = .pending) then s.countRefusal else s).link = s.link := by split <;> simp
  simp only [State.endPacket]
  generalize (if s.sending && decide (s.link.slot = .pending) then s.countRefusal else s) = u at hl
  split
  next hw => exact absurd (by simpa [hl] using hw) h
  next => rfl

/-- R20, R21: a time-out inside a packet leads to RECOVERY, or takes the disconnection that waits. -/
theorem exec_linkTimeout_linkSound {s t : State} (hs : s.linkSound) (h : exec .linkTimeout s = .next t) : t.linkSound := by
  rw [← next_eq h]
  split
  next hp =>
    have he := State.endPacket_linkSound hs hp 0
    dsimp only
    split
    · exact he
    next hw =>
      have hw : s.link.disconnect ≠ .wanted := by simpa using hw
      refine State.linkSound_congr (State.post_linkView _ _ _ _ _) ?_
      exact he.stays_between (.inl (State.endPacket_state hw 0)) (.inr (.inr rfl)) rfl rfl rfl rfl
  next => exact hs

/-- R17: the bus-free interval keeps a station in WAIT_FREE or leads it to IDLE. -/
theorem exec_busFreeInterval_linkSound {n : Nat} {s t : State} (hs : s.linkSound) (h : exec (.busFreeInterval n) s = .next t) :
    t.linkSound := by
  rw [← next_eq h]
  split
  next hw =>
    dsimp only
    split
    · exact hs.stays_between (.inl hw) (.inr (.inl rfl)) rfl rfl rfl rfl
    · exact State.linkSound_congr rfl hs
  next => exact hs

theorem exec_recoveryBusFree_linkSound {s t : State} (hs : s.linkSound) (h : exec .recoveryBusFree s = .next t) : t.linkSound := by
  rw [← next_eq h]
  split
  next hr => exact hs.stays_between (.inr (.inr hr)) (.inl rfl) rfl rfl rfl rfl
  next => exact hs

theorem exec_irregularTlcFall_linkSound {s t : State} (hs : s.linkSound) (h : exec .irregularTlcFall s = .next t) : t.linkSound := by
  rw [← next_eq h]
  split
  next hi => exact hs.stays_between (.inr (.inl hi)) (.inl rfl) rfl rfl rfl rfl
  next => split <;> exact State.linkSound_congr rfl hs

/-- R177: a reset station is OFFLINE, DISCONNECTED and drives nothing. -/
theorem reset_linkSound : State.reset.linkSound := by
  simp [State.linkSound, State.reset, membershipCleared, linkReset, pinsReleased, transmitterEmpty]

/-- Every command keeps the invariant. -/
theorem exec_keeps_linkSound {c : Instr} {s t : State} (hs : s.linkSound) (h : exec c s = .next t) : t.linkSound := by
  have view (hv : t.linkView = s.linkView) : t.linkSound := State.linkSound_congr hv hs
  have host {n : Nat} {f : State → State × Status × List Byte} (hf : (f s).1.linkView = s.linkView) : (s.evaluate n f).linkSound :=
    State.linkSound_congr (State.evaluate_linkView hf) hs
  cases c with
  | powerOnReset => rw [← next_eq h]; exact State.linkSound_congr rfl reset_linkSound
  | softReset i =>
    rw [← next_eq h]
    split
    · exact State.linkSound_congr ((State.post_linkView _ _ _ _ _).trans rfl) reset_linkSound
    · exact hs
  | transactionStart => rw [← next_eq h]; split <;> exact hs
  | framingError => rw [← next_eq h]; split <;> exact hs
  | transactionEnd => rw [← next_eq h]; split <;> exact hs
  | eventRecordRemoval => rw [← next_eq h]; split <;> exact hs
  | badCommand => rw [← next_eq h]; split; exacts [host rfl, hs]
  | configure => rw [← next_eq h]; exact host (by simp)
  | loadFontB => rw [← next_eq h]; exact host (by simp)
  | goOnline => rw [← next_eq h]; exact State.evaluate_linkSound hs (State.goOnline_linkSound hs)
  | goOffline => rw [← next_eq h]; exact State.evaluate_linkSound hs (State.goOffline_linkSound hs)
  | reset => rw [← next_eq h]; exact host rfl
  | beginBatch => rw [← next_eq h]; exact host (by simp)
  | endBatch => rw [← next_eq h]; exact host (by simp)
  | putCells => rw [← next_eq h]; exact host (by simp)
  | fill => rw [← next_eq h]; exact host (by simp)
  | copy => rw [← next_eq h]; exact host (by simp)
  | setPane => rw [← next_eq h]; exact host (by simp)
  | setPalette => rw [← next_eq h]; exact host (by simp)
  | claim => rw [← next_eq h]; exact host (by simp)
  | handover => rw [← next_eq h]; exact host (by simp)
  | release => rw [← next_eq h]; exact host (by simp)
  | readEvent => rw [← next_eq h]; exact host (by simp)
  | readStatus => rw [← next_eq h]; exact host (by dsimp only; split <;> rfl)
  | readPane => rw [← next_eq h]; exact host (by split <;> rfl)
  | readCells => rw [← next_eq h]; exact host (by split <;> rfl)
  | readRoster => rw [← next_eq h]; exact host rfl
  | startCondition => exact exec_startCondition_linkSound hs h
  | startSeen => exact exec_startSeen_linkSound hs h
  | lostInArbitration => exact exec_lostInArbitration_linkSound hs h
  | holdPoint => exact exec_holdPoint_linkSound hs h
  | packetRefused => rw [← next_eq h]; exact State.refused_linkSound hs
  | observerReceipt =>
    rw [← next_eq h]
    split
    · split
      · exact State.observeReceipt_linkSound hs _
      · exact State.refused_linkSound hs
    · exact hs
  | foundTaken i p =>
    rw [← next_eq h]
    exact State.take_linkSound_of_view hs _ i p fun u => by split; exacts [rfl, u.deliverJoin_linkView i p]
  | joinTaken i p => rw [← next_eq h]; exact State.take_linkSound_of_view hs _ i p (State.deliverJoin_linkView · i p)
  | joinDenyTaken i p => rw [← next_eq h]; exact State.take_linkSound_of_view hs _ i p fun _ => rfl
  | joinDoneTaken i p => rw [← next_eq h]; exact State.take_linkSound hs _ i p fun _ hu => State.deliverJoinDone_linkSound hu i p
  | leaveTaken i p => rw [← next_eq h]; exact State.take_linkSound hs _ i p fun _ hu => State.deliverLeave_linkSound hu i
  | claimTaken i p => rw [← next_eq h]; exact State.take_linkSound_of_view hs _ i p (State.deliverClaim_linkView · i p)
  | handoverTaken i p => rw [← next_eq h]; exact State.take_linkSound_of_view hs _ i p (State.deliverHandover_linkView · i p)
  | releaseTaken i p => rw [← next_eq h]; exact State.take_linkSound_of_view hs _ i p (State.deliverRelease_linkView · i p)
  | retractTaken i p => rw [← next_eq h]; exact State.take_linkSound_of_view hs _ i p (State.deliverRetract_linkView · i p)
  | closeTaken i p => rw [← next_eq h]; exact State.take_linkSound_of_view hs _ i p (State.deliverClose_linkView · i p)
  | putCellsTaken i p => rw [← next_eq h]; exact State.take_linkSound_of_view hs _ i p (State.deliverUpdate_linkView · _ i p)
  | fillTaken i p => rw [← next_eq h]; exact State.take_linkSound_of_view hs _ i p (State.deliverUpdate_linkView · _ i p)
  | copyTaken i p => rw [← next_eq h]; exact State.take_linkSound_of_view hs _ i p (State.deliverUpdate_linkView · _ i p)
  | setPaneTaken i p => rw [← next_eq h]; exact State.take_linkSound_of_view hs _ i p (State.deliverUpdate_linkView · _ i p)
  | setPaletteTaken i p => rw [← next_eq h]; exact State.take_linkSound_of_view hs _ i p (State.deliverUpdate_linkView · _ i p)
  | snapHeadTaken i p => rw [← next_eq h]; exact State.take_linkSound_of_view hs _ i p (State.deliverHead_linkView · i p)
  | snapPaneTaken i p =>
    rw [← next_eq h]
    exact State.take_linkSound_of_view hs _ i p fun u => u.assemble_linkView i _ _ fun _ _ => rfl
  | snapFreeTaken i p =>
    rw [← next_eq h]
    exact State.take_linkSound_of_view hs _ i p fun u => u.assemble_linkView i _ _ fun u r => u.appendFree_linkView _ _
  | snapPaletteTaken i p =>
    rw [← next_eq h]
    exact State.take_linkSound_of_view hs _ i p fun u => u.assemble_linkView i _ _ fun _ _ => rfl
  | snapCellsTaken i p =>
    rw [← next_eq h]
    exact State.take_linkSound_of_view hs _ i p fun u => u.assemble_linkView i _ _ fun _ _ => rfl
  | snapEndTaken i p => rw [← next_eq h]; exact State.take_linkSound_of_view hs _ i p (State.deliverEnd_linkView · i p)
  | stopCondition => rw [← next_eq h]; split; exacts [State.endPacket_linkSound hs ‹_› _, hs]
  | packetBreak => rw [← next_eq h]; split; exacts [State.endPacket_linkSound hs ‹_› _, hs]
  | packetAbandoned => rw [← next_eq h]; split; exacts [State.endPacket_linkSound hs ‹_› _, hs]
  | linkTimeout => exact exec_linkTimeout_linkSound hs h
  | busFreeInterval => exact exec_busFreeInterval_linkSound hs h
  | recoveryBusFree => exact exec_recoveryBusFree_linkSound hs h
  | irregularTlcFall => exact exec_irregularTlcFall_linkSound hs h
  | tlfRise => exact view (exec_tlfRise_linkView h)
  | tlfRiseEffects => exact view (exec_tlfRiseEffects_linkView h)
  | stallLimit => exact exec_stallLimit_linkSound hs h
  | transferLimit => exact exec_transferLimit_linkSound hs h
  | exhaustedUpdate => exact view (exec_exhaustedUpdate_linkView h)
  | exhaustedRequest => exact exec_exhaustedRequest_linkSound hs h
  | selfDemotion => exact exec_selfDemotion_linkSound hs h
  | listenIntervalExpiry => exact view (exec_listenIntervalExpiry_linkView h)
  | requestTimerExpiry => exact view (exec_requestTimerExpiry_linkView h)
  | enterFront => exact view (exec_enterFront_linkView h)
  | applyClear => exact view (exec_apply_linkView (by simp) h)
  | applyPutCells => exact view (exec_apply_linkView (by simp) h)
  | applyFill => exact view (exec_apply_linkView (by simp) h)
  | applyCopy => exact view (exec_apply_linkView (by simp) h)
  | applySetPane => exact view (exec_apply_linkView (by simp) h)
  | applySetPalette => exact view (exec_apply_linkView (by simp) h)
  | applyRelease => exact view (exec_apply_linkView (by simp) h)
  | applyPassEnd => exact view (exec_apply_linkView (by simp) h)
  | frontEnd => rw [← next_eq h]; split <;> exact hs
  | syncEnd => rw [← next_eq h]; split <;> exact hs
  | tlfRelease => rw [← next_eq h]; split <;> exact hs
  | holdLineEnd => rw [← next_eq h]; dsimp only; (repeat' split) <;> exact hs
  | followingWaitLimit => rw [← next_eq h]; split <;> exact hs
  | frameHoldLimit => exact view (exec_frameHoldLimit_linkView h)
  | backEnd => rw [← next_eq h]; split <;> exact hs
  | spanListBuild => exact view (exec_spanListBuild_linkView h)

/-- A predicate that every command keeps and that does not read the queue of waiting commands is kept by every step. -/
theorem step_keeps_of_exec {P : State → Prop} (hq : ∀ (s : State) (q : List Instr), P s → P { s with pending := q })
    (he : ∀ (c : Instr) (s t : State), P s → exec c s = .next t → P t) {s t : State} (hs : P s) (h : step s = .next t) : P t := by
  rw [step] at h
  split at h
  · cases h; exact hs
  next c rest _ => exact he c _ t (hq s rest hs) h

/-- Settles O7: every command keeps what `State.linkSound` says, and it does not read the queue of waiting commands. -/
theorem stepKeepsLink : Obligations.StepKeepsLink := by
  intro s t hs h
  exact step_keeps_of_exec (fun _ _ hs => hs) (fun _ _ _ hs h => exec_keeps_linkSound hs h) hs h

end Sys2Proof.Machine
end

section
/-! PROOF. O17: a packet's bits, its check, the drivers slot by slot and the receiver's samples. -/

namespace Sys2Proof.Machine

/-! ### The check (R5) -/

/-- R5: the generator enters where the bit shifted out and the bit taken in differ. -/
theorem crcBit_eq (c : Half) (b : Bool) : crcBit c b = if c.getLsbD 15 = b then c <<< 1 else (c <<< 1) ^^^ 0x1021 := by
  have hm : c.msb = c.getLsbD 15 := BitVec.msb_eq_getLsbD_last c
  simp [crcBit, hm]

/-- R5: one more byte is taken in bit by bit, most significant first. -/
theorem crc16_append_byte (bytes : List Byte) (b : Byte) : crc16 (bytes ++ [b])
    = [7, 6, 5, 4, 3, 2, 1, 0].foldl
        (fun (c : Half) n => if c.getLsbD 15 = b.getLsbD n then c <<< 1 else (c <<< 1) ^^^ 0x1021) (crc16 bytes) := by
  simp only [crc16, List.foldl_append, List.foldl_cons, List.foldl_nil, crcByte, byteBits, crcBit_eq]

/-! ### A packet's length and bits (R3, R4) -/

/-- R3: the length field holds the number of payload bytes. -/
theorem Packet.length_toNat {p : Packet} (h : p.payload.length ≤ 63) : p.length.toNat = p.payload.length := by
  rw [Packet.length, BitVec.toNat_ofNat]; omega

theorem Packet.bits_length_eq {p : Packet} (h : p.payload.length ≤ 63) : p.bits.length = 32 + 8 * p.payload.length := by
  rw [p.bits_length h, bitSlots, Packet.length_toNat h]

/-- R3, R5: what a formed packet of at most 32 payload bytes carries, and what a receiver that samples it as sent finds. -/
theorem Packet.received_good {p : Packet} (h : p.payload.length ≤ 32) :
    p.bitTimes = 35 + 8 * p.payload.length ∧ p.received.checkOk = true ∧ p.received.lengthOk = true
    ∧ p.received.payload = p.payload ∧ p.received.length.toNat = p.payload.length := by
  have hl : p.length.toNat = p.payload.length := Packet.length_toNat (by omega)
  refine ⟨?_, ?_, ?_, rfl, hl⟩
  · rw [Packet.bitTimes, Packet.bits_length_eq (by omega)]; omega
  · simp [RxPacket.checkOk, RxPacket.computed, Packet.received, Packet.check, Packet.covered]
  · simpa [RxPacket.lengthOk, Packet.received, hl] using h

/-- R5: the bytes the check covers, class through payload. -/
theorem Packet.covered_eq (p : Packet) :
    p.covered = halfBytes (p.cls ++ p.sender ++ p.kind ++ BitVec.ofNat 6 p.payload.length) ++ p.payload := by
  rw [Packet.covered, headerHalf, Packet.length]

/-- R3: each byte goes most significant bit first, the check last. -/
theorem Packet.bits_eq (p : Packet) : p.bits = (p.covered ++ [p.check.extractLsb' 8 8, p.check.extractLsb' 0 8]).flatMap fun b =>
    [7, 6, 5, 4, 3, 2, 1, 0].map fun n => b.getLsbD n := by
  simp only [Packet.bits, halfBytes]
  rfl

/-- R3, R4: with a bit slot still to come, no packet has been read. -/
theorem RxPacket.ofBits_take {p : Packet} (h : p.payload.length ≤ 63) {n : Nat} (hn : n < p.bits.length) :
    RxPacket.ofBits (p.bits.take n) = none := by
  rw [Packet.bits_length_eq h] at hn
  have hl := Packet.length_toNat h
  rw [RxPacket.ofBits, Packet.bits, wholeBytes_take]
  simp only [Packet.covered, halfBytes, List.cons_append, List.nil_append]
  rcases hm : n / 8 with _ | _ | m
  · rfl
  · rfl
  · have hlen : (((p.payload ++ [p.check.extractLsb' 8 8, p.check.extractLsb' 0 8]).take m).drop p.payload.length).length < 2 := by
      simp only [List.length_drop, List.length_take, List.length_append, List.length_cons, List.length_nil]; omega
    simp only [List.take_succ_cons, halfOf_bytes, headerHalf_fields, hl]
    generalize ((p.payload ++ [p.check.extractLsb' 8 8, p.check.extractLsb' 0 8]).take m).drop p.payload.length = rest at hlen
    match rest, hlen with
    | [], _ => rfl
    | [_], _ => rfl

/-- R14: the sample after the last bit slot is the refusal slot's. -/
theorem refusalSample_bits {p : Packet} (h : p.payload.length ≤ 63) (b : Bool) (rest : List Bool) :
    refusalSample p.length (p.bits ++ b :: rest) = some b := by
  rw [refusalSample, ← p.bits_length h]
  simp

/-! ### The drivers (R6, R8, R9, R13, R16) -/

theorem State.drive_ends_sender {s : State} (h : s.link.state = .transmitting) (b : Bool) (c : Clock) :
    s.drive (.start b) = ⟨true, b⟩ ∧ s.drive (.stop c) = ⟨true, decide (c = .low)⟩ := by
  simp [State.drive, State.sending, Clock.pulls, h]

/-- R13: an evaluator that has not decided holds TLC. -/
theorem State.drive_refusal_undecided {s : State} (hr : s.link.role = some .evaluator) (hd : s.link.decision = none) (c : Clock) :
    s.drive (.refusal c) = ⟨false, true⟩ := by
  simp [State.drive, hr, hd]

/-- R13: with its decision made it drives TLD alone, and that if it refuses; a sender clocks. -/
theorem State.drive_refusal_decided {s : State} {d : Admission} (hd : s.link.decision = some d) (c : Clock) :
    s.drive (.refusal c) = ⟨d.refuse, decide (s.link.state = .transmitting ∧ c = .low)⟩ := by
  simp [State.drive, State.sending, Clock.pulls, hd]

/-- R13: a station that evaluates nothing drives no more than its clock. -/
theorem State.drive_refusal_observer {s : State} (hr : s.link.role ≠ some .evaluator) (hd : s.link.decision = none) (c : Clock) :
    s.drive (.refusal c) = ⟨false, decide (s.link.state = .transmitting ∧ c = .low)⟩ := by
  simp [State.drive, State.sending, Clock.pulls, hr, hd]

/-! ### From slot to slot (R8) -/

/-- R8: in its high half a slot ends with TLC's fall, the sender's own after a half-bit or another's. -/
theorem Clock.slotEnds_high {e : ClockEvent} (he : e = .fall ∨ e = .halfBit) : Clock.high.slotEnds e = true := by
  rcases he with rfl | rfl <;> rfl

/-- R3, R8: a bit slot is followed by the next, and the last one by the refusal slot, which the length field numbers. -/
theorem Place.bit_next {p : Packet} (h : p.payload.length ≤ 63) (k : Nat) {e : ClockEvent} (he : e = .fall ∨ e = .halfBit) :
    (k + 1 < p.bits.length → (Place.bit k .high).next p.bits.length e = some (.bit (k + 1) .low))
    ∧ (k + 1 = p.bits.length → (Place.bit k .high).next p.bits.length e = some (.refusal .low) ∧ fieldAt p.length (k + 1) = .refusal) := by
  simp only [Place.next, Clock.slotEnds_high he, if_true]
  refine ⟨fun hk => by simp [hk], fun hk => ⟨by simp [hk], ?_⟩⟩
  rw [fieldAt_refusal, hk, Packet.bits_length_eq h, Packet.length_toNat h]

/-! ### The receiver's samples (R9) -/

/-- R9: a station in a packet takes one more sample exactly at a rise of TLC. -/
theorem State.tldSamples_append {s : State} (h : s.link.state = .transmitting ∨ s.link.state = .receiving) (levels : List (Bool × Bool))
    (tlc tld : Bool) : s.tldSamples (levels ++ [(tlc, tld)])
      = s.tldSamples levels ++ if tlc = true ∧ (levels.getLast?.map (·.1)).getD true = false then [tld] else [] := by
  have hp : s.packetInProgress = true := by simpa [State.packetInProgress] using h
  simp only [State.tldSamples, hp, if_true, risingSamples_append, Bool.and_eq_true, Bool.not_eq_true']

theorem State.tldSamples_outside {s : State} (ht : s.link.state ≠ .transmitting) (hr : s.link.state ≠ .receiving)
    (levels : List (Bool × Bool)) : s.tldSamples levels = [] := by
  simp [State.tldSamples, State.packetInProgress, ht, hr]

/-- Settles O17, part by part: the packet and its check, the drivers at each place, the way from slot to slot, and the samples. -/
theorem packetBitsAndCheck : Obligations.PacketBitsAndCheck := by
  refine ⟨fun p hp => ?_, rfl, crc16_append_byte, fun s k c => ⟨fun a ht ha => State.drive_bit ht ha k c,
    fun hr => State.drive_receiver hr _ (by simp)⟩, fun s b c => ⟨fun ht => State.drive_ends_sender ht b c,
    fun hr => ⟨State.drive_receiver hr _ (by simp), State.drive_receiver hr _ (by simp)⟩,
    fun hr hd => State.drive_refusal_undecided hr hd c, fun d hd => State.drive_refusal_decided hd c,
    fun hr hd => State.drive_refusal_observer hr hd c⟩, fun slots b => ⟨Place.start_fall slots b, ?_⟩,
    fun p k e hp he => Place.bit_next (by omega) k he,
    fun s => ⟨fun h => ⟨?_, State.tldSamples_append h⟩, State.tldSamples_outside⟩,
    fun p rest hp => ⟨RxPacket.ofBits_bits p hp rest, fun n hn => RxPacket.ofBits_take hp hn, fun b => refusalSample_bits hp b rest⟩⟩
  · obtain ⟨htimes, hcheck, hlength, hpayload, hlen⟩ := Packet.received_good hp
    refine ⟨htimes, hcheck, hlength, hpayload, hlen, ?_⟩
    dsimp only
    rw [← Packet.covered_eq]
    exact ⟨by rw [Packet.check], by rw [Packet.received], p.bits_eq⟩
  · simp [Place.next]
  · simp [State.tldSamples, risingSamples]

end Sys2Proof.Machine
end

section
/-! PROOF. O31: the Transmitter's choice, place by place, and the start condition. -/

namespace Sys2Proof.Machine

/-! ### The conditions of the choice, in the state's own terms -/

/-- R35: a packet of the Transmitter has eight counted refusals. -/
theorem Transmitter.exhausted_iff (t : Transmitter) : t.exhausted = true ↔
    (∃ q ∈ t.queue, 8 ≤ q.refusals) ∨ (∃ r ∈ t.retracts, 8 ≤ r.refusals) ∨ (∃ d ∈ t.denials, 8 ≤ d.refusals)
      ∨ (∃ d, t.joinDone = some d ∧ 8 ≤ d.refusals) ∨ 8 ≤ t.closeOpen ∨ 8 ≤ t.closeNext ∨ 8 ≤ t.snapRefusals := by
  simp only [Transmitter.exhausted, Bool.or_eq_true, List.any_eq_true, Option.any_eq_true, decide_eq_true_eq, or_assoc]
  rfl

/-- R30, R50, R51: an unfinished batch of this station has entries in an epoch. -/
theorem State.unfinishedIn_iff (s : State) (c : EpochClass) : s.unfinishedIn c = true ↔ ∃ b ∈ s.tx.batches,
    (b.ended = false ∨ (∃ q ∈ s.tx.queue, q.request.tag? = some b.tag) ∨ b.broken = true)
      ∧ ∃ x ∈ s.ep.staging, x.sender = s.stationId ∧ x.tag = some b.tag ∧ x.cls = c := by
  simp [State.unfinishedIn, Transmitter.unfinished, Transmitter.queuedInBatch, Epochs.batchIn, or_assoc, and_assoc]

/-- R50. -/
theorem State.closeOpenDue_iff (s : State) : s.closeOpenDue = true ↔
    s.mb.state = .member ∧ ¬ idIn s.stationId s.ep.openClose = true ∧ ¬ s.unfinishedIn .openE = true := by
  simp [State.closeOpenDue, State.isMember, and_assoc]

/-- R51. -/
theorem State.closeNextDue_iff (s : State) : s.closeNextDue = true ↔
    s.mb.state = .member ∧ idIn s.stationId s.ep.openClose = true ∧ ¬ idIn s.stationId s.ep.nextClose = true
      ∧ ¬ s.unfinishedIn .nextE = true ∧ (∀ q ∈ s.tx.queue, q.request.goesIntoEpoch = false)
      ∧ (s.mb.joinQueue = [] ∨ ∃ x ∈ s.ep.staging, x.sender = s.stationId ∧ x.cls = .nextE) := by
  simp [State.closeNextDue, State.isMember, Epochs.entriesOf, and_assoc]

/-- R24: FOUND and JOIN are the join kinds that are queued; every other request is of class UPDATE or CONTROL. -/
theorem Request.transferHolds_iff (r : Request) :
    (r.kind.isUpdate || (r.kind.isControl && !r.kind.isJoinKind)) = true ↔ r ≠ .found ∧ r ≠ .join := by
  cases r with
  | update tag u => cases u <;> simp [Request.kind, Update.kind, Kind.isUpdate, Kind.code]
  | _ => simp [Request.kind, Kind.isUpdate, Kind.isControl, Kind.isJoinKind, Kind.code]

/-- R33. -/
theorem State.held_iff (s : State) (r : Request) : s.held r = true ↔
    (s.mb.transfer ≠ none ∧ r ≠ .found ∧ r ≠ .join)
      ∨ (s.mb.joinQueue ≠ [] ∧ idIn s.stationId s.ep.openClose = true ∧ r.goesIntoEpoch = true)
      ∨ (r.addsEntry = true ∧ 256 < s.ep.gatheringCount + 1)
      ∨ (idIn s.stationId s.ep.openClose = true ∧ idIn s.stationId s.ep.nextClose = true ∧ r.goesIntoEpoch = true) := by
  rw [← r.transferHolds_iff]
  simp only [State.held, State.inTransfer, State.heldForRoom, State.stagingFull, Bool.or_eq_true, Bool.and_eq_true,
    Bool.not_eq_true', List.isEmpty_eq_false_iff, Option.isSome_iff_ne_none, decide_eq_true_eq, and_assoc, or_assoc]
  rfl

/-- R24. -/
theorem State.allows_iff (s : State) (r : Request) : s.allows r = true ↔
    (r = .found ∧ s.mb.state = .founding) ∨ (r = .join ∧ s.mb.state = .requesting)
      ∨ (r ≠ .found ∧ r ≠ .join ∧ s.mb.state = .member) := by
  cases r <;> simp [State.allows, State.isMember]

/-- R84: the source of the transfer in flight. -/
theorem State.isSource_iff (s : State) : s.isSource = true ↔
    s.mb.state = .member ∧ ∃ t, s.mb.transfer = some t ∧ t.source = s.stationId := by
  rw [State.isSource]
  split <;> simp [State.isMember, *]

/-! ### The choice -/

/-- R31, R33: a RETRACT is offered. -/
def State.offersRetract (s : State) : Bool := s.isMember && !s.tx.retracts.isEmpty && !s.inTransfer

/-- R24, R33: the head of the queue is offered. -/
def State.offersHead (s : State) : Bool :=
  s.tx.queue.head?.any fun q => s.allows q.request && !s.held q.request && (s.tx.retracts.isEmpty || !s.inTransfer)

/-- R24, R85: the snapshot packet is offered. -/
def State.offersSnapshot (s : State) : Bool := s.isSource && s.mb.snapPos.isSome && !s.ep.pendingApply

/-- R32: the first candidate of the fixed order. -/
theorem State.offer_eq (s : State) : s.offer =
    if s.tx.exhausted then none
    else if s.offersRetract then some .retract
    else if s.isLowest && !s.tx.denials.isEmpty then some .joinDeny
    else if s.isJoiner && s.tx.joinDone.isSome then some .joinDone
    else if s.closeOpenDue then some (.close s.ep.openNum)
    else if s.closeNextDue then some (.close (s.ep.openNum + 1))
    else if s.offersHead then some .queueHead
    else if s.offersSnapshot then some .snapshot
    else none := by
  rw [State.offer, State.closeDue]
  by_cases ho : s.closeOpenDue = true
  · simp [ho, State.offersRetract]
  by_cases hn : s.closeNextDue = true
  · simp [ho, hn, State.offersRetract]
  by_cases hq : s.tx.queue = []
  · simp [ho, hn, hq, State.offersRetract, State.offersHead, State.offersSnapshot]
  obtain ⟨q, rest, hq⟩ := List.exists_cons_of_ne_nil hq
  simp [ho, hn, hq, State.offersRetract, State.offersHead, State.offersSnapshot]

theorem State.offersRetract_iff (s : State) : s.offersRetract = true ↔
    s.mb.state = .member ∧ s.tx.retracts ≠ [] ∧ s.mb.transfer = none := by
  simp [State.offersRetract, State.isMember, State.inTransfer, and_assoc]

theorem State.offersDenial_iff (s : State) : (s.isLowest && !s.tx.denials.isEmpty) = true ↔
    s.mb.state = .member ∧ lowestId s.mb.roster = some s.stationId ∧ s.tx.denials ≠ [] := by
  simp [State.isLowest, State.isMember, and_assoc]

theorem State.offersDone_iff (s : State) : (s.isJoiner && s.tx.joinDone.isSome) = true ↔
    s.mb.state = .joining ∧ s.tx.joinDone ≠ none := by
  simp [State.isJoiner, Option.isSome_iff_ne_none]

theorem State.offersHead_iff (s : State) : s.offersHead = true ↔ ∃ q rest, s.tx.queue = q :: rest ∧ s.allows q.request = true
    ∧ ¬ s.held q.request = true ∧ (s.tx.retracts = [] ∨ s.mb.transfer = none) := by
  cases hq : s.tx.queue <;> simp [State.offersHead, State.inTransfer, hq, and_assoc]

theorem State.offersSnapshot_iff (s : State) : s.offersSnapshot = true ↔
    s.mb.state = .member ∧ (∃ t, s.mb.transfer = some t ∧ t.source = s.stationId) ∧ s.mb.snapPos ≠ none ∧ s.ep.pendingApply = false := by
  simp [State.offersSnapshot, State.isSource_iff, Option.isSome_iff_ne_none, and_assoc]

/-! ### The start condition -/

/-- R12: a member and the joiner evaluate, any other station observes. -/
theorem State.roleNow_eq (s : State) :
    s.roleNow = if s.mb.state = .member ∨ s.mb.state = .joining then .evaluator else .observer := by
  simp [State.roleNow, State.evaluates, State.isMember, State.isJoiner]

/-- Settles O31: the choice by `State.offer_eq`, each place by the meaning of its condition; the start by the packet it begins. -/
theorem startCondition : Obligations.StartCondition := by
  refine ⟨?_, fun s n => ⟨fun c hc hi hn hf => ?_, fun h => ?_⟩⟩
  · intro s exhausted closedOpen closedNext unfinishedIn openDue nextDue held allowed retract deny done head snap
    have hexhausted : s.tx.exhausted = true ↔ exhausted := s.tx.exhausted_iff
    have hretract : s.offersRetract = true ↔ retract := s.offersRetract_iff
    have hdeny : (s.isLowest && !s.tx.denials.isEmpty) = true ↔ deny := s.offersDenial_iff
    have hdone : (s.isJoiner && s.tx.joinDone.isSome) = true ↔ done := s.offersDone_iff
    have hopen : s.closeOpenDue = true ↔ openDue := by rw [s.closeOpenDue_iff, s.unfinishedIn_iff]
    have hnext : s.closeNextDue = true ↔ nextDue := by rw [s.closeNextDue_iff, s.unfinishedIn_iff]
    have hhead : s.offersHead = true ↔ head := by simp only [s.offersHead_iff, s.allows_iff, s.held_iff]; rfl
    have hsnap : s.offersSnapshot = true ↔ snap := s.offersSnapshot_iff
    have hopenNext : nextDue → ¬ openDue := fun h h' => h'.2.1 h.2.1
    rw [s.offer_eq]
    refine ⟨fun h => if_pos (hexhausted.2 h), fun h0 h => ?_, fun h0 h1 h => ?_, fun h0 h1 h2 h => ?_, fun h0 h1 h2 h3 => ?_⟩
    all_goals rw [if_neg (mt hexhausted.1 h0)]
    · exact if_pos (hretract.2 h)
    all_goals rw [if_neg (mt hretract.1 h1)]
    · exact if_pos (hdeny.2 h)
    all_goals rw [if_neg (mt hdeny.1 h2)]
    · exact if_pos (hdone.2 h)
    rw [if_neg (mt hdone.1 h3)]
    refine ⟨fun h => if_pos (hopen.2 h), fun h => ?_, fun h4 h5 => ?_⟩
    · rw [if_neg (mt hopen.1 (hopenNext h)), if_pos (hnext.2 h)]
    rw [if_neg (mt hopen.1 h4), if_neg (mt hnext.1 h5)]
    refine ⟨fun h => if_pos (hhead.2 h), fun h6 h => ?_, fun h6 h7 => ?_⟩
    · rw [if_neg (mt hhead.1 h6), if_pos (hsnap.2 h)]
    · rw [if_neg (mt hhead.1 h6), if_neg (mt hsnap.1 h7)]
  · simp only [exec, execStartCondition, hc]
    simp [hi, hn, hf, State.beginPacket, s.roleNow_eq]
  · simp only [exec, execStartCondition]
    split
    next c hc =>
      rw [if_neg]
      rintro ⟨hi, hn, hf⟩
      simp [hi, hf, hc] at h
      omega
    next => rfl

end Sys2Proof.Machine
end

section
/-! PROOF. O4: the values power-on reset leaves, and that the reset state is sound. -/

namespace Sys2Proof.Machine

/-- R100: every pane stands as cleared. -/
theorem reset_pane (i : Fin 32) : State.reset.pane i = paneCleared := by
  simp [State.pane, State.reset, panesCleared]

/-- R117, R121: an empty Cell Store reads as blank cells. -/
theorem readCell_nil (o : Nat) : readCell [] o = ⟨0x20, 0x07⟩ := by
  simp [readCell, Memory.read, blankByte]

/-- R154: every bank 1–3 is a copy of bank 0. -/
theorem reset_palettes (b : Fin 3) : State.reset.palettes[b] = bank0 := by
  simp [State.reset, palettesCleared]

/-- R119, R120: with every pane FREE and nothing granted, there is no extent. -/
theorem reset_allExtents : State.reset.allExtents = [] := by
  have : ∀ i : Fin 32, (State.reset.pane i).control.extent? = none := fun i => by rw [reset_pane]; rfl
  simp only [State.allExtents, this, List.filterMap_none]
  rfl

theorem reset_memorySound : State.reset.memorySound :=
  ⟨memory_reset.1, memory_reset.2, by simp [State.reset, rasterReset]⟩

theorem reset_driversSound : State.reset.driversSound := ⟨rfl, rfl, rfl, fun h => absurd h (by decide)⟩

theorem reset_closeSetsNested : State.reset.closeSetsNested := fun i h => by
  simp [State.reset, epochsCleared, idIn] at h

theorem reset_epochsSound : State.reset.epochsSound := by
  simp [State.epochsSound, State.reset, epochsCleared, Epochs.committed, Epochs.applyingEntries, linkReset]

theorem reset_rosterSound : State.reset.rosterSound := by
  simp [State.rosterSound, State.isMember, State.isJoiner, State.reset, membershipCleared]

theorem reset_countsSound : State.reset.countsSound := by
  simp [State.countsSound, State.reset, hostReset, membershipCleared, Config.foreignLimit, transmitterEmpty, BatchState.countOf, rasterReset,
    epochsCleared]

/-- The pane defaults are in the ranges of R99. -/
theorem displayDefaults_inRange (i : Fin 32) : (fullFields (byte i.val) displayDefaults).inRange = true := by
  have hp : paneInRange (byte i.val) = true := by simp [paneInRange, byte]; omega
  simp [SetPaneArgs.inRange, fullFields, hp, displayDefaults, absentOr, rawCursorOf, RawCursor.inRange, Font.code, AttrMode.code, flagByte]

theorem reset_fieldsSound : State.reset.fieldsSound := by
  refine ⟨fun i => ?_, ?_, ⟨fun i e h => ?_, ?_⟩, ?_, ?_, ?_, ?_, ?_⟩
  · rw [reset_pane]; exact displayDefaults_inRange i
  · rw [reset_allExtents]; simp
  · rw [reset_pane] at h; cases h
  all_goals simp [State.reset, epochsCleared, transmitterEmpty, rasterReset, membershipCleared]

/-- Settles O4: each value as `State.reset` gives it, and each soundness by its own lemma. -/
theorem resetState : Obligations.ResetState := by
  refine ⟨⟨rfl, rfl, rfl, rfl⟩, ⟨rfl, rfl, rfl, rfl, rfl⟩, ⟨rfl, rfl, rfl, rfl, rfl, rfl, rfl, rfl, rfl⟩,
    ⟨rfl, rfl, rfl, rfl, rfl, rfl, rfl, rfl, rfl, rfl, rfl, rfl⟩, reset_pane, ⟨fun o _ => readCell_nil o, rfl⟩, reset_palettes,
    ⟨rfl, rfl, fun _ _ => rfl⟩, ⟨rfl, rfl, rfl, rfl, rfl⟩, rfl, reset_memorySound, reset_driversSound, reset_linkSound,
    reset_closeSetsNested, reset_epochsSound, reset_rosterSound, reset_countsSound, reset_fieldsSound⟩

end Sys2Proof.Machine
end

section
/-! PROOF. O33 to O36: the link's moves between packets, the hold point, refused and lost attempts, and the ends of a packet. -/

namespace Sys2Proof.Machine

/-! ### The moves between packets (R7, R17, R18, R21) -/

/-- R17: the interval a station needs in WAIT_FREE. -/
theorem Link.requiredBits_eq (l : Link) : l.requiredBits = if l.fairWait then 16 else 8 := rfl

/-- Settles O33, move by move. -/
theorem linkMoves : Obligations.LinkMoves := by
  intro s
  refine ⟨fun h => ?_, fun e h ht => ?_, fun e h ht => ?_, fun h => ?_, fun h => ?_, fun h => ?_⟩
  · simp only [exec, execStartSeen, if_pos h, State.beginPacket, s.roleNow_eq]
  · rw [← Link.requiredBits_eq] at ht
    simp only [exec, execBusFreeInterval, if_pos h, if_pos ht]
  · rw [← Link.requiredBits_eq] at ht
    simp only [exec, execBusFreeInterval, if_pos h, if_neg (Nat.not_le.2 ht)]
  · simp only [exec, execRecoveryBusFree, if_pos h]
  · simp only [exec, execIrregularTlcFall, if_pos h]
  · have hi : s.link.state ≠ .idle := by rcases h with h | h <;> simp [h]
    simp only [exec, execIrregularTlcFall, if_neg hi, if_pos h]

/-! ### The admission decision (R25) -/

/-- R25, condition 1. -/
theorem RxPacket.damaged_iff (rx : RxPacket) : rx.damaged = true ↔ rx.computed ≠ rx.check ∨ 33 ≤ rx.length.toNat := by
  simp [RxPacket.damaged, RxPacket.checkOk, RxPacket.lengthOk, Nat.lt_iff_add_one_le]

/-- R25, condition 2. -/
theorem RxPacket.outOfCatalogue_iff (rx : RxPacket) : rx.outOfCatalogue = true ↔
    rx.kind? = none ∨ ∃ k, rx.kind? = some k ∧ lengthAllowed k rx.payload = false := by
  cases hk : rx.kind? <;> simp [RxPacket.outOfCatalogue, hk]

/-- R25, condition 3. -/
theorem State.overfills_iff (s : State) (rx : RxPacket) : s.overfills rx = true ↔
    ∃ k, rx.kind? = some k ∧ 0 < entriesAdded k rx.payload ∧ 256 < s.ep.gatheringCount + entriesAdded k rx.payload := by
  cases hk : rx.kind? with
  | none => simp [State.overfills, hk]
  | some k => simp only [State.overfills, hk, Bool.and_eq_true, decide_eq_true_eq, Option.some.injEq, exists_eq_left']; rfl

/-- The join kinds of class CONTROL. -/
theorem Kind.isJoinKind_iff (k : Kind) : k.isJoinKind = false ↔ k ≠ .found ∧ k ≠ .join ∧ k ≠ .joinDeny ∧ k ≠ .joinDone := by
  cases k <;> simp [Kind.isJoinKind]

/-- R25, condition 4. -/
theorem State.transferRefuses_iff (s : State) (rx : RxPacket) : s.transferRefuses rx = true ↔
    s.mb.transfer ≠ none ∧ (rx.cls = 2 ∨ (rx.cls = 0 ∧ ∀ k, rx.kind? = some k →
      k ≠ .found ∧ k ≠ .join ∧ k ≠ .joinDeny ∧ k ≠ .joinDone)) := by
  cases hk : rx.kind? <;>
    simp [State.transferRefuses, State.inTransfer, Option.isSome_iff_ne_none, hk, ← Kind.isJoinKind_iff]

/-- R25, condition 5. -/
theorem State.freezesNext_iff (s : State) (rx : RxPacket) : s.freezesNext rx = true ↔
    s.mb.joinQueue ≠ [] ∧ idIn rx.sender s.mb.roster = true ∧ idIn rx.sender s.ep.openClose = true
      ∧ ∃ k, rx.kind? = some k ∧ (k.isUpdate = true ∨ k = .claim ∨ k = .release) := by
  cases hk : rx.kind? <;> simp [State.freezesNext, hk, and_assoc, or_assoc]

/-- R25, condition 6. -/
theorem State.freezesClose_iff (s : State) (rx : RxPacket) : s.freezesClose rx = true ↔
    s.mb.joinQueue ≠ [] ∧ idIn rx.sender s.mb.roster = true ∧ idIn rx.sender s.ep.openClose = true
      ∧ rx.kind? = some .close ∧ ∀ e ∈ s.ep.staging, e.sender = rx.sender → e.cls ≠ .nextE := by
  simp only [State.freezesClose, Epochs.entriesOf, Bool.and_eq_true, Bool.not_eq_true', List.isEmpty_eq_false_iff, decide_eq_true_eq,
    List.isEmpty_iff, List.filter_eq_nil_iff, not_and, ne_eq]
  tauto

/-- R25: a member refuses on any of the six conditions. -/
theorem State.admission_member {s : State} (h : s.mb.state = .member) (rx : RxPacket) : (s.admission rx).refuse = true ↔
    rx.damaged = true ∨ rx.outOfCatalogue = true ∨ s.overfills rx = true ∨ s.transferRefuses rx = true ∨ s.freezesNext rx = true
      ∨ s.freezesClose rx = true := by
  simp [State.admission, State.isMember, h, or_assoc]

/-- R25: any other evaluator refuses a damaged packet alone. -/
theorem State.admission_other {s : State} (h : s.mb.state ≠ .member) (rx : RxPacket) : (s.admission rx).refuse = rx.damaged := by
  simp [State.admission, State.isMember, h]

/-- R13: at an evaluator the hold point opens and its decision is made. -/
theorem exec_holdPoint_evaluator {s : State} (rx : RxPacket) (hp : s.link.state = .transmitting ∨ s.link.state = .receiving)
    (hs : s.link.slot = .pending) (hr : s.link.role = some .evaluator) (hd : s.link.decision = none) :
    exec (.holdPoint rx) s = .next (s.holdOpens.holdDecided rx) := by
  have hp : s.packetInProgress = true := by simpa [State.packetInProgress] using hp
  simp only [exec, execHoldPoint, hp, hs, hr, hd, and_self, if_true]

/-- R13: an observer drives neither line from the hold point on. -/
theorem exec_holdPoint_observer {s : State} (rx : RxPacket) (hp : s.link.state = .transmitting ∨ s.link.state = .receiving)
    (hs : s.link.slot = .pending) (hr : s.link.role = some .observer) : exec (.holdPoint rx) s = .next s.holdOpens.releaseLink := by
  have hp : s.packetInProgress = true := by simpa [State.packetInProgress] using hp
  simp only [exec, execHoldPoint, hp, hs, hr, and_self, if_true]

/-- Settles O34: what the hold point leaves at an evaluator and at an observer, and the decision by its conditions. -/
theorem holdPoint : Obligations.HoldPoint := by
  intro s rx
  refine ⟨fun hp hs hr hd => exec_holdPoint_evaluator rx hp hs hr hd, fun hp hs hr => exec_holdPoint_observer rx hp hs hr,
    fun hm => ?_, fun hm => ?_⟩
  · rw [State.admission_other hm, rx.damaged_iff]
  · rw [State.admission_member hm, rx.damaged_iff, rx.outOfCatalogue_iff, s.overfills_iff, s.transferRefuses_iff, s.freezesNext_iff,
      s.freezesClose_iff]

/-! ### Refused and lost attempts (R10, R14, R35) -/

/-- R35: a refusal of a packet the Transmitter still holds is counted for its candidate. -/
theorem State.countRefusal_live {s : State} {c : Candidate} {p : Packet} (h : s.tx.attempt = some ⟨c, p, true⟩) :
    s.countRefusal = { s with tx := s.countedTx c } := by
  obtain ⟨_, _, _, ⟨queue, retracts, denials, _, _, _, _, _, attempt⟩, ep, _, _, _, _, _, _, _, _⟩ := s
  obtain rfl : attempt = some ⟨c, p, true⟩ := h
  cases c with
  | queueHead => cases queue <;> rfl
  | retract => cases retracts <;> rfl
  | joinDeny => cases denials <;> rfl
  | joinDone => rfl
  | close n => by_cases hn : n = ep.openNum <;> simp [State.countRefusal, State.countedTx, hn]
  | snapshot => rfl

/-- R40: nothing is counted for a packet the Transmitter holds no longer. -/
theorem State.countRefusal_dropped {s : State} (h : s.tx.attempt.all (fun a => !a.live) = true) : s.countRefusal = s := by
  simp only [State.countRefusal]
  split
  next a ha => simp [show a.live = false by simpa [ha] using h]
  next => rfl

/-- R14: the slot may be sampled by an evaluator that has decided, and by an observer. -/
theorem State.slotOpen_of {s : State} (hp : s.link.state = .transmitting ∨ s.link.state = .receiving) (hs : s.link.slot = .pending)
    (h : s.link.role = some .observer ∨ s.link.decision ≠ none) : s.slotOpen = true := by
  simpa [State.slotOpen, State.packetInProgress, hp, hs, Option.isSome_iff_ne_none] using h

theorem State.sending_iff (s : State) : s.sending = true ↔ s.link.state = .transmitting := by simp [State.sending]

/-- R14: an evaluator's refused slot: its drivers stay as its hold point left them. -/
theorem State.refused_evaluator {s : State} (h : s.slotOpen = true) (hr : s.link.role = some .evaluator) :
    s.refused = { (if s.sending then s.reportRefused else s) with link := { s.link with slot := .refused } } := by
  have hr : s.link.role ≠ some .observer := by simp [hr]
  rw [State.refused, if_pos h]
  split <;> simp

/-- R14: an observer's refused slot: it drives neither line. -/
theorem State.refused_observer {s : State} (h : s.slotOpen = true) (hr : s.link.role = some .observer) :
    s.refused = { (if s.sending then s.reportRefused else s).releaseLink with link := { s.link with slot := .refused } } := by
  rw [State.refused, if_pos h]
  dsimp only
  rw [if_pos hr]
  split <;> simp

/-- R35: a refusal that no transfer refusal excuses is counted, and the attempt is over. -/
theorem State.reportRefused_counted {s : State} (h : ∀ a, s.link.decision = some a → a.transfer = false) :
    s.reportRefused = s.countRefusal.endAttempt := by
  simp only [State.reportRefused]
  split
  next a ha => simp [h a ha]
  next => rfl

/-- R35: a member's own transfer refusal is not counted. -/
theorem State.reportRefused_transfer {s : State} {a : Admission} (hm : s.mb.state = .member) (hd : s.link.decision = some a)
    (hr : a.refuse = true) (ht : a.transfer = true) : s.reportRefused = s.endAttempt := by
  simp [State.reportRefused, State.isMember, hm, hd, hr, ht]

/-- R10, R22: a loss at a slot where the packet has a 1. -/
theorem exec_lostInArbitration_lost {s : State} {slot : Nat} {a : Attempt} (ha : s.tx.attempt = some a)
    (h : s.sending ∧ s.link.slot = .pending ∧ s.link.decision = none ∧ a.packet.bits[slot]? = some true) :
    exec (.lostInArbitration slot) s = .next (match s.link.disconnect with
      | .wanted => s.endAttempt.releaseLink.disconnectNow
      | _ => { s.endAttempt.releaseLink with link := { s.link with state := .receiving, disconnect := .no } }) := by
  rw [exec, execLostInArbitration]
  split
  next b hb =>
    obtain rfl : a = b := by simpa [ha] using hb
    rw [if_pos h]; rfl
  next hb => simp [ha] at hb

/-- Settles O35: the refused slot by role, the counted refusal by its candidate, and the loss by the bit at the slot. -/
theorem refusedAndLostAttempts : Obligations.RefusedAndLostAttempts := by
  refine ⟨fun s hs => ⟨fun hl hr hd => ?_, fun rx hl hr => ?_, fun a hl hr hm hd href htr => ?_, fun a c p hl hr hd htr ha => ?_,
    fun a c p hl hr hd htr ha => ?_, fun rx c p hl hr hd ha => ?_⟩, fun s slot a ha hl hs hd => ⟨fun hb hw => ?_, fun hb hw => ?_, fun hb => ?_⟩⟩
  · have hn : ¬ s.sending = true := by simp [State.sending, hl]
    rw [exec, execPacketRefused, State.refused_evaluator (State.slotOpen_of (.inr hl) hs (.inr hd)) hr, if_neg hn]
  · have hn : ¬ s.sending = true := by simp [State.sending, hl]
    rw [exec, execObserverReceipt, if_pos hr, if_neg Bool.false_ne_true,
      State.refused_observer (State.slotOpen_of (.inr hl) hs (.inl hr)) hr, if_neg hn]
    rfl
  · rw [exec, execPacketRefused, State.refused_evaluator (State.slotOpen_of (.inl hl) hs (.inr (by simp [hd]))) hr,
      if_pos (s.sending_iff.2 hl), State.reportRefused_transfer hm hd href htr]
    rfl
  · rw [exec, execPacketRefused, State.refused_evaluator (State.slotOpen_of (.inl hl) hs (.inr (by simp [hd]))) hr,
      if_pos (s.sending_iff.2 hl), State.reportRefused_counted (by simp [hd, htr]), State.countRefusal_live ha]
    rfl
  · rw [exec, execPacketRefused, State.refused_evaluator (State.slotOpen_of (.inl hl) hs (.inr (by simp [hd]))) hr,
      if_pos (s.sending_iff.2 hl), State.reportRefused_counted (by simp [hd, htr]), State.countRefusal_dropped (by simp [ha])]
    rfl
  · rw [exec, execObserverReceipt, if_pos hr, if_neg Bool.false_ne_true,
      State.refused_observer (State.slotOpen_of (.inl hl) hs (.inl hr)) hr,
      if_pos (s.sending_iff.2 hl), State.reportRefused_counted (by simp [hd]), State.countRefusal_live ha]
    rfl
  · rw [exec_lostInArbitration_lost ha ⟨s.sending_iff.2 hl, hs, hd, hb⟩]
    split
    next h => exact absurd h hw
    next => rfl
  · rw [exec_lostInArbitration_lost ha ⟨s.sending_iff.2 hl, hs, hd, hb⟩]
    split
    next => rfl
    next h => exact absurd hw h
  · rw [exec, execLostInArbitration]
    split
    next b hb' =>
      obtain rfl : a = b := by simpa [ha] using hb'
      rw [if_neg (by simp [hb])]
    next => rfl

/-! ### The ends of a packet (R9, R16, R20 to R22) -/

/-- R173: with room in the event queue, a record posted is a record at its tail. -/
theorem State.post_of_room {s : State} (h : s.host.events.length < 32) (k : EventKind) (a : Byte) (b c : Half) :
    s.post k a b c = s.withEvent k a b c := by
  have : s.host.events.length < Config.eventRoom := h
  rw [State.post, State.postAt, if_pos this, State.withEvent]

/-- R9, R35: what a packet's end counts, and then the packet over. `u` is the station after the counting. -/
theorem State.endPacket_no {s u : State} (hu : (if s.sending && decide (s.link.slot = .pending) then s.countRefusal else s) = u)
    (hd : u.link.disconnect = .no) (n : Nat) : s.endPacket n = u.packetOver .waitFree n := by
  simp only [State.endPacket, hu]
  split
  next h => simp [hd] at h
  next => simp [State.packetOver, State.endAttempt, State.releaseLink, hd]

/-- R22: a disconnection that GO-ONLINE cancelled leaves the link as with none, its fair-wait flag clear. -/
theorem State.endPacket_cancelled {s u : State} (hu : (if s.sending && decide (s.link.slot = .pending) then s.countRefusal else s) = u)
    (hd : u.link.disconnect = .cancelled) (n : Nat) :
    s.endPacket n = ({ u with link := { u.link with fairWait := false, disconnect := .no } } : State).packetOver .waitFree n := by
  simp only [State.endPacket, hu]
  split
  next h => simp [hd] at h
  next => simp [State.packetOver, State.endAttempt, State.releaseLink, hd]

/-- R22: a disconnection that waits is taken. -/
theorem State.endPacket_wanted {s u : State} (hu : (if s.sending && decide (s.link.slot = .pending) then s.countRefusal else s) = u)
    (hd : u.link.disconnect = .wanted) (n : Nat) : s.endPacket n = u.endAttempt.releaseLink.disconnectNow := by
  simp only [State.endPacket, hu]
  split
  next => rfl
  next h => exact absurd hd h

/-- The four ends of a packet in progress, by what a packet's end leaves. -/
theorem exec_packetEnds {s : State} (hp : s.link.state = .transmitting ∨ s.link.state = .receiving) :
    exec .stopCondition s = .next (s.endPacket 0) ∧ exec .packetBreak s = .next (s.endPacket 0)
    ∧ exec .packetAbandoned s = .next (s.endPacket 8)
    ∧ exec .linkTimeout s = .next (if s.link.disconnect = .wanted then s.endPacket 0
        else ({ s.endPacket 0 with link := { (s.endPacket 0).link with state := .recovery } } : State).post .linkTimeout 0 0 0) := by
  have hp : s.packetInProgress = true := by simpa [State.packetInProgress] using hp
  refine ⟨by rw [exec, execStopCondition, if_pos hp], by rw [exec, execPacketBreak, if_pos hp],
    by rw [exec, execPacketAbandoned, if_pos hp]; rfl, ?_⟩
  rw [exec, execLinkTimeout, if_pos hp]
  simp only [decide_eq_true_eq]

/-- The four ends of a packet with no disconnection waiting, where `t` is the station with its counting done. -/
theorem exec_packetEnds_over {s t : State} (hp : s.link.state = .transmitting ∨ s.link.state = .receiving)
    (hw : s.link.disconnect ≠ .wanted) (he : ∀ n, s.endPacket n = t.packetOver .waitFree n) :
    exec .stopCondition s = .next (t.packetOver .waitFree 0) ∧ exec .packetBreak s = .next (t.packetOver .waitFree 0)
    ∧ exec .packetAbandoned s = .next (t.packetOver .waitFree 8)
    ∧ (t.host.events.length < 32 → exec .linkTimeout s = .next ((t.packetOver .recovery 0).withEvent .linkTimeout 0 0 0)) := by
  obtain ⟨hstop, hbreak, habandoned, htimeout⟩ := exec_packetEnds hp
  rw [he] at hstop hbreak habandoned htimeout
  refine ⟨hstop, hbreak, habandoned, fun hroom => ?_⟩
  rw [htimeout, if_neg hw]
  exact congrArg _ (State.post_of_room (s := t.packetOver .recovery 0) hroom .linkTimeout 0 0 0)

/-- Settles O36: in each situation, what the end counts and which of its three outcomes it takes. -/
theorem packetEnds : Obligations.PacketEnds := by
  intro s
  refine ⟨fun hl hd => ?_, fun hl hd hs => ?_, fun c p hl hd hs ha => ?_, fun hl hd ha => ?_, fun hl hd ha => ?_⟩
  · have hu : (if s.sending && decide (s.link.slot = .pending) then s.countRefusal else s) = s := by simp [State.sending, hl]
    exact exec_packetEnds_over (.inr hl) (by simp [hd]) (State.endPacket_no hu hd)
  · have hu : (if s.sending && decide (s.link.slot = .pending) then s.countRefusal else s) = s := by simp [hs]
    exact exec_packetEnds_over (.inl hl) (by simp [hd]) (State.endPacket_no hu hd)
  · have hu : (if s.sending && decide (s.link.slot = .pending) then s.countRefusal else s) = { s with tx := s.countedTx c } := by
      simp [State.sending, hl, hs, State.countRefusal_live ha]
    exact (exec_packetEnds_over (.inl hl) (by simp [hd]) (State.endPacket_no hu hd)).2
  · have hu : (if s.sending && decide (s.link.slot = .pending) then s.countRefusal else s) = s := by
      rw [State.countRefusal_dropped ha, ite_self]
    obtain ⟨hstop, hbreak, habandoned, htimeout⟩ := exec_packetEnds (.inl hl)
    rw [State.endPacket_wanted hu hd] at hstop hbreak habandoned htimeout
    rw [if_pos hd] at htimeout
    exact ⟨hstop, hbreak, habandoned, htimeout⟩
  · have hu : (if s.sending && decide (s.link.slot = .pending) then s.countRefusal else s) = s := by
      rcases ha with ha | ha
      · simp [ha]
      · rw [State.countRefusal_dropped ha, ite_self]
    exact exec_packetEnds_over (.inl hl) (by simp [hd]) (State.endPacket_cancelled hu hd)

end Sys2Proof.Machine
end

section
/-! PROOF. O37 to O39: evidence of a group, an observer's receipt, and a station's own FOUND. -/

namespace Sys2Proof.Machine

/-! ### A packet an observer takes (R15) -/

/-- R14: an observer's slot may pass. -/
theorem State.slotMayPass_observer {s : State} (hp : s.link.state = .transmitting ∨ s.link.state = .receiving) (hs : s.link.slot = .pending)
    (hr : s.link.role = some .observer) (hd : s.link.decision = none) : s.slotMayPass = true := by
  simp [State.slotMayPass, State.slotOpen_of hp hs (.inl hr), hd]

/-- R13, R14: at a receiver the slot passes and the packet is delivered. -/
theorem State.taking_receiver {s : State} (h : s.slotMayPass = true) (hn : s.sending = false) (deliver : State → State) :
    s.taking deliver = deliver s.slotPassed := by
  rw [State.taking, if_pos h, hn]
  rfl

/-- R15: another station's packet, taken, is handed to the observer's Membership Unit. -/
theorem State.take_observing {s : State} (h : s.observing) (k : Kind) (i : StationId) (p : List Byte) (deliver : State → State) :
    s.take k i p deliver = s.slotPassed.observe k i p := by
  obtain ⟨hl, hr, hs, hd⟩ := h
  rw [State.take, State.taking_receiver (State.slotMayPass_observer (.inr hl) hs hr hd) (by simp [State.sending, hl])]
  have hv : s.slotPassed.delivers = false := by simp [State.delivers, State.slotPassed, hr]
  have ho : s.slotPassed.link.role = some .observer := hr
  rw [if_neg (by simp [hv]), if_pos ho]

/-- R15: the row of any kind hands its packet to an observer's Membership Unit. -/
theorem exec_taken_observing {s : State} (h : s.observing) (k : Kind) (i : StationId) (p : List Byte) :
    exec (k.taken i p) s = .next (s.slotPassed.observe k i p) := by
  cases k <;> exact congrArg Host.Outcome.next (State.take_observing h _ i p _)

/-- R15: another station's packet is none of an observer's own. -/
theorem State.slotPassed_sentHere {s : State} (h : s.observing) (i : StationId) : s.slotPassed.sentHere i = false := by
  obtain ⟨hl, -⟩ := h
  simp [State.sentHere, State.sending, State.slotPassed, hl]

/-! ### Evidence of a group (R73 to R75) -/

/-- With no attempt in progress, packets are removed from the queue and nothing else changes. -/
theorem State.removeQueued_of_noAttempt {s : State} (h : s.tx.attempt = none) (p : Queued → Bool) :
    s.removeQueued p = { s with tx := { s.tx with queue := s.tx.queue.filter fun q => !p q } } := by
  have : s.headAttempted p = false := by simp [State.headAttempted, h]
  rw [State.removeQueued, this]
  rfl

/-- R74, R76: a group seen and a JOIN queued: REQUESTING. -/
def State.asksToJoin (s : State) : State := { s with
  tx := { s.tx with queue := s.tx.queue ++ [⟨.join, 0⟩] }
  mb := { s.mb with
    state := .requesting, listenTimer := none, requestTimer := some 2000, groupSeen := true, riseSeen := false, foundBegun := false } }

/-- A group seen. -/
def State.seesGroup (s : State) : State := { s with mb := { s.mb with groupSeen := true } }

theorem State.evidence_listening {s : State} (h : s.mb.state = .listening) (rise : Bool) : s.evidence rise = s.asksToJoin := by
  simp only [State.evidence, h]
  rfl

theorem State.evidence_founding {s : State} (h : s.mb.state = .founding) (hb : s.mb.foundBegun = false) (ha : s.tx.attempt = none)
    (rise : Bool) : s.evidence rise
      = ({ s with tx := { s.tx with queue := s.tx.queue.filter fun q => decide (q.request ≠ .found) } } : State).asksToJoin := by
  simp only [State.evidence, h, hb, State.withdrawFound, State.removeQueued_of_noAttempt ha, decide_not]
  rfl

theorem State.evidence_founding_begun {s : State} (h : s.mb.state = .founding) (hb : s.mb.foundBegun = true) (rise : Bool) :
    s.evidence rise = s.seesGroup := by
  rw [State.evidence]
  split <;> simp_all [State.seesGroup]

theorem State.evidence_requesting {s : State} (h : s.mb.state = .requesting) : s.evidence false = s.seesGroup := by
  rw [State.evidence]
  split <;> simp_all [State.seesGroup]

theorem State.evidence_requesting_rise {s : State} (h : s.mb.state = .requesting) :
    s.evidence true = { s with mb := { s.mb with groupSeen := true, riseSeen := true } } := by
  rw [State.evidence]
  split <;> simp_all

/-- R75: OFFLINE and DENIED ignore evidence. -/
theorem State.evidence_ignored {s : State} (h : s.mb.state = .offline ∨ s.mb.state = .denied) (rise : Bool) : s.evidence rise = s := by
  rw [State.evidence]
  rcases h with h | h <;> split <;> simp_all

/-- R73: a CLOSE, or another station's FOUND, is evidence. -/
theorem exec_evidence_observing {s : State} (h : s.observing) (i : StationId) (p : List Byte) :
    exec (.closeTaken i p) s = .next (s.slotPassed.evidence false) ∧ exec (.foundTaken i p) s = .next (s.slotPassed.evidence false) := by
  refine ⟨exec_taken_observing h .close i p, (exec_taken_observing h .found i p).trans ?_⟩
  rw [State.observe, State.slotPassed_sentHere h]
  rfl

/-- R57, R73: outside a packet, an outsider takes a rise as evidence. -/
theorem exec_evidence_rise {s : State} {b : Bool} (hb : s.link.riseSample = some b) (hq : s.quiet)
    (hm : s.mb.state ≠ .member) (hj : s.mb.state ≠ .joining) :
    exec .tlfRiseEffects s = .next (({ s with link := { s.link with riseSample := none } } : State).evidence true) := by
  have hp : s.packetInProgress = false := by simpa [State.packetInProgress, State.quiet] using hq
  rw [exec, execTlfRiseEffects, hb]
  dsimp only
  rw [if_neg (by simp [hp])]
  split
  next h => exact absurd h hm
  next h => exact absurd h hj
  next => rfl

/-- Settles O37: the packets and the rise that are evidence, and what each membership state makes of it. -/
theorem evidenceOfAGroup : Obligations.EvidenceOfAGroup := by
  intro s i p ha asks drops rise
  have htx : s.slotPassed.tx.attempt = none := ha
  refine ⟨fun ho => ?_, fun b hb hq => ?_⟩
  · obtain ⟨hclose, hfound⟩ := exec_evidence_observing ho i p
    rw [hclose, hfound]
    refine ⟨fun hm => ?_, fun hm hf => ?_, fun hm => ?_, fun hm => ?_⟩
    · rw [State.evidence_listening (s := s.slotPassed) hm]; exact ⟨rfl, rfl⟩
    · rw [State.evidence_founding (s := s.slotPassed) hm hf htx]; exact ⟨rfl, rfl⟩
    · have : s.slotPassed.evidence false = s.slotPassed.seesGroup :=
        hm.elim (State.evidence_requesting (s := s.slotPassed)) fun h => State.evidence_founding_begun (s := s.slotPassed) h.1 h.2 false
      rw [this]; exact ⟨rfl, rfl⟩
    · rw [State.evidence_ignored (s := s.slotPassed) hm]; exact ⟨rfl, rfl⟩
  · have hrise (hm : s.mb.state ≠ .member ∧ s.mb.state ≠ .joining) : exec .tlfRiseEffects s = .next (rise.evidence true) :=
      exec_evidence_rise hb hq hm.1 hm.2
    refine ⟨fun hm => ?_, fun hm hf => ?_, fun hm hf => ?_, fun hm => ?_, fun hm => ?_⟩
    · rw [hrise (by simp [hm]), State.evidence_listening (s := rise) hm]; rfl
    · rw [hrise (by simp [hm]), State.evidence_founding (s := rise) hm hf ha]; rfl
    · rw [hrise (by simp [hm]), State.evidence_founding_begun (s := rise) hm hf]; rfl
    · rw [hrise (by simp [hm]), State.evidence_requesting_rise (s := rise) hm]
    · rw [hrise (by rcases hm with hm | hm <;> simp [hm]), State.evidence_ignored (s := rise) hm]

/-! ### An observer's receipt (R15, R82, R86) -/

/-- The receive buffer set at the refusal slot (R4). -/
def State.buffers (s : State) (rx : RxPacket) : State :=
  { s with link := { s.link with rx := some { rx with payload := rx.payload.take 32 } } }

/-- R15: what an observer's receipt hands on, the slot passed and the packet in its buffer. -/
theorem exec_observerReceipt_observing {s : State} (h : s.observing) (rx : RxPacket) : exec (.observerReceipt true rx) s
    = .next (if rx.checkOk ∧ rx.lengthOk then
        match rx.kind? with
        | some k => (s.slotPassed.buffers rx).observe k rx.sender rx.payload
        | none => s.slotPassed.buffers rx
      else s.slotPassed.buffers rx) := by
  obtain ⟨hl, hr, hs, hd⟩ := h
  have hn : s.sending = false := by simp [State.sending, hl]
  rw [exec, execObserverReceipt, if_pos hr, if_pos rfl, State.observeReceipt, hn,
    State.taking_receiver (State.slotMayPass_observer (.inr hl) hs hr hd) hn]
  split
  · rfl
  · rw [Bool.false_and, if_neg Bool.false_ne_true]; rfl

/-- R4, R5: a damaged packet is not received. -/
theorem RxPacket.not_good {rx : RxPacket} (h : rx.computed ≠ rx.check ∨ 33 ≤ rx.length.toNat) : ¬ (rx.checkOk = true ∧ rx.lengthOk = true) := by
  rintro ⟨hc, hl⟩
  rw [← rx.damaged_iff] at h
  simp [RxPacket.damaged, hc, hl] at h

/-- Section 10.1: a JOIN-DENY's reason reads back. -/
theorem denyReasonOf_code (r : DenyReason) : denyReasonOf r.code = some r := by cases r <;> rfl

/-- R82: a JOIN-DENY that names a REQUESTING station. -/
theorem State.hearDenial_named {s : State} (hm : s.mb.state = .requesting) (r : DenyReason) :
    s.hearDenial [idByte s.stationId, r.code]
      = ({ s with mb := { s.mb with state := .denied, requestTimer := none } } : State).post .denied r.code 0 0 := by
  simp only [State.hearDenial, readJoinDeny, denyReasonOf_code, Option.map_some, hm, and_self, if_true]

/-- R86: a SNAP-HEAD that names a REQUESTING station. -/
theorem State.hearHead_named {s : State} (hm : s.mb.state = .requesting) {p : List Byte} {h : SnapHead} (hp : readSnapHead p = some h)
    (hj : h.joiner = idByte s.stationId) (ha : s.tx.attempt = none) (i : StationId) : s.hearHead i p = { s with
      tx := { s.tx with queue := s.tx.queue.filter fun q => decide (q.request ≠ .join) }
      mb := { membershipCleared .joining with
        roster := h.roster
        joinQueue := h.joinQueue
        transfer := some ⟨s.stationId, i, 0, true⟩
        assembly := some ⟨1, 0, false⟩ }
      ep := { epochsCleared with openNum := h.openNum, applied := h.openNum - 1, openClose := h.openClose } } := by
  simp only [State.hearHead, hp, hm, hj, and_self, if_true, State.withdrawJoin, State.removeQueued_of_noAttempt ha, decide_not]

/-- R82, R86: in any other state a station hears neither. -/
theorem State.hear_elsewhere {s : State} (hm : s.mb.state ≠ .requesting) (i : StationId) (p : List Byte) :
    s.hearDenial p = s ∧ s.hearHead i p = s := by
  simp only [State.hearDenial, State.hearHead, hm, false_and, if_false]
  constructor <;> split <;> rfl

/-- R15: a packet of any other kind is none of the Membership Unit's. -/
theorem State.observe_other {k : Kind} (hf : k ≠ .found) (hc : k ≠ .close) (hd : k ≠ .joinDeny) (hh : k ≠ .snapHead) (s : State)
    (i : StationId) (p : List Byte) : s.observe k i p = s := by
  rw [State.observe]
  exacts [hf, hc, hd, hh]

/-- Settles O38: the receipt is the slot passed and the hearing of the packet's kind. -/
theorem observerReceipt : Obligations.ObserverReceipt := by
  intro s ho
  refine ⟨fun rx hrx => ?_, fun rx k hc hl hk => ?_, fun i r hm hroom => ?_, fun i p h hm ha hp hj => ?_, fun i p hm => ?_,
    fun k i p hf hc hd hh => ?_⟩
  · rw [exec_observerReceipt_observing ho, if_neg (RxPacket.not_good hrx)]; rfl
  · rw [exec_observerReceipt_observing ho, if_pos ⟨hc, hl⟩, hk]
    exact (exec_taken_observing (s := s.buffers rx) ho k rx.sender rx.payload).symm
  · refine (exec_taken_observing ho .joinDeny i _).trans (congrArg _ ?_)
    exact (State.hearDenial_named (s := s.slotPassed) hm r).trans (State.post_of_room (by exact hroom) _ _ _ _)
  · exact (exec_taken_observing ho .snapHead i p).trans (congrArg _ (State.hearHead_named (s := s.slotPassed) hm hp hj ha i))
  · obtain ⟨hdenial, hhead⟩ := State.hear_elsewhere (s := s.slotPassed) hm i p
    exact ⟨(exec_taken_observing ho .joinDeny i p).trans (congrArg _ hdenial),
      (exec_taken_observing ho .snapHead i p).trans (congrArg _ hhead)⟩
  · exact (exec_taken_observing ho k i p).trans (congrArg _ (State.observe_other hf hc hd hh _ i p))

/-! ### A station's own FOUND (R76, R77) -/

/-- R14, R17, R35: a sender reports its packet taken and sets its fair-wait flag. -/
def State.reported (s : State) : State :=
  { s.reportTaken with link := { s.reportTaken.link with fairWait := decide (s.reportTaken.link.disconnect = .no) } }

/-- R13, R14, R35: at a sender the slot passes, the packet is delivered, and its attempt is reported taken. -/
theorem State.taking_sender {s : State} (h : s.slotMayPass = true) (hn : s.sending = true) (deliver : State → State) :
    s.taking deliver = (deliver s.slotPassed).reported := by
  rw [State.taking, if_pos h, hn]
  rfl

/-- R30, R35, R17: the head of the queue reported taken. -/
theorem State.reported_head {s : State} {p : Packet} (ha : s.tx.attempt = some ⟨.queueHead, p, true⟩) (hd : s.link.disconnect = .no) :
    s.reported = s.headGone.reportedTaken := by
  have hl : s.reportTaken.link.disconnect = .no := by simpa using hd
  rw [State.reported, hl, State.reportTaken, ha]
  rfl

/-- R55: with OPEN not closed by the founder its vote is low. -/
theorem founder_votes (i : StationId) : idSubset (idSet i) 0#16 = false := by revert i; decide

/-- R77: a group founded by this station, with room for the record. -/
theorem State.foundGroup_eq {s : State} (h : s.host.events.length < 32) : s.foundGroup = ({ s with
    link := { s.link with riseSample := if s.link.riseSample = some true then none else s.link.riseSample }
    mb := { membershipCleared .member with roster := (1 : IdSet) <<< s.stationId.toNat }
    ep := epochsCleared
    panes := panesCleared
    store := ⟨[], [⟨0, 512⟩]⟩
    palettes := palettesCleared
    pins := { s.pins with tlvLow := true } } : State).withEvent .founded 0 0 0 := by
  simp only [State.foundGroup]
  rw [State.post_of_room (by exact h), State.revote]
  have hv (u : State) (hm : u.mb = { membershipCleared .member with roster := idSet s.stationId }) (he : u.ep = epochsCleared) :
      u.voteLow = true := by
    simp [State.voteLow, State.isMember, State.mayCommit, hm, he, membershipCleared, epochsCleared, founder_votes]
  rw [hv _ rfl rfl]
  rfl

/-- R76: at the sender, its own FOUND passes the slot, founds or asks to join, and is reported taken. -/
theorem exec_foundTaken_own {s : State} (hl : s.link.state = .transmitting) (hr : s.link.role = some .observer)
    (hs : s.link.slot = .pending) (hd : s.link.decision = none) (p : List Byte) :
    exec (.foundTaken s.stationId p) s = .next s.slotPassed.ownFound.reported := by
  have hn : s.sending = true := s.sending_iff.2 hl
  have hown : s.slotPassed.sentHere s.stationId = true := by simp [State.sentHere, State.sending, State.slotPassed, hl]
  have hv : ¬ s.slotPassed.delivers = true := by simp [State.delivers, State.slotPassed, hr]
  have ho : s.slotPassed.link.role = some .observer := hr
  rw [exec, execFoundTaken, State.take, State.taking_sender (State.slotMayPass_observer (.inl hl) hs hr hd) hn]
  rw [if_neg hv, if_pos ho, State.observe, if_pos hown]

/-- R15, R76: a FOUND its sender received damaged is reported taken, and FOUNDING goes back to LISTENING. -/
theorem exec_observerReceipt_own {s : State} (hl : s.link.state = .transmitting) (hr : s.link.role = some .observer)
    (hs : s.link.slot = .pending) (hd : s.link.decision = none)
    (ha : s.tx.attempt.map (fun a => (a.packet.cls, a.packet.kind)) = some (0, 0)) {rx : RxPacket}
    (hrx : rx.computed ≠ rx.check ∨ 33 ≤ rx.length.toNat) :
    exec (.observerReceipt true rx) s = .next (s.slotPassed.buffers rx).ownFoundLost.reported := by
  have hn : s.sending = true := s.sending_iff.2 hl
  have hfound : (s.sending && decide (s.tx.attempt.map (fun a => (a.packet.cls, a.packet.kind)) = some Kind.found.code)) = true := by
    simp [hn, ha, Kind.code]
  rw [exec, execObserverReceipt, if_pos hr, if_pos rfl, State.observeReceipt, hfound,
    State.taking_sender (State.slotMayPass_observer (.inl hl) hs hr hd) hn]
  dsimp only
  rw [if_neg (RxPacket.not_good hrx), if_pos rfl]
  rfl

/-- Settles O39: the own FOUND's delivery, in each of its three outcomes, and the report of the packet taken. -/
theorem ownFound : Obligations.OwnFound := by
  intro s p pkt hl hr hs hd hdisc hm ha
  have hm' : s.slotPassed.mb.state = .founding := hm
  refine ⟨fun hg hroom => ?_, fun hg => ?_, fun rx hk hrx => ?_⟩
  · have hf : s.slotPassed.ownFound = s.slotPassed.foundGroup := by
      rw [State.ownFound, if_pos hm', if_neg (by simpa [State.slotPassed] using hg)]
    rw [exec_foundTaken_own hl hr hs hd, hf, State.foundGroup_eq (s := s.slotPassed) hroom]
    exact congrArg _ (State.reported_head (by exact ha) (by exact hdisc))
  · have hf : s.slotPassed.ownFound = s.slotPassed.enterRequesting := by
      rw [State.ownFound, if_pos hm', if_pos (by simpa [State.slotPassed] using hg)]
    rw [exec_foundTaken_own hl hr hs hd, hf]
    exact congrArg _ (State.reported_head (s := s.slotPassed.enterRequesting) ha hdisc)
  · have hf : (s.slotPassed.buffers rx).ownFoundLost = (s.slotPassed.buffers rx).enterListening := by
      rw [State.ownFoundLost, if_pos (by exact hm)]
    rw [exec_observerReceipt_own hl hr hs hd (by simpa [ha] using hk) hrx, hf]
    exact congrArg _ (State.reported_head (s := (s.slotPassed.buffers rx).enterListening) ha hdisc)

end Sys2Proof.Machine
end

section
/-! PROOF. O54: the frame line. -/

namespace Sys2Proof.Machine

/-! ### A rise of TLF (R2, R19, R138, R142) -/

/-- R2, R142: a rise read at the pin: the vote sampled by a connected station, and the rise noted by a running raster. -/
theorem State.riseRead_eq (s : State) (b : Bool) : (s.sampleVote b).noteRise = { s with
    link := if s.link.state = .disconnected then s.link else { s.link with riseSample := some (b && !s.pins.tlvLow) }
    raster := { s.raster with riseRead := s.raster.riseRead || s.raster.phase.isSome } } := by
  rw [State.sampleVote]
  split <;> rfl

/-- R2: with its own TLF released, a station reads the rise, and the sync state says what comes of it. -/
theorem exec_tlfRise_released {s : State} (h : s.pins.tlfLow = false) (b : Bool) : exec (.tlfRise b) s
    = .next (if s.raster.sync = .freeRun then (s.sampleVote b).noteRise.relock
        else if s.waitsForRise then (s.sampleVote b).noteRise.enterPhase .back else (s.sampleVote b).noteRise) := by
  have hsync : (s.sampleVote b).noteRise.raster.sync = s.raster.sync := by rw [State.riseRead_eq]
  rw [exec, execTlfRise, if_neg (by simp [h])]
  dsimp only
  rw [hsync]

theorem State.waitsForRise_iff (s : State) : s.waitsForRise = true ↔ s.raster.phase = some .hold ∧ s.ep.passRunning = false
    ∧ (s.raster.sync = .following ∨ (s.raster.sync = .locked ∧ s.raster.holding = false)) := by
  simp [State.waitsForRise, State.inPhase, and_assoc]

/-! ### The end of a HOLD line (R141, R143, R144) -/

/-- R141, R143, R144: when BACK begins after a HOLD line. -/
theorem State.holdGoesOn_iff (s : State) (high : Bool) : s.holdGoesOn high = true ↔ s.ep.passRunning = false
    ∧ (s.raster.holdEnding = true ∨ s.raster.sync = .freeRun ∨ (s.raster.sync = .following ∧ high = true)
      ∨ (s.raster.sync = .locked ∧ s.raster.pulled = false ∧ high = true)) := by
  rw [State.holdGoesOn]
  cases hs : s.raster.sync <;> simp

theorem exec_holdLineEnd_hold {s : State} (h : s.raster.phase = some .hold) (b : Bool) : exec (.holdLineEnd b) s
    = .next (if s.holdGoesOn (b && !s.pins.tlfLow) then s.enterPhase .back
        else if s.raster.sync = .following ∧ (b && !s.pins.tlfLow) = false then { s with raster := { s.raster with waiting := true } }
        else s) := by
  rw [exec, execHoldLineEnd, if_pos (by simp [State.inPhase, h])]

/-! ### The release of TLF (R142) -/

theorem State.floorMet_iff (s : State) (us : Nat) : s.floorMet us = true ↔ s.raster.riseRead = false ∨ 6000 ≤ us := by
  simp only [State.floorMet, Bool.or_eq_true, Bool.not_eq_true', decide_eq_true_eq]
  rfl

theorem exec_tlfRelease_holding {s : State} (hp : s.raster.phase = some .hold) (hs : s.raster.sync = .locked) (hh : s.raster.holding = true)
    (us : Nat) : exec (.tlfRelease us) s = .next (if s.ep.passRunning = false ∧ s.floorMet us = true then
        { s with raster := { s.raster with holding := false }, pins := { s.pins with tlfLow := false } } else s) := by
  have hp : s.inPhase .hold = true := by simp [State.inPhase, hp]
  rw [exec, execTlfRelease]
  simp only [hp, hs, hh, true_and, Bool.not_eq_true]

/-- Settles O54: the rise by sync state, the release by its floor, the HOLD line's end by whether BACK begins, and the two limits. -/
theorem frameLine : Obligations.FrameLine := by
  intro s
  refine ⟨fun b h => ?_, fun b h => ?_, fun us hp hs hh => ⟨fun hr hf => ?_, fun h => ?_⟩, fun b hp => ?_, fun hp hs hw => ?_,
    fun hp hs hr hf hroom => ?_⟩
  · rw [exec, execTlfRise, if_pos h]
  · intro l r
    have hread : (s.sampleVote b).noteRise = { s with link := l, raster := r } := s.riseRead_eq b
    rw [exec_tlfRise_released h, hread]
    refine ⟨fun hs hroom => ?_, fun hp hr hs => ?_, fun hs hp => ?_⟩
    · rw [if_pos hs, State.relock]
      exact congrArg _ (State.post_of_room (by exact hroom) _ _ _ _)
    · have hne : s.raster.sync ≠ .freeRun := by rcases hs with hs | ⟨hs, -⟩ <;> simp [hs]
      rw [if_neg hne, if_pos (s.waitsForRise_iff.2 ⟨hp, hr, hs⟩)]
      rfl
    · rw [if_neg hs, if_neg fun hw => hp (s.waitsForRise_iff.1 hw).1]
  · rw [exec_tlfRelease_holding hp hs hh, if_pos ⟨hr, (s.floorMet_iff us).2 hf⟩]
  · rw [exec_tlfRelease_holding hp hs hh, if_neg]
    rintro ⟨hr, hm⟩
    rw [s.floorMet_iff] at hm
    rcases h with h | ⟨h, hlt⟩
    · simp [hr] at h
    · rcases hm with hm | hm
      · simp [h] at hm
      · omega
  · intro high back
    rw [exec_holdLineEnd_hold hp]
    have hgo : s.holdGoesOn (b && !s.pins.tlfLow) = true ↔ _ := s.holdGoesOn_iff high
    refine ⟨fun hr h => ?_, fun hs he hh => ?_, fun hs he h => ?_, fun hr hs => ?_⟩
    · rw [if_pos (hgo.2 ⟨hr, h⟩)]; rfl
    · rw [if_neg (by rw [hgo]; simp [hs, he, hh]), if_pos ⟨hs, hh⟩]
    · rw [if_neg (by rw [hgo]; rcases h with h | h <;> simp [hs, he, h]), if_neg (by simp [hs])]
    · rw [if_neg (by rw [hgo]; simp [hr]), if_neg fun h => hs h.1]
  · rw [exec, execFollowingWaitLimit, if_pos ⟨by simp [State.inPhase, hp], hs, hw⟩]
  · rw [exec, execFrameHoldLimit, if_pos ⟨by simp [State.inPhase, hp], hs, by simp [hr], by simp [hf]⟩]
    exact congrArg _ (State.post_of_room (by exact hroom) _ _ _ _)

end Sys2Proof.Machine
end

section
/-! PROOF. What the row of a kind does: the slot passes and the packet is delivered, at a receiver and at its sender. -/

namespace Sys2Proof.Machine

/-! ### The row of a kind (R14, R15) -/

/-- What an evaluator's own delivery makes of a taken packet of a kind (R26, R47, R76 to R92). -/
def Kind.deliver (k : Kind) (i : StationId) (p : List Byte) (s : State) : State :=
  match k with
  | .found => if s.sentHere i then s else s.deliverJoin i p
  | .join => s.deliverJoin i p
  | .joinDeny => s
  | .joinDone => s.deliverJoinDone i p
  | .leave => s.deliverLeave i
  | .claim => s.deliverClaim i p
  | .handover => s.deliverHandover i p
  | .release => s.deliverRelease i p
  | .retract => s.deliverRetract i p
  | .close => s.deliverClose i p
  | .putCells | .fill | .copy | .setPane | .setPalette => s.deliverUpdate k i p
  | .snapHead => s.deliverHead i p
  | .snapPane => s.assemble i (readPaneRecord p) fun s r => s.setPane r.1 r.2
  | .snapFree => s.assemble i (readSnapFree p) fun s r => s.appendFree r.1 r.2
  | .snapPalette => s.assemble i (readSnapPalette p) fun s r => s.writePalette r.1 r.2.1.toNat r.2.2
  | .snapCells => s.assemble i (readSnapCells p) fun s r =>
      { s with store := { s.store with cells := writeCells s.store.cells r.1 r.2 } }
  | .snapEnd => s.deliverEnd i p

/-- Each row of the table takes the packets of its kind. -/
theorem exec_taken (k : Kind) (i : StationId) (p : List Byte) (s : State) :
    exec (k.taken i p) s = .next (s.take k i p (k.deliver i p)) := by
  cases k <;> rfl

/-! ### The slot at an evaluator (R13, R14) -/

/-- R14: the slot may pass at an evaluator that has decided not to refuse. -/
theorem State.slotMayPass_evaluator {s : State} (hp : s.link.state = .transmitting ∨ s.link.state = .receiving)
    (hs : s.link.slot = .pending) {d : Admission} (hd : s.link.decision = some d) (hr : d.refuse = false) : s.slotMayPass = true := by
  simp [State.slotMayPass, State.slotOpen_of hp hs (.inr (by simp [hd])), hd, hr]

/-- R14: it may not pass where this station refuses, and then nothing is taken. -/
theorem State.take_refusing {s : State} {d : Admission} (hd : s.link.decision = some d) (hr : d.refuse = true) (k : Kind)
    (i : StationId) (p : List Byte) (deliver : State → State) : s.take k i p deliver = s := by
  have : s.slotMayPass = false := by simp [State.slotMayPass, hd, hr]
  rw [State.take, State.taking, this, if_neg Bool.false_ne_true]

/-- R12, R69: a member or the joiner, an evaluator by its role, hands a taken packet to its own delivery. -/
theorem State.slotPassed_delivers {s : State} (hr : s.link.role = some .evaluator) (hm : s.mb.state = .member ∨ s.mb.state = .joining) :
    s.slotPassed.delivers = true := by
  simpa [State.delivers, State.slotPassed, State.evaluates, State.isMember, State.isJoiner, hr] using hm

/-- R14: another station's packet, admitted and taken, is delivered. -/
theorem exec_taken_admitted {s : State} (h : s.admitted) (hm : s.mb.state = .member ∨ s.mb.state = .joining) (k : Kind) (i : StationId)
    (p : List Byte) : exec (k.taken i p) s = .next (k.deliver i p s.slotPassed) := by
  obtain ⟨hl, hr, hs, d, hd, href⟩ := h
  rw [exec_taken, State.take,
    State.taking_receiver (State.slotMayPass_evaluator (.inr hl) hs hd href) (by simp [State.sending, hl]),
    if_pos (State.slotPassed_delivers hr hm)]

/-- R14, R35: a station's own packet, admitted and taken, is delivered, and its attempt is reported taken. -/
theorem exec_taken_sending {s : State} (hl : s.link.state = .transmitting) (hr : s.link.role = some .evaluator)
    (hs : s.link.slot = .pending) {d : Admission} (hd : s.link.decision = some d) (href : d.refuse = false) (hm : s.mb.state = .member)
    (k : Kind) (i : StationId) (p : List Byte) : exec (k.taken i p) s = .next (k.deliver i p s.slotPassed).reported := by
  rw [exec_taken, State.take, State.taking_sender (State.slotMayPass_evaluator (.inl hl) hs hd href) (s.sending_iff.2 hl),
    if_pos (State.slotPassed_delivers hr (.inl hm))]

/-- R14, R35: the same for the candidate it sends. -/
theorem exec_taken_sendingOwn {s : State} {c : Candidate} (h : s.sendingOwn c) (hm : s.mb.state = .member) (k : Kind) (i : StationId)
    (p : List Byte) : exec (k.taken i p) s = .next (k.deliver i p s.slotPassed).reported := by
  obtain ⟨hl, hr, hs, -, ⟨d, hd, href⟩, -⟩ := h
  exact exec_taken_sending hl hr hs hd href hm k i p

/-- R28: a packet received from another station is none of this station's own. -/
theorem State.admitted_sentHere {s : State} (h : s.admitted) (i : StationId) : s.slotPassed.sentHere i = false := by
  obtain ⟨hl, -⟩ := h
  simp [State.sentHere, State.sending, State.slotPassed, hl]

theorem State.sending_sentHere {s : State} (hl : s.link.state = .transmitting) : s.slotPassed.sentHere s.stationId = true := by
  simp [State.sentHere, State.sending, State.slotPassed, hl]

/-! ### The report of a packet taken (R35, R36) -/

/-- R35: the head of the queue, an own packet reported taken. -/
theorem State.sendingOwn.reported_head {s t : State} (h : s.sendingOwn .queueHead) (ha : t.tx.attempt = s.tx.attempt)
    (hl : t.link = s.slotPassed.link) : t.reported = t.headGone.reportedTaken := by
  obtain ⟨-, -, -, hdisc, -, ⟨c, p, l⟩, hatt, hc, hlive⟩ := h
  obtain rfl : c = .queueHead := hc
  obtain rfl : l = true := hlive
  exact State.reported_head (by rw [ha, hatt]) (by rw [hl]; exact hdisc)

end Sys2Proof.Machine
end

section
/-! PROOF. The payloads of section 10.1: a reader answers exactly on the lengths of its kind's allowance, and reads back what a sender
formed. -/

namespace Sys2Proof.Machine

/-! ### The short payloads -/

theorem readClaim_bytes (p : Byte) (n : Half) : readClaim (p :: halfBytes n) = some (p, n) := by
  simp [readClaim, halfBytes, halfOf_bytes]

theorem readTaggedByte_bytes (tag : Half) (b : Byte) : readTaggedByte (halfBytes tag ++ [b]) = some (tag, b) := by
  simp [readTaggedByte, halfBytes, halfOf_bytes]

theorem readClose_bytes (tag : Half) : readClose (halfBytes tag) = some tag := by
  simp [readClose, halfBytes, halfOf_bytes]

/-! ### The items of a run: cells and colours -/

theorem cellsOf_cellBytes (cs : List Cell) : cellsOf (cs.flatMap cellBytes) = cs := by
  induction cs with
  | nil => rfl
  | cons c t ih => simp [cellBytes, cellsOf, ih]

/-- Section 10.4: a colour's three bytes are the colour. -/
theorem colour_bytes (c : Colour) : c.extractLsb' 16 8 ++ c.extractLsb' 8 8 ++ c.extractLsb' 0 8 = c := by
  apply BitVec.eq_of_getLsbD_eq
  intro i hi
  simp only [BitVec.getLsbD_append, BitVec.getLsbD_extractLsb']
  by_cases h8 : i < 8
  · simp [h8]
  by_cases h16 : i < 16
  · simp [h8, show i - 8 < 8 by omega, show 8 + (i - 8) = i by omega]
  · simp [h8, show ¬ i - 8 < 8 by omega, show i - 8 - 8 < 8 by omega, show 16 + (i - 8 - 8) = i by omega]

theorem coloursOf_colourBytes (cs : List Colour) : coloursOf (cs.flatMap colourBytes) = cs := by
  induction cs with
  | nil => rfl
  | cons c t ih => rw [List.flatMap_cons, colourBytes, List.cons_append, List.cons_append, List.cons_append, List.nil_append, coloursOf,
      ih, colour_bytes]

@[simp] theorem cellBytes_length (c : Cell) : (cellBytes c).length = 2 := rfl

@[simp] theorem colourBytes_length (c : Colour) : (colourBytes c).length = 3 := rfl

/-! ### The fields of a SET-PANE (section 10.2) -/

/-- What a mark calls for: `n` bytes where it is set. -/
def marked (n : Nat) (on : Bool) : Nat := if on then n else 0

/-- A field formed from a value is read as that value. -/
theorem takeByte_opt {α : Type} {on : Bool} {x : Option Byte} (h : on = x.isSome) (r : List Byte) (f : Option Byte × List Byte → Option α) :
    (takeByte on (optByte x ++ r)).bind f = f (x, r) := by
  subst h; cases x <;> simp [takeByte, optByte]

theorem takeHalf_opt {α : Type} {on : Bool} {x : Option Half} (h : on = x.isSome) (r : List Byte) (f : Option Half × List Byte → Option α) :
    (takeHalf on (optHalf x ++ r)).bind f = f (x, r) := by
  subst h; cases x <;> simp [takeHalf, optHalf, halfBytes, halfOf_bytes]

theorem takeCursor_opt {α : Type} {on : Bool} {x : Option RawCursor} (h : on = x.isSome) (r : List Byte)
    (f : Option RawCursor × List Byte → Option α) : (takeCursor on (optCursor x ++ r)).bind f = f (x, r) := by
  subst h; cases x <;> simp [takeCursor, optCursor]

/-- A field is read where the run holds its bytes, and what follows is read from the rest. -/
theorem takeByte_bind {α : Type} {on : Bool} {bs : List Byte} {n : Nat} {f : Option Byte × List Byte → Option α}
    (h : ∀ x r, (f (x, r)).isSome = true ↔ r.length = n) : ((takeByte on bs).bind f).isSome = true ↔ bs.length = marked 1 on + n := by
  cases on
  · simp [takeByte, marked, h]
  · cases bs <;> simp [takeByte, marked, h] <;> omega

theorem takeHalf_bind {α : Type} {on : Bool} {bs : List Byte} {n : Nat} {f : Option Half × List Byte → Option α}
    (h : ∀ x r, (f (x, r)).isSome = true ↔ r.length = n) : ((takeHalf on bs).bind f).isSome = true ↔ bs.length = marked 2 on + n := by
  cases on
  · simp [takeHalf, marked, h]
  · rcases bs with _ | ⟨b, _ | ⟨c, t⟩⟩ <;> simp [takeHalf, marked, h] <;> omega

theorem takeCursor_bind {α : Type} {on : Bool} {bs : List Byte} {n : Nat} {f : Option RawCursor × List Byte → Option α}
    (h : ∀ x r, (f (x, r)).isSome = true ↔ r.length = n) : ((takeCursor on bs).bind f).isSome = true ↔ bs.length = marked 3 on + n := by
  cases on
  · simp [takeCursor, marked, h]
  · rcases bs with _ | ⟨b, _ | ⟨c, _ | ⟨d, t⟩⟩⟩ <;> simp [takeCursor, marked, h] <;> omega

/-- R180: the bytes a mask calls for, mark by mark. -/
theorem maskBytes_eq (m : Half) : maskBytes m = marked 2 (m.getLsbD 0) + (marked 2 (m.getLsbD 1) + (marked 1 (m.getLsbD 2)
    + (marked 1 (m.getLsbD 3) + (marked 1 (m.getLsbD 4) + (marked 1 (m.getLsbD 5) + (marked 2 (m.getLsbD 6) + (marked 1 (m.getLsbD 7)
    + (marked 1 (m.getLsbD 8) + (marked 1 (m.getLsbD 9) + (marked 1 (m.getLsbD 10) + (marked 1 (m.getLsbD 11)
    + (marked 3 (m.getLsbD 12) + (marked 1 (m.getLsbD 13) + 0))))))))))))) := by
  have add (n w : Nat) (on : Bool) : (if on then n + w else n) = n + marked w on := by cases on <;> rfl
  simp only [maskBytes, List.zipIdx_cons, List.zipIdx_nil, List.foldl_cons, List.foldl_nil, add, Nat.zero_add, Nat.reduceAdd]
  omega

/-- R160, R180: the fields are read exactly where their bytes are as many as the mask calls for. -/
theorem setPaneOf_isSome (p : Byte) (m : Half) (bs : List Byte) : (setPaneOf p m bs).isSome = true ↔ bs.length = maskBytes m := by
  rw [maskBytes_eq]
  refine takeHalf_bind fun _ _ => takeHalf_bind fun _ _ => takeByte_bind fun _ _ => takeByte_bind fun _ _ => takeByte_bind fun _ _ =>
    takeByte_bind fun _ _ => takeHalf_bind fun _ _ => takeByte_bind fun _ _ => takeByte_bind fun _ _ => takeByte_bind fun _ _ =>
    takeByte_bind fun _ _ => takeByte_bind fun _ _ => takeCursor_bind fun _ _ => takeByte_bind fun _ r => ?_
  cases r <;> simp

/-- A mark appended below others is the lowest bit, and moves the others up by one. -/
theorem getLsbD_append_mark {w : Nat} (x : BitVec w) (b : Bool) :
    (x ++ BitVec.ofBool b).getLsbD 0 = b ∧ ∀ i, (x ++ BitVec.ofBool b).getLsbD (i + 1) = x.getLsbD i := by
  constructor
  · simp only [BitVec.getLsbD_append]; simp
  · intro i; simp only [BitVec.getLsbD_append]; simp

/-- Section 10.2: each of the fourteen marks stands for its field. -/
theorem SetPaneArgs.mask_marks (a : SetPaneArgs) :
    a.mask.getLsbD 0 = a.col.isSome ∧ a.mask.getLsbD 1 = a.row.isSome ∧ a.mask.getLsbD 2 = a.width.isSome
    ∧ a.mask.getLsbD 3 = a.height.isSome ∧ a.mask.getLsbD 4 = a.depth.isSome ∧ a.mask.getLsbD 5 = a.pitch.isSome
    ∧ a.mask.getLsbD 6 = a.scrollRow.isSome ∧ a.mask.getLsbD 7 = a.scrollCol.isSome ∧ a.mask.getLsbD 8 = a.font.isSome
    ∧ a.mask.getLsbD 9 = a.bank.isSome ∧ a.mask.getLsbD 10 = a.mode.isSome ∧ a.mask.getLsbD 11 = a.underline.isSome
    ∧ a.mask.getLsbD 12 = a.cursor.isSome ∧ a.mask.getLsbD 13 = a.visible.isSome := by
  simp only [SetPaneArgs.mask, getLsbD_append_mark, and_self]

/-- Section 10.2: the two marks beyond the fourteen. -/
theorem SetPaneArgs.mask_extra (a : SetPaneArgs) : a.mask.extractLsb' 14 2 = a.extraMarks := by
  apply BitVec.eq_of_getLsbD_eq
  intro i hi
  rw [BitVec.getLsbD_extractLsb', Nat.add_comm 14 i]
  simp only [SetPaneArgs.mask, getLsbD_append_mark, hi, decide_true, Bool.true_and]

/-- Section 10.2: the fields' bytes one after another. -/
theorem SetPaneArgs.fieldBytes_eq (a : SetPaneArgs) : a.fieldBytes = optHalf a.col ++ (optHalf a.row ++ (optByte a.width
    ++ (optByte a.height ++ (optByte a.depth ++ (optByte a.pitch ++ (optHalf a.scrollRow ++ (optByte a.scrollCol ++ (optByte a.font
    ++ (optByte a.bank ++ (optByte a.mode ++ (optByte a.underline ++ (optCursor a.cursor ++ (optByte a.visible ++ []))))))))))))) := by
  simp only [SetPaneArgs.fieldBytes, List.append_assoc, List.append_nil]

/-- Section 10.2: a SET-PANE's fields read back. -/
theorem setPaneOf_fieldBytes (a : SetPaneArgs) : setPaneOf a.pane a.mask a.fieldBytes = some a := by
  obtain ⟨h0, h1, h2, h3, h4, h5, h6, h7, h8, h9, h10, h11, h12, h13⟩ := a.mask_marks
  rw [a.fieldBytes_eq]
  refine (takeHalf_opt h0 _ _).trans <| (takeHalf_opt h1 _ _).trans <| (takeByte_opt h2 _ _).trans <| (takeByte_opt h3 _ _).trans <|
    (takeByte_opt h4 _ _).trans <| (takeByte_opt h5 _ _).trans <| (takeHalf_opt h6 _ _).trans <| (takeByte_opt h7 _ _).trans <|
    (takeByte_opt h8 _ _).trans <| (takeByte_opt h9 _ _).trans <| (takeByte_opt h10 _ _).trans <| (takeByte_opt h11 _ _).trans <|
    (takeCursor_opt h12 _ _).trans <| (takeByte_opt h13 _ _).trans ?_
  simp only [a.mask_extra, if_true]

/-! ### The UPDATE payloads -/

theorem readFill_isSome (p : List Byte) : (readFill p).isSome = true ↔ p.length = 15 := by
  constructor
  · intro h
    unfold readFill at h
    split at h
    · rfl
    · cases h
  · intro h
    match p, h with
    | [_, _, _, _, _, _, _, _, _, _, _, _, _, _, _], _ => rfl

theorem readCopy_isSome (p : List Byte) : (readCopy p).isSome = true ↔ p.length = 13 := by
  constructor
  · intro h
    unfold readCopy at h
    split at h
    · rfl
    · cases h
  · intro h
    match p, h with
    | [_, _, _, _, _, _, _, _, _, _, _, _, _], _ => rfl

/-- Section 10.1, R180: an UPDATE payload is read exactly where its length is within its kind's allowance. -/
theorem readUpdate_isSome {k : Kind} (hk : k.isUpdate = true) (p : List Byte) :
    (readUpdate k p).isSome = true ↔ lengthAllowed k p = true := by
  cases k
  case putCells =>
    rcases p with _ | ⟨_, _ | ⟨_, _ | ⟨_, _ | ⟨_, _ | ⟨_, _ | ⟨_, _ | ⟨n, t⟩⟩⟩⟩⟩⟩⟩ <;>
      simp [readUpdate, readPutCells, lengthAllowed, byteAt]
    omega
  case fill => simp [readUpdate, readFill_isSome, lengthAllowed]
  case copy => simp [readUpdate, readCopy_isSome, lengthAllowed]
  case setPane =>
    rcases p with _ | ⟨_, _ | ⟨_, _ | ⟨_, _ | ⟨_, _ | ⟨_, _ | ⟨_, t⟩⟩⟩⟩⟩⟩ <;>
      simp [readUpdate, readSetPane, lengthAllowed, byteAt, setPaneOf_isSome]
    omega
  case setPalette =>
    rcases p with _ | ⟨_, _ | ⟨_, _ | ⟨_, _ | ⟨_, _ | ⟨_, _ | ⟨_, t⟩⟩⟩⟩⟩⟩ <;>
      simp [readUpdate, readSetPalette, lengthAllowed, byteAt]
    omega
  all_goals exact absurd hk (by decide)

theorem Update.kind_isUpdate (u : Update) : u.kind.isUpdate = true := by cases u <;> rfl

/-- A count that fits its byte. -/
theorem byte_toNat {n : Nat} (h : n ≤ 255) : (byte n).toNat = n := by
  rw [byte, BitVec.toNat_ofNat, Nat.mod_eq_of_lt (by omega)]

/-- Section 10.1: every UPDATE payload whose items fit its count byte reads back as it was formed. -/
theorem readUpdate_payload {u : Update} (h : u.countFits) (epochTag : Half) (batchTag : Byte) :
    readUpdate u.kind (u.payload epochTag batchTag) = some ⟨epochTag, batchTag, u⟩ := by
  cases u with
  | putCells a =>
    have hc : (byte a.cells.length).toNat = a.cells.length := byte_toNat h
    simp [Update.kind, Update.payload, Update.body, readUpdate, readPutCells, halfBytes, halfOf_bytes, cellsOf_cellBytes, hc, Nat.mul_comm]
  | fill a => simp [Update.kind, Update.payload, Update.body, readUpdate, readFill, halfBytes, halfOf_bytes]
  | copy a => simp [Update.kind, Update.payload, Update.body, readUpdate, readCopy, halfBytes, halfOf_bytes]
  | setPane a =>
    simp [Update.kind, Update.payload, Update.body, readUpdate, readSetPane, halfBytes, halfOf_bytes, setPaneOf_fieldBytes]
  | setPalette a =>
    have hc : (byte a.colours.length).toNat = a.colours.length := byte_toNat h
    simp [Update.kind, Update.payload, Update.body, readUpdate, readSetPalette, halfBytes, halfOf_bytes, coloursOf_colourBytes, hc,
      Nat.mul_comm]

/-- R180: and its length is within the kind's allowance. -/
theorem lengthAllowed_payload {u : Update} (h : u.countFits) (epochTag : Half) (batchTag : Byte) :
    lengthAllowed u.kind (u.payload epochTag batchTag) = true := by
  rw [← readUpdate_isSome u.kind_isUpdate, readUpdate_payload h]
  rfl

/-- R128, R155: an update in range carries no more items than its count byte holds. -/
theorem Update.countFits_of_inRange {u : Update} (h : u.inRange = true) : u.countFits := by
  cases u <;> simp_all [Update.inRange, PutCellsArgs.inRange, SetPaletteArgs.inRange, Update.countFits] <;> omega

/-- Section 10.2: the fourteen fields take 19 bytes at most. -/
theorem SetPaneArgs.fieldBytes_length_le (a : SetPaneArgs) : a.fieldBytes.length ≤ 19 := by
  have byte1 (x : Option Byte) : (optByte x).length ≤ 1 := by cases x <;> simp [optByte]
  have half2 (x : Option Half) : (optHalf x).length ≤ 2 := by cases x <;> simp [optHalf, halfBytes]
  have cursor3 (x : Option RawCursor) : (optCursor x).length ≤ 3 := by cases x <;> simp [optCursor]
  have := half2 a.col; have := half2 a.row; have := half2 a.scrollRow; have := cursor3 a.cursor
  have := byte1 a.width; have := byte1 a.height; have := byte1 a.depth; have := byte1 a.pitch; have := byte1 a.scrollCol
  have := byte1 a.font; have := byte1 a.bank; have := byte1 a.mode; have := byte1 a.underline; have := byte1 a.visible
  simp only [SetPaneArgs.fieldBytes, List.length_append]
  omega

/-- R4: an update in range fits a packet. -/
theorem Update.payload_length_le {u : Update} (h : u.inRange = true) (epochTag : Half) (batchTag : Byte) :
    (u.payload epochTag batchTag).length ≤ 32 := by
  cases u with
  | putCells a =>
    have : a.cells.length ≤ 12 := by simp_all [Update.inRange, PutCellsArgs.inRange]
    simp [Update.payload, Update.body, halfBytes]; omega
  | fill a => simp [Update.payload, Update.body, halfBytes]
  | copy a => simp [Update.payload, Update.body, halfBytes]
  | setPane a =>
    have := a.fieldBytes_length_le
    simp [Update.payload, Update.body, halfBytes]; omega
  | setPalette a =>
    have : a.colours.length ≤ 8 := by simp_all [Update.inRange, SetPaletteArgs.inRange]
    simp [Update.payload, Update.body, halfBytes]; omega

end Sys2Proof.Machine
end

section
/-! PROOF. O32 and O18: what a packet carries, and that no packet offered would be refused. -/

namespace Sys2Proof.Machine

/-! ### The packet of each candidate (R24, R34) -/

theorem State.formPacket_queueHead {s : State} {q : Queued} {rest : List Queued} (h : s.tx.queue = q :: rest) :
    s.formPacket .queueHead = s.requestPacket q.request := by
  simp only [State.formPacket, h]

theorem State.formPacket_snapshot {s : State} {p : SnapPos} (h : s.mb.snapPos = some p) : s.formPacket .snapshot = s.snapPacket p := by
  simp only [State.formPacket, h]

theorem State.formPacket_retract {s : State} {r : Retract} {rest : List Retract} (h : s.tx.retracts = r :: rest) :
    s.formPacket .retract = s.packet .retract (halfBytes s.ownTag ++ [r.tag]) := by
  simp only [State.formPacket, h]

theorem State.formPacket_joinDeny {s : State} {d : Denial} {rest : List Denial} (h : s.tx.denials = d :: rest) :
    s.formPacket .joinDeny = s.packet .joinDeny [idByte d.target, d.reason.code] := by
  simp only [State.formPacket, h]

theorem State.formPacket_joinDone {s : State} {d : DoneReport} (h : s.tx.joinDone = some d) :
    s.formPacket .joinDone = s.packet .joinDone (halfBytes d.epoch ++ [if d.good then 0 else 1]) := by
  simp only [State.formPacket, h]

/-- R34: the class of every update is UPDATE. -/
theorem Update.kind_cls (u : Update) : u.kind.code.1 = 2 := by cases u <;> rfl

/-- R85: the kind of the snapshot packet at each position. -/
def SnapPos.kind : SnapPos → Kind
  | .head => .snapHead
  | .pane _ => .snapPane
  | .free _ => .snapFree
  | .palette _ => .snapPalette
  | .cells _ => .snapCells
  | .tail => .snapEnd

theorem State.snapPacket_eq (s : State) (p : SnapPos) : s.snapPacket p = s.packet p.kind (s.snapPacket p).payload := by
  cases p <;> rfl

/-- Settles O32: each candidate's packet by its own equation, each request's by its kind. -/
theorem packetContents : Obligations.PacketContents := by
  intro s tag
  refine ⟨fun q rest hq => ?_, fun p hp => ?_, fun n => rfl, fun g k r hr => ?_, fun d r hd => ?_, fun d hd => ?_⟩
  · rw [State.formPacket_queueHead hq]
    refine ⟨fun g u hr => ?_, fun p n hr => ?_, fun p g hr => ?_, fun p hr => ?_, fun hr => ?_, fun hr => ?_, fun hr => ?_⟩ <;> rw [hr]
    · simp only [State.requestPacket, State.packet, Request.kind, u.kind_cls, Update.payload]
      rfl
    all_goals rfl
  · rw [State.formPacket_snapshot hp, State.snapPacket_eq]
    cases p <;> rfl
  · rw [State.formPacket_retract hr]; rfl
  · rw [State.formPacket_joinDeny hd]; rfl
  · rw [State.formPacket_joinDone hd]; rfl

/-! ### A packet within its kind's allowance (R4, R25, R180) -/

/-- Section 2.1: the code of every kind names it. -/
theorem Kind.ofCode_code (k : Kind) : Kind.ofCode k.code.1 k.code.2 = some k := by cases k <;> rfl

theorem State.packet_kind (s : State) (k : Kind) (p : List Byte) : (s.packet k p).received.kind? = some k := k.ofCode_code

/-- R25, conditions 1 and 2: a formed packet of an allowed length that fits the receive buffer is neither damaged nor out of the
catalogue. -/
theorem State.packet_readable {s : State} {k : Kind} {p : List Byte} (hlen : p.length ≤ 32) (ha : lengthAllowed k p = true) :
    (s.packet k p).received.damaged = false ∧ (s.packet k p).received.outOfCatalogue = false := by
  obtain ⟨-, hc, hl, -⟩ := Packet.received_good (p := s.packet k p) hlen
  constructor
  · simp [RxPacket.damaged, hc, hl]
  · simp only [RxPacket.outOfCatalogue, s.packet_kind]
    rw [Bool.not_eq_false']
    exact ha

/-- R180: a request in range makes a payload of an allowed length that fits the receive buffer. -/
theorem State.requestPacket_fits {s : State} {r : Request} (h : r.inRange = true) :
    (s.requestPacket r).payload.length ≤ 32 ∧ lengthAllowed r.kind (s.requestPacket r).payload = true := by
  cases r with
  | update tag u =>
    exact ⟨Update.payload_length_le h s.ownTag tag, lengthAllowed_payload (Update.countFits_of_inRange h) s.ownTag tag⟩
  | _ => simp [State.requestPacket, State.packet, Request.kind, lengthAllowed, halfBytes, State.joinPayload]

/-- R99: the display fields take 19 bytes. -/
theorem fullFields_length (p : Byte) (d : Display) : (fullFields p d).fieldBytes.length = 19 := rfl

theorem extentBytes_length (e : Option Extent) : (extentBytes e).length = 4 := by cases e <;> rfl

/-- Section 10.3. -/
theorem paneRecord_length (i : Fin 32) (p : Pane) : (paneRecord i p).length = 30 := by
  simp [paneRecord, extentBytes_length, fullFields_length]

/-- A run of items of `n` bytes each. -/
theorem length_flatMap_items {α : Type} {f : α → List Byte} {n : Nat} (h : ∀ a, (f a).length = n) (l : List α) :
    (l.flatMap f).length = n * l.length := by
  simp [List.length_flatMap, h, Nat.mul_comm]

/-- R85: a SNAP-PALETTE carries eight colours. -/
theorem State.snapPalette_length (s : State) (j : Nat) : (s.snapPacket (.palette j)).payload.length = 26 := by
  simp only [State.snapPacket, State.packet, List.length_append, length_flatMap_items colourBytes_length, List.length_take,
    List.length_drop, Vector.length_toList, List.length_cons, List.length_nil]
  omega

/-- R85: a SNAP-CELLS carries fifteen cells, the last one two. -/
theorem State.snapCells_length (s : State) (k : Nat) : (s.snapPacket (.cells k)).payload.length = 2 + 2 * min 15 (8192 - 15 * k) := by
  simp only [State.snapPacket, State.packet, List.length_append, length_flatMap_items cellBytes_length, readCellRun, List.length_map,
    List.length_range, Config.cells]
  rfl

/-- R85, R180: the snapshot packet of a position in range has a payload of an allowed length that fits the receive buffer. -/
theorem State.snapPacket_fits {s : State} {p : SnapPos} (h : p.inRange = true) (hq : s.mb.joinQueue.length ≤ 15) :
    (s.snapPacket p).payload.length ≤ 32 ∧ lengthAllowed p.kind (s.snapPacket p).payload = true := by
  cases p with
  | head =>
    have hb : (byte s.mb.joinQueue.length).toNat = s.mb.joinQueue.length := byte_toNat (by omega)
    simp [State.snapPacket, State.packet, SnapPos.kind, lengthAllowed, halfBytes, byteAt, hb]
    omega
  | pane i => simp [State.snapPacket, State.packet, SnapPos.kind, lengthAllowed, paneRecord_length]
  | free c =>
    simp [State.snapPacket, State.packet, SnapPos.kind, lengthAllowed, extentBytes_length]
    omega
  | palette j =>
    simp [SnapPos.kind, lengthAllowed, s.snapPalette_length]
  | cells k =>
    have hk : k ≤ 546 := by simpa [SnapPos.inRange] using h
    simp [SnapPos.kind, lengthAllowed, s.snapCells_length]
    omega
  | tail => simp [State.snapPacket, State.packet, SnapPos.kind, lengthAllowed, halfBytes]

/-! ### No condition of refusal holds of an offered packet (R25, R33) -/

/-- R32: an offered candidate stands at its place of the fixed order. -/
theorem State.offer_cases {s : State} {c : Candidate} (h : s.offer = some c) :
    (c = .retract ∧ s.offersRetract = true) ∨ (c = .joinDeny ∧ (s.isLowest && !s.tx.denials.isEmpty) = true)
    ∨ (c = .joinDone ∧ (s.isJoiner && s.tx.joinDone.isSome) = true) ∨ (c = .close s.ep.openNum ∧ s.closeOpenDue = true)
    ∨ (c = .close (s.ep.openNum + 1) ∧ s.closeNextDue = true) ∨ (c = .queueHead ∧ s.offersHead = true)
    ∨ (c = .snapshot ∧ s.offersSnapshot = true) := by
  rw [State.offer_eq] at h
  split_ifs at h <;> simp_all

/-- R25: a member admits its own readable packet where none of the conditions on the state holds of its kind. -/
theorem State.admits_packet {s : State} (hm : s.mb.state = .member) {k : Kind} {p : List Byte}
    (hfits : p.length ≤ 32 ∧ lengthAllowed k p = true) (hroom : entriesAdded k p = 0 ∨ s.ep.gatheringCount + entriesAdded k p ≤ 256)
    (htransfer : s.mb.transfer = none ∨ k.code.1 = 1 ∨ k.code.1 = 3 ∨ k.isJoinKind = true)
    (hnext : s.mb.joinQueue = [] ∨ idIn s.stationId s.ep.openClose = false ∨ ¬ (k.isUpdate = true ∨ k = .claim ∨ k = .release))
    (hclose : s.mb.joinQueue = [] ∨ idIn s.stationId s.ep.openClose = false ∨ k ≠ .close
      ∨ ∃ x ∈ s.ep.staging, x.sender = s.stationId ∧ x.cls = .nextE) :
    (s.admission (s.packet k p).received).refuse = false := by
  obtain ⟨hdamaged, hcatalogue⟩ := s.packet_readable hfits.1 hfits.2
  have hkind := s.packet_kind k p
  rw [Bool.eq_false_iff, ne_eq, State.admission_member hm, hdamaged, hcatalogue, s.overfills_iff, s.transferRefuses_iff,
    s.freezesNext_iff, s.freezesClose_iff, hkind]
  rintro (h | h | ⟨_, ⟨⟩, hpos, hover⟩ | ⟨hne, h⟩ | ⟨hne, -, hin, _, ⟨⟩, h⟩ | ⟨hne, -, hin, hk, hnone⟩)
  · exact Bool.false_ne_true h
  · exact Bool.false_ne_true h
  · have hover : 256 < s.ep.gatheringCount + entriesAdded k p := hover
    have hpos : 0 < entriesAdded k p := hpos
    omega
  · have hcls : (s.packet k p).received.cls = k.code.1 := rfl
    rw [hcls] at h
    rcases htransfer with ht | ht | ht | ht
    · exact hne ht
    · simp [ht] at h
    · simp [ht] at h
    · cases k <;> simp_all [Kind.isJoinKind, Kind.code]
  · rcases hnext with hj | ho | hk
    · exact hne hj
    · exact absurd hin (by simpa [State.packet, Packet.received] using ho)
    · exact hk h
  · rcases hclose with hj | ho | hc | ⟨x, hx, hs, hn⟩
    · exact hne hj
    · exact absurd hin (by simpa [State.packet, Packet.received] using ho)
    · exact hc (by simpa using hk)
    · exact hnone x hx hs hn

/-- R25: a packet of a kind that adds no entry, is frozen by nothing and is no CLOSE. -/
theorem State.admits_plain {s : State} (hm : s.mb.state = .member) {k : Kind} {p : List Byte}
    (hfits : p.length ≤ 32 ∧ lengthAllowed k p = true) (hroom : entriesAdded k p = 0)
    (htransfer : s.mb.transfer = none ∨ k.code.1 = 1 ∨ k.code.1 = 3 ∨ k.isJoinKind = true)
    (hk : ¬ (k.isUpdate = true ∨ k = .claim ∨ k = .release)) (hc : k ≠ .close) : (s.admission (s.packet k p).received).refuse = false :=
  State.admits_packet hm hfits (.inl hroom) htransfer (.inr (.inr hk)) (.inr (.inr (.inl hc)))

/-- R25, condition 3: the entries of a request's packet are those the Transmitter holds it for. -/
theorem State.requestPacket_entries (s : State) (r : Request) :
    entriesAdded r.kind (s.requestPacket r).payload = if r.addsEntry then 1 else 0 := by
  cases r with
  | update tag u => cases u <;> rfl
  | claim p n =>
    change (if halfOf (n.extractLsb' 8 8) (n.extractLsb' 0 8) = 0 then 0 else 1) = if decide (n ≠ 0) = true then 1 else 0
    rw [halfOf_bytes]
    by_cases h : n = 0 <;> simp [h]
  | _ => rfl

/-- R33: the kinds that go into an epoch are those that R25 freezes. -/
theorem Request.goesIntoEpoch_iff (r : Request) :
    r.goesIntoEpoch = true ↔ r.kind.isUpdate = true ∨ r.kind = .claim ∨ r.kind = .release := by
  cases r with
  | update tag u => simp [Request.goesIntoEpoch, Request.kind, u.kind_isUpdate]
  | _ => simp [Request.goesIntoEpoch, Request.kind, Kind.isUpdate, Kind.code]

theorem Request.kind_ne_close (r : Request) : r.kind ≠ .close := by
  cases r with
  | update tag u => cases u <;> simp [Request.kind, Update.kind]
  | _ => simp [Request.kind]

/-- R33: a request that is allowed and not held would be admitted. -/
theorem State.admits_request {s : State} (hm : s.mb.state = .member) {r : Request} (hr : r.inRange = true) (ha : s.allows r = true)
    (hh : ¬ s.held r = true) : (s.admission (s.requestPacket r).received).refuse = false := by
  rw [s.held_iff] at hh
  push Not at hh
  obtain ⟨htransfer, hfreeze, hroom, -⟩ := hh
  have hjoin : r ≠ .found ∧ r ≠ .join := by
    rcases (s.allows_iff r).1 ha with ⟨-, h⟩ | ⟨-, h⟩ | ⟨hf, hj, -⟩
    · simp [hm] at h
    · simp [hm] at h
    · exact ⟨hf, hj⟩
  rw [show s.requestPacket r = s.packet r.kind (s.requestPacket r).payload from rfl]
  refine State.admits_packet hm (State.requestPacket_fits hr) ?_ (.inl ?_) ?_ (.inr (.inr (.inl r.kind_ne_close)))
  · rw [s.requestPacket_entries]
    split
    next h => exact .inr (hroom h)
    next => exact .inl rfl
  · by_contra h
    exact hjoin.2 (htransfer h hjoin.1)
  · rw [← r.goesIntoEpoch_iff]
    by_cases hj : s.mb.joinQueue = []
    · exact .inl hj
    by_cases ho : idIn s.stationId s.ep.openClose = true
    · exact .inr (.inr (hfreeze hj ho))
    · exact .inr (.inl (by simpa using ho))

/-- R83: a member's join queue holds at most the fifteen other ids. -/
theorem State.joinQueue_length_le {s : State} (hm : s.isMember = true) (hr : s.rosterSound) (hj : s.joinQueueSound) :
    s.mb.joinQueue.length ≤ 15 := by
  obtain ⟨hnodup, hout, -⟩ := hj
  have hown : s.stationId ∉ s.mb.joinQueue := fun h => by simpa [hr.1 hm] using hout _ h
  have := (List.nodup_cons.2 ⟨hown, hnodup⟩).length_le_card
  rw [Fintype.card_congr (BitVec.equivFin (m := 4)).toEquiv, Fintype.card_fin, List.length_cons] at this
  omega

/-- R45, R34: a member that has not closed both epochs tags its packets with its current epoch. -/
theorem State.ownTag_current {s : State} (h : ¬ (idIn s.stationId s.ep.openClose = true ∧ idIn s.stationId s.ep.nextClose = true)) :
    ∃ e, s.ep.current s.stationId = some e ∧ s.ownTag = s.ep.numberOf e := by
  by_cases ho : idIn s.stationId s.ep.openClose = true
  · have hn : ¬ idIn s.stationId s.ep.nextClose = true := fun hn => h ⟨ho, hn⟩
    exact ⟨.nextE, by simp [Epochs.current, ho, hn], by simp [State.ownTag, ho, Epochs.numberOf]⟩
  · exact ⟨.openE, by simp [Epochs.current, ho], by simp [State.ownTag, ho, Epochs.numberOf]⟩

/-- R45, R34: while it has a current epoch, that epoch is the one it tags its packets with. -/
theorem State.ownTag_of_current {s : State} {e : EpochClass} (h : s.ep.current s.stationId = some e) : s.ownTag = s.ep.numberOf e := by
  have hne : ¬ (idIn s.stationId s.ep.openClose = true ∧ idIn s.stationId s.ep.nextClose = true) := by
    rintro ⟨ho, hn⟩
    simp [Epochs.current, ho, hn] at h
  obtain ⟨e', he, ht⟩ := State.ownTag_current hne
  rw [h] at he
  cases he
  exact ht

/-- R33: the packet of each candidate that a sound member offers would be admitted. -/
theorem State.admits_offer {s : State} {c : Candidate} (hm : s.mb.state = .member) (h : s.offer = some c) (hf : s.fieldsSound)
    (hq : s.mb.joinQueue.length ≤ 15) : (s.admission (s.formPacket c).received).refuse = false := by
  obtain ⟨-, -, -, -, hqueue, -, -, hpos⟩ := hf
  rcases State.offer_cases h with ⟨rfl, ho⟩ | ⟨rfl, ho⟩ | ⟨rfl, ho⟩ | ⟨rfl, ho⟩ | ⟨rfl, ho⟩ | ⟨rfl, ho⟩ | ⟨rfl, ho⟩
  · obtain ⟨-, hne, ht⟩ := s.offersRetract_iff.1 ho
    obtain ⟨r, rest, hr⟩ := List.exists_cons_of_ne_nil hne
    rw [State.formPacket_retract hr]
    exact State.admits_plain hm (by simp [lengthAllowed, halfBytes]) rfl (.inl ht) (by simp [Kind.isUpdate, Kind.code]) (by simp)
  · obtain ⟨-, -, hne⟩ := s.offersDenial_iff.1 ho
    obtain ⟨d, rest, hd⟩ := List.exists_cons_of_ne_nil hne
    rw [State.formPacket_joinDeny hd]
    exact State.admits_plain hm (by simp [lengthAllowed]) rfl (.inr (.inr (.inr rfl))) (by simp [Kind.isUpdate, Kind.code]) (by simp)
  · obtain ⟨hj, -⟩ := s.offersDone_iff.1 ho
    simp [hm] at hj
  · obtain ⟨-, hopen, -⟩ := s.closeOpenDue_iff.1 ho
    exact State.admits_packet hm (by simp [lengthAllowed, halfBytes]) (.inl rfl) (.inr (.inl rfl))
      (.inr (.inr (by simp [Kind.isUpdate, Kind.code]))) (.inr (.inl (by simpa using hopen)))
  · obtain ⟨-, -, -, -, -, hentry⟩ := s.closeNextDue_iff.1 ho
    exact State.admits_packet hm (by simp [lengthAllowed, halfBytes]) (.inl rfl) (.inr (.inl rfl))
      (.inr (.inr (by simp [Kind.isUpdate, Kind.code]))) (hentry.imp id fun he => .inr (.inr he))
  · obtain ⟨q, rest, hcons, ha, hh, -⟩ := s.offersHead_iff.1 ho
    rw [State.formPacket_queueHead hcons]
    exact State.admits_request hm (hqueue q (by simp [hcons])) ha hh
  · obtain ⟨-, -, hne, -⟩ := s.offersSnapshot_iff.1 ho
    obtain ⟨p, hp⟩ := Option.ne_none_iff_exists'.1 hne
    rw [State.formPacket_snapshot hp, State.snapPacket_eq]
    refine State.admits_plain hm (State.snapPacket_fits (hpos p hp) hq) ?_ ?_ ?_ ?_ <;> cases p <;>
      simp [SnapPos.kind, entriesAdded, Kind.isUpdate, Kind.code]

/-- Settles O18: the admission by the candidate offered, the tags by the epochs this station has closed. -/
theorem offeredPacketIsAdmitted : Obligations.OfferedPacketIsAdmitted := by
  intro s c hmember hoffer hf hr hj
  have hm : s.mb.state = .member := by simpa [State.isMember] using hmember
  refine ⟨State.admits_offer hm hoffer hf (State.joinQueue_length_le hmember hr hj), fun q rest hc hq hg => ?_,
    fun hc e he => State.ownTag_of_current he⟩
  subst hc
  refine State.ownTag_current fun hboth => ?_
  have hhead : s.offersHead = true := by simpa using State.offer_cases hoffer
  obtain ⟨q', rest', hq', -, hh, -⟩ := s.offersHead_iff.1 hhead
  rw [hq] at hq'
  cases hq'
  exact hh ((s.held_iff _).2 (.inr (.inr (.inr ⟨hboth.1, hboth.2, hg⟩))))

end Sys2Proof.Machine
end

section
/-! PROOF. O43 to O45: a foreign packet, and a CLAIM, a HANDOVER and a RELEASE delivered at a receiver and at their sender. -/

namespace Sys2Proof.Machine

/-! ### Void packets (R26, R28, R96) -/

/-- R96: a member with a full foreign-report count reports a foreign packet. -/
theorem State.foreign_reports {s : State} (hm : s.mb.state = .member) (hc : s.mb.foreignCount = 16) (hroom : s.host.events.length < 32)
    (i : StationId) (k : Kind) : s.foreign i k
      = ({ s with mb := { s.mb with foreignCount := 0 } } : State).withEvent .foreignTraffic (idByte i) (k.code.1.setWidth 16)
          (k.code.2.setWidth 16) := by
  have : s.isMember = true ∧ Config.foreignLimit ≤ s.mb.foreignCount := by simp [State.isMember, hm, hc, Config.foreignLimit]
  rw [State.foreign, if_pos this, State.post_of_room hroom]
  rfl

/-- R96: below a full count, and at the joiner, it is dropped in silence. -/
theorem State.foreign_silent {s : State} (h : s.mb.state = .member ∧ s.mb.foreignCount < 16 ∨ s.mb.state = .joining) (i : StationId)
    (k : Kind) : s.foreign i k = s := by
  rw [State.foreign, if_neg]
  rintro ⟨hm, hc⟩
  have hc : 16 ≤ s.mb.foreignCount := hc
  rcases h with ⟨-, hlt⟩ | hj
  · omega
  · simp [State.isMember, hj] at hm

/-- R28: a void packet of another station posts nothing. -/
theorem State.voidEvent_other {s : State} {i : StationId} (h : s.sentHere i = false) (ev : EventKind) (r : Reason) (a b : Half) :
    s.voidEvent i ev r a b = s := by
  simp [State.voidEvent, h]

/-- R28: its sender, a member, posts the reason. -/
theorem State.voidEvent_own {s : State} {i : StationId} (hm : s.mb.state = .member) (h : s.sentHere i = true)
    (hroom : s.host.events.length < 32) (ev : EventKind) (r : Reason) (a b : Half) :
    s.voidEvent i ev r a b = s.withEvent ev r.code a b := by
  rw [State.voidEvent, if_pos ⟨by simp [State.isMember, hm], h⟩, State.post_of_room hroom]

/-- R28: another station's packet, void, changes nothing but the slot. -/
theorem exec_taken_void {s : State} (h : s.admitted) (hm : s.mb.state = .member ∨ s.mb.state = .joining) {k : Kind} {i : StationId}
    {p : List Byte} {ev : EventKind} {r : Reason} {a b : Half} (hd : k.deliver i p s.slotPassed = s.slotPassed.voidEvent i ev r a b) :
    exec (k.taken i p) s = .next s.slotPassed := by
  rw [exec_taken_admitted h hm, hd, State.voidEvent_other (State.admitted_sentHere h i)]

/-- R35: the head of the queue delivered at its sender and reported taken. -/
theorem exec_taken_head {s t : State} (h : s.sendingOwn .queueHead) (hm : s.mb.state = .member) {k : Kind} {i : StationId} {p : List Byte}
    (hd : k.deliver i p s.slotPassed = t) (ha : t.tx.attempt = s.tx.attempt) (hl : t.link = s.slotPassed.link) :
    exec (k.taken i p) s = .next t.headGone.reportedTaken := by
  rw [exec_taken_sendingOwn h hm, hd, h.reported_head ha hl]

/-- R28, R35: the head of the queue, void, posts its reason at its sender and is reported taken. -/
theorem exec_taken_void_head {s : State} (h : s.sendingOwn .queueHead) (hm : s.mb.state = .member) (hroom : s.host.events.length < 32)
    {k : Kind} {p : List Byte} {ev : EventKind} {r : Reason} {a b : Half}
    (hd : k.deliver s.stationId p s.slotPassed = s.slotPassed.voidEvent s.stationId ev r a b) :
    exec (k.taken s.stationId p) s = .next (s.slotPassed.withEvent ev r.code a b).headGone.reportedTaken := by
  obtain ⟨hl, -⟩ := id h
  rw [State.voidEvent_own (by exact hm) (State.sending_sentHere hl) (by exact hroom)] at hd
  exact exec_taken_head h hm hd rfl rfl

/-! ### A foreign packet (R26, R92, R96) -/

/-- The kinds whose sender has to be a member (R26, R92). -/
def Kind.needsMember (k : Kind) : Prop :=
  k ∈ [Kind.close, .putCells, .fill, .copy, .setPane, .setPalette, .claim, .handover, .release, .retract, .leave]

/-- R26: an UPDATE from outside the roster is void FOREIGN. -/
theorem State.deliverUpdate_foreign {s : State} {k : Kind} (hk : k.isUpdate = true) {i : StationId} (hi : idIn i s.mb.roster = false)
    {p : List Byte} (ha : lengthAllowed k p = true) : s.deliverUpdate k i p = s.foreign i k := by
  obtain ⟨u, hu⟩ := Option.isSome_iff_exists.1 ((readUpdate_isSome hk p).2 ha)
  have hc : s.updateCheck i u = .error .foreign := by simp [State.updateCheck, hi]
  simp only [State.deliverUpdate, hu, hc]

/-- R26, R92: any packet of those kinds from outside the roster is void FOREIGN. -/
theorem Kind.deliver_foreign {k : Kind} (hk : k.needsMember) {s : State} {i : StationId} (hi : idIn i s.mb.roster = false)
    {p : List Byte} (ha : lengthAllowed k p = true) : k.deliver i p s = s.foreign i k := by
  simp only [Kind.needsMember, List.mem_cons, List.not_mem_nil, or_false] at hk
  have two : p.length = 2 → ∃ a b, p = [a, b] := List.length_eq_two.1
  have three : p.length = 3 → ∃ a b c, p = [a, b, c] := List.length_eq_three.1
  rcases hk with rfl | rfl | rfl | rfl | rfl | rfl | rfl | rfl | rfl | rfl | rfl
  · obtain ⟨a, b, rfl⟩ := two (by simpa [lengthAllowed] using ha)
    simp [Kind.deliver, State.deliverClose, readClose, hi]
  · exact State.deliverUpdate_foreign rfl hi ha
  · exact State.deliverUpdate_foreign rfl hi ha
  · exact State.deliverUpdate_foreign rfl hi ha
  · exact State.deliverUpdate_foreign rfl hi ha
  · exact State.deliverUpdate_foreign rfl hi ha
  · obtain ⟨a, b, c, rfl⟩ := three (by simpa [lengthAllowed] using ha)
    simp [Kind.deliver, State.deliverClaim, readClaim, hi]
  · obtain ⟨a, b, rfl⟩ := two (by simpa [lengthAllowed] using ha)
    simp [Kind.deliver, State.deliverHandover, readHandover, hi]
  · obtain ⟨a, b, c, rfl⟩ := three (by simpa [lengthAllowed] using ha)
    simp [Kind.deliver, State.deliverRelease, readTaggedByte, hi]
  · obtain ⟨a, b, c, rfl⟩ := three (by simpa [lengthAllowed] using ha)
    simp [Kind.deliver, State.deliverRetract, readTaggedByte, hi]
  · simp [Kind.deliver, State.deliverLeave, hi]

/-- Settles O43: the delivery is void FOREIGN, and the count says whether it is reported. -/
theorem foreignTraffic : Obligations.ForeignTraffic := by
  intro s i k p ha hi hl hk
  have hd : k.deliver i p s.slotPassed = s.slotPassed.foreign i k := Kind.deliver_foreign hk (by exact hi) hl
  refine ⟨fun hm hc hroom => ?_, fun h => ?_⟩
  · rw [exec_taken_admitted ha (.inl hm), hd, State.foreign_reports (by exact hm) (by exact hc) (by exact hroom)]
    rfl
  · rw [exec_taken_admitted ha (h.imp And.left id), hd, State.foreign_silent (by exact h)]

/-! ### First fit (R122) -/

theorem firstFit_none {n : Nat} {l : List Extent} (h : ∀ x ∈ l, x.size < n) : firstFit n l = none := by
  induction l with
  | nil => rfl
  | cons e t ih =>
    have he : ¬ n ≤ e.size := by have := h e (by simp); omega
    rw [firstFit, if_neg he, ih fun x hx => h x (by simp [hx])]
    rfl

theorem firstFit_some {n : Nat} {pre : List Extent} (h : ∀ x ∈ pre, x.size < n) {e : Extent} (he : n ≤ e.size) (post : List Extent) :
    firstFit n (pre ++ e :: post) = some (e.base, pre ++ (if e.size = n then post else ⟨e.base + n, e.size - n⟩ :: post)) := by
  induction pre with
  | nil => simp [firstFit, he]
  | cons x t ih =>
    have hx : ¬ n ≤ x.size := by have := h x (by simp); omega
    rw [List.cons_append, firstFit, if_neg hx, ih fun y hy => h y (by simp [hy])]
    rfl

/-! ### A CLAIM (R102 to R104) -/

/-- R102: the ranges of a CLAIM's fields. -/
def claimLegal (p : Byte) (n : Half) : Prop := p.toNat ≤ 31 ∧ n.toNat ≤ 512

theorem claimLegal_iff (p : Byte) (n : Half) :
    (paneInRange p && decide (n.toNat ≤ Config.granules)) = true ↔ claimLegal p n := by
  rw [Bool.and_eq_true, paneInRange, decide_eq_true_eq, decide_eq_true_eq]
  rfl

theorem half_toNat (h : Half) : half h.toNat = h := by simp [half]

section
variable {s : State} {i : StationId} {p : Byte} {n : Half}

/-- R27: a counted CLAIM whose sender has no current epoch is void STALE. -/
theorem State.deliverClaim_stale (hi : idIn i s.mb.roster = true) (hn : n ≠ 0) (hc : s.ep.current i = none) :
    s.deliverClaim i (p :: halfBytes n) = s.voidEvent i .claimLost .stale (p.setWidth 16) 0 := by
  have hn : n.toNat ≠ 0 := fun h => hn (BitVec.eq_of_toNat_eq h)
  simp [State.deliverClaim, readClaim_bytes, hi, hn, hc]

/-- R27, R102: the epoch a CLAIM is delivered in; a CLAIM 0 stages nothing and needs none. -/
theorem claim_attributed (hc : n = 0 ∨ s.ep.current i ≠ none) :
    ∃ c, (if n.toNat = 0 then some EpochClass.openE else s.ep.current i) = some c ∧ (n ≠ 0 → s.ep.current i = some c) := by
  by_cases hn : n = 0
  · exact ⟨.openE, by simp [hn], fun h => absurd hn h⟩
  · obtain ⟨c, hc⟩ := Option.ne_none_iff_exists'.1 (hc.resolve_left hn)
    have hz : ¬ n.toNat = 0 := fun h => hn (BitVec.eq_of_toNat_eq h)
    exact ⟨c, by rw [if_neg hz, hc], fun _ => hc⟩

/-- R102: a CLAIM out of range is void RANGE. -/
theorem State.deliverClaim_range (hi : idIn i s.mb.roster = true) (hc : n = 0 ∨ s.ep.current i ≠ none) (hl : ¬ claimLegal p n) :
    s.deliverClaim i (p :: halfBytes n) = s.voidEvent i .claimLost .range (p.setWidth 16) 0 := by
  obtain ⟨c, hc, -⟩ := claim_attributed hc
  rw [← claimLegal_iff, Bool.not_eq_true] at hl
  simp only [State.deliverClaim, readClaim_bytes, hi, hc, hl]
  rfl

/-- R102, R28: a CLAIM that fails its own checks is void with the first reason. -/
theorem State.deliverClaim_void (hi : idIn i s.mb.roster = true) (hc : n = 0 ∨ s.ep.current i ≠ none) (hl : claimLegal p n) {r : Reason}
    (ho : claimOutcome (s.pane (paneIx p)) s.store.freeList n.toNat = .void r) :
    s.deliverClaim i (p :: halfBytes n) = s.voidEvent i .claimLost r (p.setWidth 16) 0 := by
  obtain ⟨c, hc, -⟩ := claim_attributed hc
  rw [← claimLegal_iff] at hl
  simp only [State.deliverClaim, readClaim_bytes, hi, hc, hl, ho]
  rfl

/-- R103: what a CLAIM 0 that passes makes: the pane adopted with its extent. -/
theorem State.deliverClaim_adopted (hi : idIn i s.mb.roster = true) (hn : n = 0) (hl : claimLegal p n) {e : Extent}
    (he : (s.pane (paneIx p)).control = .orphan e) : s.deliverClaim i (p :: halfBytes n)
      = if s.isMember ∧ s.sentHere i then (s.setControl (paneIx p) (.owned i e)).post .claimWon p (half e.base) (half e.size)
        else s.setControl (paneIx p) (.owned i e) := by
  rw [← claimLegal_iff] at hl
  have ho : claimOutcome (s.pane (paneIx p)) s.store.freeList n.toNat = .adopted e := by simp [claimOutcome, hn, he]
  obtain ⟨c, hc, -⟩ := claim_attributed (s := s) (i := i) (.inl hn)
  simp only [State.deliverClaim, readClaim_bytes, hi, hc, ho, hl]
  rfl

/-- R102, R104, R122: what a counted CLAIM that passes makes: the first fit taken, the pane OWNED and a CLEAR staged. -/
def State.claims (s : State) (i : StationId) (p : Byte) (n : Half) (c : EpochClass) (b : Nat) (fl : List Extent) : State :=
  { s.setControl (paneIx p) (.owned i ⟨b, n.toNat⟩) with
    store := { s.store with freeList := fl }
    ep := { s.ep with staging := s.ep.staging ++ [⟨c, i, none, .clear p ⟨b, n.toNat⟩⟩] } }

theorem State.deliverClaim_claimed (hi : idIn i s.mb.roster = true) (hn : n ≠ 0) (hl : claimLegal p n) {c : EpochClass}
    (hc : s.ep.current i = some c) (hp : (s.pane (paneIx p)).control = .free) {b : Nat} {fl : List Extent}
    (hf : firstFit n.toNat s.store.freeList = some (b, fl)) : s.deliverClaim i (p :: halfBytes n)
      = if s.isMember ∧ s.sentHere i then (s.claims i p n c b fl).post .claimWon p (half b) n else s.claims i p n c b fl := by
  rw [← claimLegal_iff] at hl
  have hz : n.toNat ≠ 0 := fun h => hn (BitVec.eq_of_toNat_eq h)
  have ho : claimOutcome (s.pane (paneIx p)) s.store.freeList n.toNat = .claimed b fl := by simp [claimOutcome, hz, hp, hf]
  simp only [State.deliverClaim, readClaim_bytes, hi, hz, if_false, hc, ho, hl, half_toNat]
  rfl

end

/-! The reasons of R102, in order. -/

theorem claimOutcome_badCount {p : Pane} (h : p.control = .free) (fl : List Extent) : claimOutcome p fl 0 = .void .badCount := by
  simp [claimOutcome, h]

theorem claimOutcome_zero_taken {p : Pane} (hf : p.control ≠ .free) (ho : ∀ e, p.control ≠ .orphan e) (fl : List Extent) :
    claimOutcome p fl 0 = .void .taken := by
  cases h : p.control <;> simp_all [claimOutcome]

theorem claimOutcome_taken {p : Pane} (h : p.control ≠ .free) (fl : List Extent) {n : Nat} (hn : n ≠ 0) :
    claimOutcome p fl n = .void .taken := by
  cases h : p.control <;> simp_all [claimOutcome]

theorem claimOutcome_noRoom {p : Pane} (h : p.control = .free) {fl : List Extent} {n : Nat} (hn : n ≠ 0) (hf : firstFit n fl = none) :
    claimOutcome p fl n = .void .noRoom := by
  simp [claimOutcome, hn, h, hf]

/-- R28, R102: at a receiver only a CLAIM that passes has an effect. -/
theorem exec_claimTaken_void {s : State} (h : s.admitted) (hm : s.mb.state = .member ∨ s.mb.state = .joining) {i : StationId} {p : Byte}
    {n : Half} (hi : idIn i s.mb.roster = true)
    (hv : claimLegal p n → (n = 0 ∨ s.ep.current i ≠ none) → ∃ r, claimOutcome (s.pane (paneIx p)) s.store.freeList n.toNat = .void r) :
    exec (.claimTaken i (p :: halfBytes n)) s = .next s.slotPassed := by
  by_cases hc : n = 0 ∨ s.ep.current i ≠ none
  · by_cases hl : claimLegal p n
    · obtain ⟨r, hr⟩ := hv hl hc
      exact exec_taken_void h hm (k := .claim) (State.deliverClaim_void (s := s.slotPassed) hi hc hl hr)
    · exact exec_taken_void h hm (k := .claim) (State.deliverClaim_range (s := s.slotPassed) hi hc hl)
  · obtain ⟨hn, hc⟩ := not_or.1 hc
    exact exec_taken_void h hm (k := .claim) (State.deliverClaim_stale (s := s.slotPassed) hi hn (not_not.1 hc))

/-- Settles O44: at a receiver and at the claimer, each outcome of R102 by its own equation; the first fit by `firstFit_some`. -/
theorem claimDelivery : Obligations.ClaimDelivery := by
  refine ⟨?_, fun n pre e post h he => firstFit_some h he post, fun n l h => firstFit_none h⟩
  intro s i p n hi x k legal claimed
  refine ⟨fun ha hm => ?_, ?_⟩
  · have hsent : s.slotPassed.sentHere i = false := State.admitted_sentHere ha i
    have hne : ¬ (s.slotPassed.isMember ∧ s.slotPassed.sentHere i) := by simp [hsent]
    refine ⟨fun hl => ?_, fun hl hn ho => ?_, fun e hl hn he => ?_, fun hl hn hv => ?_, fun c b fl hl hn hc hp hf => ?_⟩
    · exact exec_claimTaken_void ha hm hi fun h => absurd h hl
    · refine exec_claimTaken_void ha hm hi fun _ _ => ?_
      subst hn
      by_cases hf : (s.pane k).control = .free
      · exact ⟨_, claimOutcome_badCount hf _⟩
      · exact ⟨_, claimOutcome_zero_taken hf ho _⟩
    · refine (exec_taken_admitted ha hm .claim i x).trans (congrArg _ ?_)
      exact (State.deliverClaim_adopted (s := s.slotPassed) hi hn hl he).trans (if_neg hne)
    · have hz : n.toNat ≠ 0 := fun h => hn (BitVec.eq_of_toNat_eq h)
      refine exec_claimTaken_void ha hm hi fun _ hc => ?_
      by_cases hp : (s.pane k).control = .free
      · exact ⟨_, claimOutcome_noRoom hp hz ((hv.resolve_left (hc.resolve_left hn)).resolve_left (not_not.2 hp))⟩
      · exact ⟨_, claimOutcome_taken hp _ hz⟩
    · refine (exec_taken_admitted ha hm .claim i x).trans (congrArg _ ?_)
      exact (State.deliverClaim_claimed (s := s.slotPassed) hi hn hl hc hp hf).trans (if_neg hne)
  · intro ho hm hown hroom lost
    subst hown
    obtain ⟨hl, -⟩ := id ho
    have hsent : s.slotPassed.isMember ∧ s.slotPassed.sentHere s.stationId :=
      ⟨by simp [State.isMember, State.slotPassed, hm], State.sending_sentHere hl⟩
    have void {r : Reason} (hc : n = 0 ∨ s.ep.current s.stationId ≠ none) (hl : legal)
        (hr : claimOutcome (s.pane k) s.store.freeList n.toNat = .void r) : exec (.claimTaken s.stationId x) s = .next (lost r) :=
      exec_taken_void_head ho hm hroom (k := .claim) (State.deliverClaim_void (s := s.slotPassed) hi hc hl hr)
    refine ⟨fun hn hc => ?_, fun hl hc => ?_, fun hl hn hp => ?_, fun hl hn hf he => ?_, fun e hl hn he => ?_, fun hl hn hc hp => ?_,
      fun hl hn hc hp hf => ?_, fun c b fl hl hn hc hp hf => ?_⟩
    · exact exec_taken_void_head ho hm hroom (k := .claim) (State.deliverClaim_stale (s := s.slotPassed) hi hn hc)
    · exact exec_taken_void_head ho hm hroom (k := .claim) (State.deliverClaim_range (s := s.slotPassed) hi hc hl)
    · exact void (.inl hn) hl (by rw [hn]; exact claimOutcome_badCount hp _)
    · exact void (.inl hn) hl (by rw [hn]; exact claimOutcome_zero_taken hf he _)
    · refine exec_taken_head ho hm (k := .claim) ?_ rfl rfl
      refine (State.deliverClaim_adopted (s := s.slotPassed) hi hn hl he).trans ((if_pos hsent).trans ?_)
      exact State.post_of_room (by exact hroom) _ _ _ _
    · exact void (.inr hc) hl (claimOutcome_taken hp _ fun h => hn (BitVec.eq_of_toNat_eq h))
    · exact void (.inr hc) hl (claimOutcome_noRoom hp (fun h => hn (BitVec.eq_of_toNat_eq h)) hf)
    · refine exec_taken_head ho hm (k := .claim) ?_ rfl rfl
      refine (State.deliverClaim_claimed (s := s.slotPassed) hi hn hl hc hp hf).trans ((if_pos hsent).trans ?_)
      exact State.post_of_room (by exact hroom) _ _ _ _

end Sys2Proof.Machine
end

section
/-! PROOF. O45: attribution and ownership, and a HANDOVER and a RELEASE delivered at a receiver and at their sender. -/

namespace Sys2Proof.Machine

/-! ### Attribution and ownership (R27, R101) -/

/-- R27: a packet's tag is the number of its sender's current epoch. -/
def State.tagged (s : State) (i : StationId) (tag : Half) : Prop := ∃ c, s.ep.current i = some c ∧ tag = s.ep.numberOf c

/-- R27: the epoch that a sender's packet with a tag is attributed to, as the deliveries compute it. -/
def State.taggedEpoch (s : State) (i : StationId) (tag : Half) : Option EpochClass :=
  match s.ep.current i with
  | some c => if tag = s.ep.numberOf c then some c else none
  | none => none

theorem State.taggedEpoch_some {s : State} {i : StationId} {tag : Half} {c : EpochClass} (hc : s.ep.current i = some c)
    (ht : tag = s.ep.numberOf c) : s.taggedEpoch i tag = some c := by
  simp [State.taggedEpoch, hc, ht]

theorem State.taggedEpoch_none {s : State} {i : StationId} {tag : Half} (h : ¬ s.tagged i tag) : s.taggedEpoch i tag = none := by
  rw [State.taggedEpoch]
  split
  next c hc => exact if_neg fun ht => h ⟨c, hc, ht⟩
  next => rfl

/-- Neither a record posted nor a pane's owner changes who this station is, and what it sends. -/
@[simp] theorem State.post_isMember (s : State) (k : EventKind) (a : Byte) (b c : Half) : (s.post k a b c).isMember = s.isMember := by
  simp [State.isMember]

@[simp] theorem State.post_sentHere (s : State) (k : EventKind) (a : Byte) (b c : Half) (i : StationId) :
    (s.post k a b c).sentHere i = s.sentHere i := by
  simp [State.sentHere, State.sending]

@[simp] theorem State.setControl_isMember (s : State) (k : Fin 32) (c : Control) : (s.setControl k c).isMember = s.isMember := rfl

@[simp] theorem State.setControl_sentHere (s : State) (k : Fin 32) (c : Control) (i : StationId) :
    (s.setControl k c).sentHere i = s.sentHere i := rfl

theorem ownedBy_iff (p : Pane) (i : StationId) : ownedBy p i = true ↔ ∃ e, p.control = .owned i e := by
  rw [ownedBy]
  split <;> simp_all

/-! ### A HANDOVER (R105) -/

section
variable {s : State} {i : StationId} {p g : Byte}

theorem State.deliverHandover_range (hi : idIn i s.mb.roster = true) (h : 31 < p.toNat ∨ 15 < g.toNat) :
    s.deliverHandover i [p, g] = s.voidEvent i .handoverFailed .range (p.setWidth 16) 0 := by
  simp only [State.deliverHandover, readHandover, hi, Bool.not_true, Bool.false_eq_true, if_false]
  rcases h with h | h
  · have hp : paneInRange p = false := by simpa [paneInRange] using h
    rw [hp]
  · have hg : idOfByte g = none := by simp [idOfByte]; omega
    rw [hg]
    cases paneInRange p <;> rfl

theorem State.deliverHandover_notOwner (hi : idIn i s.mb.roster = true) (hp : p.toNat ≤ 31) (hg : g.toNat ≤ 15)
    (ho : ownedBy (s.pane (paneIx p)) i = false) :
    s.deliverHandover i [p, g] = s.voidEvent i .handoverFailed .notOwner (p.setWidth 16) 0 := by
  have hp : paneInRange p = true := by simpa [paneInRange] using hp
  have hg : idOfByte g = some (g.setWidth 4) := if_pos (by omega)
  simp only [State.deliverHandover, readHandover, hi, hp, hg, Bool.not_true, Bool.false_eq_true, if_false]
  split
  next o e hc =>
    have : o ≠ i := by rintro rfl; simp [ownedBy, hc] at ho
    rw [if_pos this]
  next => rfl

variable {j : StationId} {e : Extent}

theorem State.deliverHandover_badTarget (hi : idIn i s.mb.roster = true) (hp : p.toNat ≤ 31) (hg : idOfByte g = some j)
    (hc : (s.pane (paneIx p)).control = .owned i e) (h : idIn j s.mb.roster = false ∨ j = i) :
    s.deliverHandover i [p, g] = s.voidEvent i .handoverFailed .badTarget (p.setWidth 16) 0 := by
  have hp : paneInRange p = true := by simpa [paneInRange] using hp
  simp only [State.deliverHandover, readHandover, hi, hp, hg, hc, Bool.not_true, Bool.false_eq_true, if_false, ne_eq, not_true_eq_false]
  rw [if_pos (by simpa using h)]

/-- R105: a HANDOVER that passes sets the owner, and its target and its sender post it. -/
theorem State.deliverHandover_passes (hi : idIn i s.mb.roster = true) (hp : p.toNat ≤ 31) (hg : idOfByte g = some j)
    (hc : (s.pane (paneIx p)).control = .owned i e) (hj : idIn j s.mb.roster = true) (hne : j ≠ i) :
    s.deliverHandover i [p, g]
      = (let t := s.setControl (paneIx p) (.owned j e)
         let t := if s.isMember ∧ j = s.stationId then t.post .paneReceived p ((idByte i).setWidth 16) 0 else t
         if s.isMember ∧ s.sentHere i then t.post .handoverDone p (g.setWidth 16) 0 else t) := by
  have hp : paneInRange p = true := by simpa [paneInRange] using hp
  simp only [State.deliverHandover, readHandover, hi, hp, hg, hc, Bool.not_true, Bool.false_eq_true, if_false, ne_eq, not_true_eq_false]
  rw [if_neg (by simp [hj, hne])]
  by_cases hpost : s.isMember = true ∧ j = s.stationId
  · simp [hpost]
  · simp [if_neg hpost]

end

/-! ### A RELEASE (R107) -/

section
variable {s : State} {i : StationId} {p : Byte} {tag : Half}

theorem State.deliverRelease_stale (hi : idIn i s.mb.roster = true) (ht : ¬ s.tagged i tag) :
    s.deliverRelease i (halfBytes tag ++ [p]) = s.voidEvent i .releaseFailed .stale (p.setWidth 16) 0 := by
  simp only [State.deliverRelease, readTaggedByte_bytes, hi, Bool.not_true, Bool.false_eq_true, if_false]
  split
  next => rfl
  next hsome => cases hsome.symm.trans (State.taggedEpoch_none ht)

theorem State.deliverRelease_notOwner (hi : idIn i s.mb.roster = true) (ht : s.tagged i tag)
    (h : 31 < p.toNat ∨ ownedBy (s.pane (paneIx p)) i = false) :
    s.deliverRelease i (halfBytes tag ++ [p]) = s.voidEvent i .releaseFailed .notOwner (p.setWidth 16) 0 := by
  obtain ⟨c, hc, ht⟩ := ht
  simp only [State.deliverRelease, readTaggedByte_bytes, hi, Bool.not_true, Bool.false_eq_true, if_false]
  split
  next hnone => cases hnone.symm.trans (State.taggedEpoch_some hc ht)
  next =>
    split
    next o e hp ho =>
      have hp : ¬ 31 < p.toNat := by simpa [paneInRange] using hp
      have : o ≠ i := by rintro rfl; simp [ownedBy, ho, hp] at h
      rw [if_neg this]
    next => rfl

/-- R107: what a RELEASE that passes makes: the pane RELEASING with its extent, and a RELEASE entry staged. -/
def State.releases (s : State) (i : StationId) (p : Byte) (c : EpochClass) (e : Extent) : State :=
  { s.setControl (paneIx p) (.releasing e) with
    ep := { s.ep with staging := s.ep.staging ++ [⟨c, i, none, .release p⟩] } }

theorem State.deliverRelease_passes (hi : idIn i s.mb.roster = true) {c : EpochClass} (hc : s.ep.current i = some c)
    (ht : tag = s.ep.numberOf c) (hp : p.toNat ≤ 31) {e : Extent} (ho : (s.pane (paneIx p)).control = .owned i e) :
    s.deliverRelease i (halfBytes tag ++ [p]) = s.releases i p c e := by
  have hp : paneInRange p = true := by simpa [paneInRange] using hp
  simp only [State.deliverRelease, readTaggedByte_bytes, hi, hp, ho, Bool.not_true, Bool.false_eq_true, if_false, if_true]
  split
  next hnone => cases hnone.symm.trans (State.taggedEpoch_some hc ht)
  next hsome => cases hsome.symm.trans (State.taggedEpoch_some hc ht); rfl

end

/-- Settles O45: each outcome of the two deliveries by its own equation, at a receiver and at the sender. -/
theorem handoverAndRelease : Obligations.HandoverAndRelease := by
  intro s i p g tag hi k tagged staged
  refine ⟨fun ha hm => ⟨fun h => ?_, fun j e hp hg hc hj hne => ⟨fun hmem hown hroom => ?_, fun h => ?_⟩, fun h => ?_,
    fun c e hc ht hp ho => ?_⟩, ?_⟩
  · by_cases hr : 31 < p.toNat ∨ 15 < g.toNat
    · exact exec_taken_void ha hm (k := .handover) (State.deliverHandover_range (s := s.slotPassed) hi hr)
    obtain ⟨hp, hg⟩ := not_or.1 hr
    cases ho : ownedBy (s.pane k) i with
    | false =>
      exact exec_taken_void ha hm (k := .handover)
        (State.deliverHandover_notOwner (s := s.slotPassed) hi (by omega) (by omega) ho)
    | true =>
      obtain ⟨e, hc⟩ := (ownedBy_iff _ _).1 ho
      rcases h with h | h | h | ⟨j, hj, h⟩
      · exact absurd h hp
      · exact absurd h hg
      · simp [ho] at h
      · exact exec_taken_void ha hm (k := .handover)
          (State.deliverHandover_badTarget (s := s.slotPassed) hi (by omega) hj hc h)
  · refine (exec_taken_admitted ha hm .handover i [p, g]).trans (congrArg _ ?_)
    refine (State.deliverHandover_passes (s := s.slotPassed) hi hp hg hc hj hne).trans ?_
    have hmember : s.slotPassed.isMember = true := by simp [State.isMember, State.slotPassed, hmem]
    simp only [State.admitted_sentHere ha, Bool.false_eq_true, and_false, if_false]
    rw [if_pos ⟨hmember, by exact hown⟩]
    exact State.post_of_room (by exact hroom) _ _ _ _
  · refine (exec_taken_admitted ha hm .handover i [p, g]).trans (congrArg _ ?_)
    refine (State.deliverHandover_passes (s := s.slotPassed) hi hp hg hc hj hne).trans ?_
    simp only [State.admitted_sentHere ha, Bool.false_eq_true, and_false, if_false]
    rw [if_neg]
    rintro ⟨hmember, hown⟩
    rcases h with h | h
    · simp [State.isMember, State.slotPassed, h] at hmember
    · exact h hown
  · by_cases ht : tagged
    · exact exec_taken_void ha hm (k := .release)
        (State.deliverRelease_notOwner (s := s.slotPassed) hi ht (h.resolve_left (not_not.2 ht)))
    · exact exec_taken_void ha hm (k := .release) (State.deliverRelease_stale (s := s.slotPassed) hi ht)
  · refine (exec_taken_admitted ha hm .release i _).trans (congrArg _ ?_)
    exact State.deliverRelease_passes (s := s.slotPassed) hi hc ht hp ho
  · intro hs hm hown hroom failed
    subst hown
    refine ⟨fun h => ?_, fun hp hg ho => ?_, fun j e hp hg hc h => ?_, fun j e hp hg hc hj hne => ?_, fun ht => ?_, fun ht h => ?_,
      fun c e hc ht hp ho => ?_⟩
    · exact exec_taken_void_head hs hm hroom (k := .handover) (State.deliverHandover_range (s := s.slotPassed) hi h)
    · exact exec_taken_void_head hs hm hroom (k := .handover) (State.deliverHandover_notOwner (s := s.slotPassed) hi hp hg ho)
    · exact exec_taken_void_head hs hm hroom (k := .handover) (State.deliverHandover_badTarget (s := s.slotPassed) hi hp hg hc h)
    · obtain ⟨hl, -⟩ := id hs
      refine exec_taken_head hs hm (k := .handover) ?_ rfl rfl
      refine (State.deliverHandover_passes (s := s.slotPassed) hi hp hg hc hj hne).trans ?_
      have hmember : s.slotPassed.isMember = true := by simp [State.isMember, State.slotPassed, hm]
      have hnot : ¬ (s.slotPassed.isMember ∧ j = s.slotPassed.stationId) := fun h => hne h.2
      dsimp only
      rw [if_pos ⟨hmember, State.sending_sentHere hl⟩, if_neg hnot]
      exact State.post_of_room (by exact hroom) _ _ _ _
    · exact exec_taken_void_head hs hm hroom (k := .release) (State.deliverRelease_stale (s := s.slotPassed) hi ht)
    · exact exec_taken_void_head hs hm hroom (k := .release) (State.deliverRelease_notOwner (s := s.slotPassed) hi ht h)
    · exact exec_taken_head hs hm (k := .release) (State.deliverRelease_passes (s := s.slotPassed) hi hc ht hp ho) rfl rfl

end Sys2Proof.Machine
end

section
/-! PROOF. O46 and O47: a CLOSE, a RETRACT and an UPDATE delivered at a receiver and at their sender. -/

namespace Sys2Proof.Machine

/-! ### A CLOSE and a RETRACT (R49, R53) -/

/-- R45: a member has the epoch whose close set it is not in, OPEN before NEXT. -/
theorem Epochs.current_openE {e : Epochs} {i : StationId} (h : idIn i e.openClose = false) : e.current i = some .openE := by
  simp [Epochs.current, h]

theorem Epochs.current_nextE {e : Epochs} {i : StationId} (ho : idIn i e.openClose = true) (hn : idIn i e.nextClose = false) :
    e.current i = some .nextE := by
  simp [Epochs.current, ho, hn]

theorem Epochs.current_cases {e : Epochs} {i : StationId} {c : EpochClass} (h : e.current i = some c) :
    c = .openE ∧ idIn i e.openClose = false ∨ c = .nextE ∧ idIn i e.openClose = true ∧ idIn i e.nextClose = false := by
  rw [Epochs.current] at h
  split_ifs at h <;> simp_all

section
variable {s : State} {i : StationId} {tag : Half}

theorem State.deliverClose_open (hi : idIn i s.mb.roster = true) (ho : idIn i s.ep.openClose = false) (ht : tag = s.ep.openNum) :
    s.deliverClose i (halfBytes tag) = ({ s with ep := { s.ep with openClose := idAdd i s.ep.openClose } } : State).revote := by
  simp [State.deliverClose, readClose_bytes, hi, ho, ht]

theorem State.deliverClose_next (hi : idIn i s.mb.roster = true) (ho : idIn i s.ep.openClose = true)
    (hn : idIn i s.ep.nextClose = false) (ht : tag = s.ep.openNum + 1) :
    s.deliverClose i (halfBytes tag) = { s with ep := { s.ep with nextClose := idAdd i s.ep.nextClose } } := by
  simp [State.deliverClose, readClose_bytes, hi, ho, hn, ht]

/-- R27, R49: a CLOSE of any other number than its sender's current epoch has no effect. -/
theorem State.deliverClose_stale (hi : idIn i s.mb.roster = true) (h : ∀ c, s.ep.current i = some c → tag ≠ s.ep.numberOf c) :
    s.deliverClose i (halfBytes tag) = s := by
  simp only [State.deliverClose, readClose_bytes, hi, Bool.not_true, Bool.false_eq_true, if_false]
  cases ho : idIn i s.ep.openClose with
  | false => exact (if_pos rfl).trans (if_neg (h .openE (Epochs.current_openE ho)))
  | true =>
    refine (if_neg (by simp)).trans (if_neg ?_)
    rintro ⟨ht, hn⟩
    exact h .nextE (Epochs.current_nextE ho (by simpa using hn)) ht

/-- R53: the epochs without a sender's entries of one batch in one epoch. -/
def Epochs.without (e : Epochs) (i : StationId) (bt : Byte) (c : EpochClass) : Epochs :=
  { e with staging := e.staging.filter fun x => !(decide (x.sender = i) && decide (x.tag = some bt) && decide (x.cls = c)) }

theorem State.deliverRetract_current (hi : idIn i s.mb.roster = true) {c : EpochClass} (hc : s.ep.current i = some c)
    (ht : tag = s.ep.numberOf c) (bt : Byte) :
    s.deliverRetract i (halfBytes tag ++ [bt]) = { s with ep := s.ep.without i bt c } := by
  simp only [State.deliverRetract, readTaggedByte_bytes, hi, Bool.not_true, Bool.false_eq_true, if_false]
  split
  next hnone => cases hnone.symm.trans (State.taggedEpoch_some hc ht)
  next hsome => cases hsome.symm.trans (State.taggedEpoch_some hc ht); rfl

theorem State.deliverRetract_stale (hi : idIn i s.mb.roster = true) (h : ∀ c, s.ep.current i = some c → tag ≠ s.ep.numberOf c)
    (bt : Byte) : s.deliverRetract i (halfBytes tag ++ [bt]) = s := by
  simp only [State.deliverRetract, readTaggedByte_bytes, hi, Bool.not_true, Bool.false_eq_true, if_false]
  split
  next => rfl
  next hsome => cases hsome.symm.trans (State.taggedEpoch_none fun ⟨c, hc, ht⟩ => h c hc ht)

end

/-- R35: a CLOSE reported taken leaves the Transmitter but for its attempt and its finished records. -/
theorem State.reported_close {s : State} {n : Half} {p : Packet} (ha : s.tx.attempt = some ⟨.close n, p, true⟩)
    (hd : s.link.disconnect = .no) : s.reported = s.reportedTaken := by
  have hl : s.reportTaken.link.disconnect = .no := by simpa using hd
  rw [State.reported, hl, State.reportTaken, ha]
  rfl

/-- R35, R36: a RETRACT reported taken is cleared, and drops its batch's record. -/
theorem State.reported_retract {s : State} {p : Packet} (ha : s.tx.attempt = some ⟨.retract, p, true⟩) (hd : s.link.disconnect = .no)
    {bt : Byte} {n : Nat} {rest : List Retract} (hr : s.tx.retracts = ⟨bt, n⟩ :: rest) : s.reported
      = ({ s with tx := { s.tx with retracts := rest, batches := s.tx.batches.filter fun b => decide (b.tag ≠ bt) } } : State).reportedTaken := by
  have hl : s.reportTaken.link.disconnect = .no := by simpa using hd
  rw [State.reported, hl, State.reportTaken, ha]
  simp only [hr]
  rfl

/-- An own packet's attempt is of its candidate, and still held. -/
theorem State.sendingOwn.attempt {s : State} {c : Candidate} (h : s.sendingOwn c) : ∃ p, s.tx.attempt = some ⟨c, p, true⟩ := by
  obtain ⟨-, -, -, -, -, ⟨c', p, l⟩, hatt, hc, hlive⟩ := h
  obtain rfl : c' = c := hc
  obtain rfl : l = true := hlive
  exact ⟨p, hatt⟩

theorem State.sendingOwn.disconnect {s : State} {c : Candidate} (h : s.sendingOwn c) : s.link.disconnect = .no := by
  obtain ⟨-, -, -, hd, -⟩ := h
  exact hd

/-- Settles O46: the close sets by the sender's current epoch, the entries a RETRACT removes, and the sender's report. -/
theorem closeAndRetract : Obligations.CloseAndRetract := by
  intro s i tag bt hi opens nexts voted cut
  refine ⟨fun ha hm => ⟨fun ho ht => ?_, fun ho hn ht => ?_, fun h => ?_, fun c hc ht => ?_, fun h => ?_⟩,
    fun hown hm => ⟨fun hs ho ht => ?_, fun hs ho hn ht => ?_, fun c n rest hs hr hc ht => ?_⟩⟩
  · refine (exec_taken_admitted ha hm .close i _).trans (congrArg _ ?_)
    exact State.deliverClose_open (s := s.slotPassed) hi ho ht
  · refine (exec_taken_admitted ha hm .close i _).trans (congrArg _ ?_)
    exact State.deliverClose_next (s := s.slotPassed) hi ho hn ht
  · refine (exec_taken_admitted ha hm .close i _).trans (congrArg _ ?_)
    exact State.deliverClose_stale (s := s.slotPassed) hi h
  · refine (exec_taken_admitted ha hm .retract i _).trans (congrArg _ ?_)
    exact State.deliverRetract_current (s := s.slotPassed) hi hc ht bt
  · refine (exec_taken_admitted ha hm .retract i _).trans (congrArg _ ?_)
    exact State.deliverRetract_stale (s := s.slotPassed) hi h bt
  · obtain ⟨p, hatt⟩ := hs.attempt
    refine (exec_taken_sendingOwn hs hm .close i _).trans (congrArg _ ?_)
    refine (congrArg State.reported (State.deliverClose_open (s := s.slotPassed) hi ho ht)).trans ?_
    exact State.reported_close (s := voted opens) hatt hs.disconnect
  · obtain ⟨p, hatt⟩ := hs.attempt
    refine (exec_taken_sendingOwn hs hm .close i _).trans (congrArg _ ?_)
    refine (congrArg State.reported (State.deliverClose_next (s := s.slotPassed) hi ho hn ht)).trans ?_
    exact State.reported_close (s := { s.slotPassed with ep := nexts }) hatt hs.disconnect
  · obtain ⟨p, hatt⟩ := hs.attempt
    refine (exec_taken_sendingOwn hs hm .retract i _).trans (congrArg _ ?_)
    refine (congrArg State.reported (State.deliverRetract_current (s := s.slotPassed) hi hc ht bt)).trans ?_
    exact State.reported_retract (s := { s.slotPassed with ep := cut c }) hatt hs.disconnect hr

/-! ### An UPDATE (R26, R30, R36) -/

/-- R101: an update's pane, where it names one, is the sender's. -/
def State.ownsPaneOf (s : State) (u : Update) (i : StationId) : Prop := ∀ p, u.pane? = some p → ownedBy (s.pane (paneIx p)) i = true

section
variable {s : State} {i : StationId} {u : Update} {tag : Half} {bt : Byte}

theorem State.updateCheck_ok (hi : idIn i s.mb.roster = true) {c : EpochClass} (hc : s.ep.current i = some c) (ht : tag = s.ep.numberOf c)
    (hr : u.inRange = true) (ho : s.ownsPaneOf u i) : s.updateCheck i ⟨tag, bt, u⟩ = .ok c := by
  simp only [State.updateCheck, hi, hr, Bool.not_true, Bool.false_eq_true, if_false]
  split
  next hnone => cases hnone.symm.trans (State.taggedEpoch_some hc ht)
  next hsome =>
    cases hsome.symm.trans (State.taggedEpoch_some hc ht)
    split
    next p hp => rw [if_pos (ho p hp)]
    next => rfl

theorem State.updateCheck_stale (hi : idIn i s.mb.roster = true) (ht : ¬ s.tagged i tag) :
    s.updateCheck i ⟨tag, bt, u⟩ = .error .stale := by
  simp only [State.updateCheck, hi, Bool.not_true, Bool.false_eq_true, if_false]
  split
  next => rfl
  next hsome => cases hsome.symm.trans (State.taggedEpoch_none ht)

theorem State.updateCheck_range (hi : idIn i s.mb.roster = true) (ht : s.tagged i tag) (hr : u.inRange = false) :
    s.updateCheck i ⟨tag, bt, u⟩ = .error .range := by
  obtain ⟨c, hc, ht⟩ := ht
  simp only [State.updateCheck, hi, hr, Bool.not_true, Bool.not_false, Bool.false_eq_true, if_false, if_true]
  split
  next hnone => cases hnone.symm.trans (State.taggedEpoch_some hc ht)
  next => rfl

theorem State.updateCheck_notOwner (hi : idIn i s.mb.roster = true) (ht : s.tagged i tag) (hr : u.inRange = true)
    (ho : ¬ s.ownsPaneOf u i) : s.updateCheck i ⟨tag, bt, u⟩ = .error .notOwner := by
  obtain ⟨c, hc, ht⟩ := ht
  simp only [State.updateCheck, hi, hr, Bool.not_true, Bool.false_eq_true, if_false]
  split
  next hnone => cases hnone.symm.trans (State.taggedEpoch_some hc ht)
  next =>
    split
    next p hp =>
      refine if_neg fun hown => ho fun q hq => ?_
      rw [hp] at hq
      cases hq
      exact hown
    next hp => exact absurd (fun p h => by simp [hp] at h) ho

/-- R28: an UPDATE that fails a check is void with its first reason. -/
theorem State.deliverUpdate_void (hf : u.countFits) {r : Reason} (hc : s.updateCheck i ⟨tag, bt, u⟩ = .error r) (hr : r ≠ .foreign) :
    s.deliverUpdate u.kind i (u.payload tag bt) = s.voidEvent i .updateVoid r (bt.setWidth 16) (u.kind.code.2.setWidth 16) := by
  simp only [State.deliverUpdate, readUpdate_payload hf, hc]

/-- R47: what an UPDATE that passes makes: its entry staged whole. -/
def State.stages (s : State) (i : StationId) (u : Update) (bt : Byte) (c : EpochClass) : State :=
  { s with ep := { s.ep with staging := s.ep.staging ++ [⟨c, i, some bt, .update u⟩] } }

theorem State.deliverUpdate_staged (hf : u.countFits) {c : EpochClass} (hc : s.updateCheck i ⟨tag, bt, u⟩ = .ok c) :
    s.deliverUpdate u.kind i (u.payload tag bt) = if s.sentHere i then (s.stages i u bt c).noteTaken bt else s.stages i u bt c := by
  simp only [State.deliverUpdate, readUpdate_payload hf, hc]
  rfl

end

/-- R128 to R155: the row that takes an update is the row of its kind. -/
theorem Update.taken_eq (u : Update) (i : StationId) (tag : Half) (bt : Byte) : u.taken i tag bt = u.kind.taken i (u.payload tag bt) := by
  cases u <;> rfl

theorem Update.kind_deliver (u : Update) (i : StationId) (p : List Byte) (s : State) :
    u.kind.deliver i p s = s.deliverUpdate u.kind i p := by
  cases u <;> rfl

/-- R30: an update of a batch that is not broken, taken, marks its record. -/
theorem State.noteTaken_marks {s : State} {g : Byte} (h : s.attemptDropped = false ∨ ∃ r ∈ s.tx.retracts, r.tag = g) :
    s.noteTaken g = { s with
      tx := { s.tx with batches := s.tx.batches.map fun b => if b.tag = g then { b with anyTaken := true } else b } } := by
  rw [State.noteTaken, if_neg]
  · rfl
  · rcases h with h | h <;> simp [h]

/-- R30: one taken after its batch was broken leaves a broken record, and a RETRACT pending. -/
theorem State.noteTaken_raises {s : State} {g : Byte} (h : s.attemptDropped = true) (hr : ∀ r ∈ s.tx.retracts, r.tag ≠ g) :
    s.noteTaken g = { s with
      tx := { s.tx with
        batches := (s.tx.batches.filter fun b => decide (b.tag ≠ g)) ++ [⟨g, true, true, true⟩]
        retracts := s.tx.retracts ++ [⟨g, 0⟩] } } := by
  rw [State.noteTaken, if_pos (by simpa [h] using hr)]
  rfl

/-- R40: a packet the Transmitter no longer holds, reported taken, moves no queue. -/
theorem State.reported_dropped {s : State} {a : Attempt} (ha : s.tx.attempt = some a) (hlive : a.live = false)
    (hd : s.link.disconnect = .no) : s.reported = s.reportedTaken := by
  have hl : s.reportTaken.link.disconnect = .no := by simpa using hd
  rw [State.reported, hl, State.reportTaken, ha]
  simp only [hlive]
  rfl

/-- R30, R50, R51: while an unfinished batch has entries in this member's current epoch, no CLOSE is due. -/
theorem State.closeDue_none {s : State} {c : EpochClass} (hc : s.ep.current s.stationId = some c) (hu : s.unfinishedIn c = true) :
    s.closeDue = none := by
  have hopen : ¬ s.closeOpenDue = true := by
    rw [s.closeOpenDue_iff]
    rintro ⟨-, ho, hn⟩
    rcases Epochs.current_cases hc with ⟨rfl, -⟩ | ⟨-, h, -⟩
    · exact hn hu
    · exact ho h
  have hnext : ¬ s.closeNextDue = true := by
    rw [s.closeNextDue_iff]
    rintro ⟨-, ho, -, hn, -⟩
    rcases Epochs.current_cases hc with ⟨-, h⟩ | ⟨rfl, -⟩
    · simp [h] at ho
    · exact hn hu
  rw [State.closeDue, if_neg hopen, if_neg hnext]

/-- R30, R35: the report of a packet taken leaves a broken batch's record with its entries, unfinished. -/
theorem State.reportedTaken_unfinished {s : State} {b : BatchRecord} (hb : b ∈ s.tx.batches) (hbroken : b.broken = true) {c : EpochClass}
    (hin : s.ep.batchIn s.stationId b.tag c = true) : s.reportedTaken.unfinishedIn c = true := by
  simp only [State.unfinishedIn, State.reportedTaken, List.any_eq_true, List.mem_filter]
  exact ⟨b, ⟨hb, by simp [Transmitter.unfinished, hbroken]⟩, by simp [Transmitter.unfinished, hbroken, hin]⟩

section
variable {s : State} {i : StationId} {u : Update} {tag : Half} {bt : Byte}

/-- R28: at a receiver an UPDATE that fails a check changes nothing. -/
theorem exec_update_void (ha : s.admitted) (hm : s.mb.state = .member ∨ s.mb.state = .joining) (hf : u.countFits)
    (hi : idIn i s.mb.roster = true) (h : ¬ s.tagged i tag ∨ u.inRange = false ∨ ¬ s.ownsPaneOf u i) :
    exec (u.taken i tag bt) s = .next s.slotPassed := by
  have void {r : Reason} (hc : s.slotPassed.updateCheck i ⟨tag, bt, u⟩ = .error r) (hr : r ≠ .foreign) :
      exec (u.taken i tag bt) s = .next s.slotPassed := by
    rw [u.taken_eq]
    exact exec_taken_void ha hm ((u.kind_deliver i _ _).trans (State.deliverUpdate_void hf hc hr))
  by_cases ht : s.tagged i tag
  · cases hr : u.inRange with
    | false => exact void (State.updateCheck_range (s := s.slotPassed) hi ht hr) (by simp)
    | true =>
      have ho : ¬ s.ownsPaneOf u i := (h.resolve_left (not_not.2 ht)).resolve_left (by simp [hr])
      exact void (State.updateCheck_notOwner (s := s.slotPassed) hi ht hr ho) (by simp)
  · exact void (State.updateCheck_stale (s := s.slotPassed) hi ht) (by simp)

/-- R14, R28: an own UPDATE that fails a check posts its reason and is reported taken. -/
theorem exec_update_void_own (hl : s.link.state = .transmitting) (hrole : s.link.role = some .evaluator) (hs : s.link.slot = .pending)
    {d : Admission} (hd : s.link.decision = some d) (href : d.refuse = false) (hm : s.mb.state = .member)
    (hroom : s.host.events.length < 32) (hf : u.countFits) {r : Reason}
    (hc : s.slotPassed.updateCheck s.stationId ⟨tag, bt, u⟩ = .error r) (hr : r ≠ .foreign) :
    exec (u.taken s.stationId tag bt) s
      = .next (s.slotPassed.withEvent .updateVoid r.code (bt.setWidth 16) (u.kind.code.2.setWidth 16)).reported := by
  rw [u.taken_eq, exec_taken_sending hl hrole hs hd href hm, u.kind_deliver, State.deliverUpdate_void hf hc hr,
    State.voidEvent_own (by exact hm) (State.sending_sentHere hl) (by exact hroom)]

/-- R14, R30: an own UPDATE that passes is staged, noted and reported taken. -/
theorem exec_update_staged_own (hl : s.link.state = .transmitting) (hrole : s.link.role = some .evaluator) (hs : s.link.slot = .pending)
    {d : Admission} (hd : s.link.decision = some d) (href : d.refuse = false) (hm : s.mb.state = .member) (hf : u.countFits)
    {c : EpochClass} (hc : s.slotPassed.updateCheck s.stationId ⟨tag, bt, u⟩ = .ok c) :
    exec (u.taken s.stationId tag bt) s = .next ((s.slotPassed.stages s.stationId u bt c).noteTaken bt).reported := by
  rw [u.taken_eq, exec_taken_sending hl hrole hs hd href hm, u.kind_deliver, State.deliverUpdate_staged hf hc,
    if_pos (State.sending_sentHere hl)]

end

/-- Settles O47: the check by its four outcomes, the note in the batch's record by whether the Transmitter still holds the packet. -/
theorem updateDelivery : Obligations.UpdateDelivery := by
  intro s i u tag bt hf hi tagged owned staged
  refine ⟨fun ha hm => ⟨fun c hc ht hr ho => ?_, fun h => exec_update_void ha hm hf hi h⟩, ?_, ?_⟩
  · rw [u.taken_eq]
    refine (exec_taken_admitted ha hm u.kind i _).trans (congrArg _ ?_)
    have hcheck : s.slotPassed.updateCheck i ⟨tag, bt, u⟩ = .ok c := State.updateCheck_ok (s := s.slotPassed) hi hc ht hr ho
    rw [u.kind_deliver, State.deliverUpdate_staged hf hcheck, State.admitted_sentHere ha]
    rfl
  · intro hs hm hown void
    subst hown
    obtain ⟨hl, hrole, hslot, hdisc, ⟨d, hd, href⟩, -⟩ := id hs
    obtain ⟨p, hatt⟩ := hs.attempt
    have fail {r : Reason} (hroom : s.host.events.length < 32) (hc : s.slotPassed.updateCheck s.stationId ⟨tag, bt, u⟩ = .error r)
        (hr : r ≠ .foreign) : exec (u.taken s.stationId tag bt) s = .next (void r) :=
      (exec_update_void_own hl hrole hslot hd href hm hroom hf hc hr).trans (congrArg _ (hs.reported_head rfl rfl))
    refine ⟨fun c hc ht hr ho => ?_, fun hroom => ⟨fun ht => ?_, fun ht hr => ?_, fun ht hr ho => ?_⟩⟩
    · have hcheck := State.updateCheck_ok (s := s.slotPassed) (bt := bt) hi hc ht hr ho
      have hheld : (s.slotPassed.stages s.stationId u bt c).attemptDropped = false := by
        simp [State.attemptDropped, State.stages, State.slotPassed, hatt]
      rw [exec_update_staged_own hl hrole hslot hd href hm hf hcheck, State.noteTaken_marks (.inl hheld)]
      exact congrArg _ (hs.reported_head rfl rfl)
    · exact fail hroom (State.updateCheck_stale (s := s.slotPassed) hi ht) (by simp)
    · exact fail hroom (State.updateCheck_range (s := s.slotPassed) hi ht hr) (by simp)
    · exact fail hroom (State.updateCheck_notOwner (s := s.slotPassed) hi ht hr ho) (by simp)
  · intro a d hl hrole hslot hdisc hd href hatt hlive hm hown void
    subst hown
    have fail {r : Reason} (hroom : s.host.events.length < 32) (hc : s.slotPassed.updateCheck s.stationId ⟨tag, bt, u⟩ = .error r)
        (hr : r ≠ .foreign) : exec (u.taken s.stationId tag bt) s = .next (void r) :=
      (exec_update_void_own hl hrole hslot hd href hm hroom hf hc hr).trans
        (congrArg _ (State.reported_dropped (s := s.slotPassed.withEvent _ _ _ _) hatt hlive hdisc))
    refine ⟨fun c hc ht hr ho => ?_, fun hroom => ⟨fun ht => ?_, fun ht hr => ?_, fun ht hr ho => ?_⟩⟩
    · have hcheck := State.updateCheck_ok (s := s.slotPassed) (bt := bt) hi hc ht hr ho
      have hdropped : (s.slotPassed.stages s.stationId u bt c).attemptDropped = true := by
        simp [State.attemptDropped, State.stages, State.slotPassed, hatt, hlive]
      rw [exec_update_staged_own hl hrole hslot hd href hm hf hcheck]
      refine ⟨fun hnone => ?_, fun hpending => ?_⟩
      · rw [State.noteTaken_raises hdropped hnone, State.reported_dropped (by exact hatt) hlive (by exact hdisc)]
        have hu := State.reportedTaken_unfinished (s := { staged c with
            tx := { s.tx with
              batches := (s.tx.batches.filter fun b => decide (b.tag ≠ bt)) ++ [⟨bt, true, true, true⟩]
              retracts := s.tx.retracts ++ [⟨bt, 0⟩] } }) (b := ⟨bt, true, true, true⟩) (by simp) rfl (c := c)
          (by simp [Epochs.batchIn, staged, State.slotPassed])
        exact ⟨_, rfl, hu, State.closeDue_none (by exact hc) hu, rfl⟩
      · rw [State.noteTaken_marks (s := s.slotPassed.stages s.stationId u bt c) (.inr hpending)]
        exact congrArg _ (State.reported_dropped (by exact hatt) hlive (by exact hdisc))
    · exact fail hroom (State.updateCheck_stale (s := s.slotPassed) hi ht) (by simp)
    · exact fail hroom (State.updateCheck_range (s := s.slotPassed) hi ht hr) (by simp)
    · exact fail hroom (State.updateCheck_notOwner (s := s.slotPassed) hi ht hr ho) (by simp)

end Sys2Proof.Machine
end

section
/-! PROOF. O52: exhaustion, self-demotion and the two membership timers. -/

namespace Sys2Proof.Machine

/-! ### The records of a removal (R95) -/

/-- R173: a record posted with a given epoch number, with room for it. -/
theorem State.postAt_of_room {s : State} (h : s.host.events.length < 32) (e : Half) (k : EventKind) (a : Byte) (b c : Half) :
    s.postAt e k a b c = { s with
      host := { s.host with events := s.host.events ++ [⟨k, e, a, b, c⟩] }
      pins := { s.pins with irqnLow := s.raster.irqEnabled } } := by
  have : s.host.events.length < Config.eventRoom := h
  rw [State.postAt, if_pos this]

/-- R173, R175: records posted one after another: only the event queue and IRQn change, and with room for all of them they stand at the
queue's tail in order. -/
def State.posted (s t : State) (rs : List EventRec) : Prop :=
  s.host.events.length + rs.length ≤ 32 →
    t.host = { s.host with events := s.host.events ++ rs } ∧ (rs ≠ [] → t.pins.irqnLow = s.raster.irqEnabled)

theorem State.posted_refl (s : State) : s.posted s [] := fun _ => ⟨by simp, fun h => absurd rfl h⟩

theorem State.posted.trans {s t u : State} {rs rs' : List EventRec} (h : s.posted t rs) (hr : t.raster = s.raster)
    (h' : t.posted u rs') (hp : rs' = [] → u.pins = t.pins) : s.posted u (rs ++ rs') := by
  intro hlen
  rw [List.length_append] at hlen
  obtain ⟨hhost, hirq⟩ := h (by omega)
  obtain ⟨hhost', hirq'⟩ := h' (by rw [hhost]; simp; omega)
  refine ⟨by rw [hhost', hhost]; simp, fun hne => ?_⟩
  by_cases hnil : rs' = []
  · subst hnil
    rw [hp rfl]
    exact hirq (by simpa using hne)
  · rw [hirq' hnil, hr]

theorem State.posted_postAt (s : State) (e : Half) (k : EventKind) (a : Byte) (b c : Half) :
    s.posted (s.postAt e k a b c) [⟨k, e, a, b, c⟩] := by
  intro h
  rw [State.postAt_of_room (by simpa using h)]
  exact ⟨rfl, fun _ => rfl⟩

theorem State.posted_postEach (s : State) (e : Half) (k : EventKind) (l : List Byte) :
    s.posted (s.postEach e k l) (l.map fun a => ⟨k, e, a, 0, 0⟩) := by
  induction l generalizing s with
  | nil => exact s.posted_refl
  | cons a t ih =>
    refine (s.posted_postAt e k a 0 0).trans (by simp) (ih _) fun h => ?_
    rw [List.map_eq_nil_iff.1 h]
    rfl

/-- Records posted, and then one more of a kind for each of a list. -/
theorem State.posted.each {s t : State} {rs : List EventRec} (h : s.posted t rs) (hr : t.raster = s.raster) (e : Half) (k : EventKind)
    (l : List Byte) : s.posted (t.postEach e k l) (rs ++ l.map fun a => ⟨k, e, a, 0, 0⟩) :=
  h.trans hr (t.posted_postEach e k l) fun hnil => by rw [List.map_eq_nil_iff.1 hnil]; rfl

/-! ### A removal (R94, R95) -/

/-- R95: a station with the records of its removal posted. -/
def State.removalPosted (s : State) (cause : EventKind) (arg : Byte) : State :=
  let u := s.postAt s.removalStamp cause arg 0 0
  if s.isMember then (u.postEach s.removalStamp .batchBroken s.purgedTags).postEach s.removalStamp .paneOrphaned s.ownPanes else u

theorem State.removalPosted_keeps (s : State) (cause : EventKind) (arg : Byte) :
    let u := s.removalPosted cause arg
    u.stationId = s.stationId ∧ u.link = s.link ∧ u.raster = s.raster ∧ u.freeCount = s.freeCount ∧ u.pending = s.pending := by
  simp only [State.removalPosted]
  split <;> simp

/-- R95: they are the records in its order. -/
theorem State.removalPosted_posted (s : State) (cause : EventKind) (arg : Byte) : s.posted (s.removalPosted cause arg)
    ((s.removalRecords cause arg).map fun r => ⟨r.1, s.removalStamp, r.2, 0, 0⟩) := by
  have hcause := s.posted_postAt s.removalStamp cause arg 0 0
  rw [State.removalPosted, State.removalRecords]
  cases s.isMember with
  | false => exact hcause
  | true =>
    have h := (hcause.each (by simp) s.removalStamp .batchBroken s.purgedTags).each (by simp) s.removalStamp .paneOrphaned s.ownPanes
    simpa [Function.comp_def] using h

theorem State.removeSelf_posted (s : State) (cause : EventKind) (arg : Byte) (o : Bool) : s.removeSelf cause arg o
    = (if o then (s.removalPosted cause arg).cleared.disconnect else (s.removalPosted cause arg).cleared.enterListening).revote := rfl

/-- R22: a disconnection touches the two lines of the link alone. -/
@[simp] theorem State.disconnect_pins (s : State) :
    s.disconnect.pins.tlfLow = s.pins.tlfLow ∧ s.disconnect.pins.irqnLow = s.pins.irqnLow := by
  simp only [State.disconnect, State.disconnectNow]
  split <;> simp [State.releaseLink]

/-- R55: a station that is no member keeps TLV released. -/
theorem State.voteLow_outsider {s : State} (h : s.mb.state ≠ .member) : s.voteLow = false := by
  simp [State.voteLow, State.isMember, h]

/-- R94: what a removal leaves, the link apart. -/
theorem State.removeSelf_leftGroup (s : State) (cause : EventKind) (arg : Byte) (o : Bool) :
    s.leftGroup (s.removeSelf cause arg o) cause arg (if o then .offline else .listening) := by
  obtain ⟨hid, hlink, hraster, hfree, hpending⟩ := s.removalPosted_keeps cause arg
  have hposted := s.removalPosted_posted cause arg
  have hstamp : s.removalStamp = s.ep.openNum ∨ s.removalStamp = 1 := by
    simp only [State.removalStamp]
    split
    · exact .inr rfl
    · exact .inl rfl
  have hrecords (hlen : s.host.events.length + (s.removalRecords cause arg).length ≤ 32) := hposted (by simpa using hlen)
  rw [State.removeSelf_posted]
  generalize s.removalPosted cause arg = u at *
  have left (t : State) (next : MemberState) (hmb : t.mb = { membershipCleared next with
        listenTimer := if next = .listening then some 500 else none })
      (hid' : t.stationId = u.cleared.stationId) (htx : t.tx = u.cleared.tx) (hep : t.ep = u.cleared.ep)
      (hpanes : t.panes = u.cleared.panes) (hstore : t.store = u.cleared.store) (hpal : t.palettes = u.cleared.palettes)
      (hras : t.raster = u.cleared.raster) (hhost : t.host = u.cleared.host) (hfree' : t.freeCount = u.cleared.freeCount)
      (hpend : t.pending = u.cleared.pending) (htlf : t.pins.tlfLow = u.cleared.pins.tlfLow) (htlv : t.pins.tlvLow = false)
      (hirq : t.pins.irqnLow = u.cleared.pins.irqnLow) : s.leftGroup t cause arg next := by
    refine ⟨hmb, ?_, hep, hpanes, hstore, hpal, ?_, htlf, htlv, ⟨s.removalStamp, hstamp, fun hlen => ?_⟩, hid'.trans hid,
      hfree'.trans hfree, hpend.trans hpending⟩
    · rw [htx]; exact ⟨rfl, rfl, rfl, rfl, rfl, rfl, rfl, rfl⟩
    · rw [hras, ← hraster]; rfl
    · obtain ⟨hh, hi⟩ := hrecords hlen
      refine ⟨?_, hirq.trans (hi (by simp [State.removalRecords]))⟩
      rw [hhost, State.cleared, hh]
  cases o with
  | true =>
    have hout : u.cleared.disconnect.mb.state ≠ .member := by simp [State.cleared, membershipCleared]
    apply left
    case htlv => exact State.voteLow_outsider hout
    case hmb => simp [State.cleared, membershipCleared]
    all_goals simp
  | false => exact left _ _ rfl rfl rfl rfl rfl rfl rfl rfl rfl rfl rfl rfl rfl rfl

/-- R94: a removal to LISTENING leaves the link as it is. -/
theorem State.removeSelf_link_listening (s : State) (cause : EventKind) (arg : Byte) :
    (s.removeSelf cause arg false).link = s.link := by
  obtain ⟨-, hlink, -⟩ := s.removalPosted_keeps cause arg
  exact hlink

/-- R22, R94: a removal to OFFLINE, with no packet of its own in progress, disconnects the link. -/
theorem State.removeSelf_link_offline {s : State} (h : s.link.state ≠ .transmitting) (cause : EventKind) (arg : Byte) :
    (s.removeSelf cause arg true).link = { linkReset with rate := s.link.rate } := by
  obtain ⟨-, hlink, -⟩ := s.removalPosted_keeps cause arg
  have hsend : (s.removalPosted cause arg).cleared.sending = false := by
    simp [State.cleared, State.sending, State.purge, State.clearShared, State.unlock, hlink, h]
  rw [State.removeSelf_posted, if_pos rfl, State.disconnect, hsend]
  simp [State.revote, State.disconnectNow, State.releaseLink, State.cleared, State.purge, State.clearShared, State.unlock, hlink]

/-- R95: a request of no batch at the queue's head has no record of its own in a removal. -/
theorem State.removalRecords_dropHead {s : State} {q : Queued} {rest : List Queued} (hq : s.tx.queue = q :: rest)
    (ht : q.request.tag? = none) (cause : EventKind) (arg : Byte) :
    s.dropHead.removalRecords cause arg = s.removalRecords cause arg := by
  have hqueued (g : Byte) : s.dropHead.tx.queuedInBatch g = s.tx.queuedInBatch g := by
    simp [Transmitter.queuedInBatch, State.dropHead, hq, ht]
  have htags : s.dropHead.purgedTags = s.purgedTags := by
    simp only [State.purgedTags, hqueued]
    rfl
  rw [State.removalRecords, htags]
  rfl

/-- R94: so the station leaves the group as it would with that request in its queue. -/
theorem State.leftGroup_dropHead {s t : State} {q : Queued} {rest : List Queued} (hq : s.tx.queue = q :: rest)
    (ht : q.request.tag? = none) {cause : EventKind} {arg : Byte} {next : MemberState} (h : s.dropHead.leftGroup t cause arg next) :
    s.leftGroup t cause arg next := by
  rw [State.leftGroup, State.removalRecords_dropHead hq ht] at h
  exact h

/-! ### An exhausted update or request (R36, R37) -/

theorem exec_exhaustedUpdate_head {s : State} {g : Byte} {u : Update} {n : Nat} {rest : List Queued}
    (hq : s.tx.queue = ⟨.update g u, n⟩ :: rest) (hn : 8 ≤ n) : exec .exhaustedUpdate s = .next (s.breakBatch g) := by
  have hx : (⟨.update g u, n⟩ : Queued).exhausted = true := decide_eq_true hn
  change execExhaustedUpdate s = _
  simp [execExhaustedUpdate, hq, hx]

/-- R36: a batch broken with none of its updates in an attempt, and with room for BATCH_BROKEN. -/
theorem State.breakBatch_eq {s : State} (ha : s.tx.attempt = none) (hroom : s.host.events.length < 32) (g : Byte) :
    s.breakBatch g = ({ s with
      tx := { (if s.batchTaken g then { s.tx with
            retracts := s.tx.retracts ++ [⟨g, 0⟩]
            batches := s.tx.batches.map fun b => if b.tag = g then { b with broken := true } else b }
          else { s.tx with batches := s.tx.batches.filter fun b => decide (b.tag ≠ g) }) with
        queue := s.tx.queue.filter fun q => decide (q.request.tag? ≠ some g) }
      host := { s.host with batch := s.host.batch.breakTag g } } : State).withEvent .batchBroken g 0 0 := by
  have htaken (p : Queued → Bool) : (s.removeQueued p).batchTaken g = s.batchTaken g := by
    rw [State.removeQueued_of_noAttempt ha]
    rfl
  rw [State.breakBatch, htaken, State.removeQueued_of_noAttempt ha]
  cases s.batchTaken g <;>
    simp [State.post_of_room, hroom, State.raiseRetract, State.changeRecord, State.dropRecord, State.withEvent]

/-- R37: the requests of a pane, dropped with their LINK outcome. -/
theorem exec_exhaustedRequest_pane {s : State} {r : Request} {n : Nat} {rest : List Queued} (hq : s.tx.queue = ⟨r, n⟩ :: rest)
    (hn : 8 ≤ n) (hroom : s.host.events.length < 32) {k : EventKind} {p : Byte}
    (hr : (∃ m, r = .claim p m ∧ k = .claimLost) ∨ (∃ g, r = .handover p g ∧ k = .handoverFailed)
      ∨ (r = .release p ∧ k = .releaseFailed)) :
    exec .exhaustedRequest s
      = .next (({ s with tx := { s.tx with queue := rest } } : State).withEvent k Reason.link.code (p.setWidth 16) 0) := by
  have hx : (⟨r, n⟩ : Queued).exhausted = true := decide_eq_true hn
  have hdrop : s.dropHead = { s with tx := { s.tx with queue := rest } } := by rw [State.dropHead, hq]; rfl
  change execExhaustedRequest s = _
  rw [← State.post_of_room (by exact hroom), ← hdrop]
  obtain ⟨m, rfl, rfl⟩ | ⟨g, rfl, rfl⟩ | ⟨rfl, rfl⟩ := hr <;> simp [execExhaustedRequest, hq, hx]

/-- R37: FOUND and JOIN, dropped for LISTENING. -/
theorem exec_exhaustedRequest_listens {s : State} {r : Request} {n : Nat} {rest : List Queued} (hq : s.tx.queue = ⟨r, n⟩ :: rest)
    (hn : 8 ≤ n) (hr : (r = .found ∧ s.mb.state = .founding) ∨ (r = .join ∧ s.mb.state = .requesting)) :
    exec .exhaustedRequest s = .next ({ s with tx := { s.tx with queue := rest } } : State).enterListening := by
  have hx : (⟨r, n⟩ : Queued).exhausted = true := decide_eq_true hn
  have hdrop : s.dropHead = { s with tx := { s.tx with queue := rest } } := by rw [State.dropHead, hq]; rfl
  change execExhaustedRequest s = _
  rw [← hdrop]
  obtain ⟨rfl, hm⟩ | ⟨rfl, hm⟩ := hr <;> simp [execExhaustedRequest, hq, hx, hm]

/-- R94: LEAVE, dropped for OFFLINE. -/
theorem exec_exhaustedRequest_leave {s : State} {n : Nat} {rest : List Queued} (hq : s.tx.queue = ⟨.leave, n⟩ :: rest) (hn : 8 ≤ n)
    (hm : s.mb.state = .member) :
    exec .exhaustedRequest s = .next (s.dropHead.removeSelf .memberLeft (idByte s.stationId) true) := by
  have hx : (⟨.leave, n⟩ : Queued).exhausted = true := decide_eq_true hn
  change execExhaustedRequest s = _
  simp [execExhaustedRequest, hq, hx, State.isMember, hm]

/-! ### Self-demotion (R38) -/

theorem State.demotes_iff (s : State) : s.demotes = true ↔ (s.mb.state = .member ∨ s.mb.state = .joining)
    ∧ ((∃ r ∈ s.tx.retracts, 8 ≤ r.refusals) ∨ (∃ d, s.tx.joinDone = some d ∧ 8 ≤ d.refusals) ∨ 8 ≤ s.tx.closeOpen
      ∨ 8 ≤ s.tx.closeNext) := by
  simp [State.demotes, State.evaluates, State.isMember, State.isJoiner, Option.any_eq_true, or_assoc]
  exact fun _ => Iff.rfl

/-- R38: with the refusals below the limit the station stays. -/
theorem exec_selfDemotion_stays {s : State} (h : s.demotes = false) : exec .selfDemotion s = .next s.dropExhausted := by
  change execSelfDemotion s = _
  rw [execSelfDemotion, h]
  rfl

/-- Settles O52, by each request that an exhausted head can be, the removal of a self-demotion, and the two timers. -/
theorem exhaustionAndTimers : Obligations.ExhaustionAndTimers := by
  unfold Obligations.ExhaustionAndTimers
  intro s
  refine ⟨fun g u n rest hq hn ha hroom => ⟨fun ht => ?_, fun ht => ?_⟩,
    fun r n rest hq hn => ⟨fun p m hr hroom => ?_, fun p g hr hroom => ?_, fun p hr hroom => ?_, fun hr hm => ?_, fun hr hm => ?_,
      fun hr hm => ?_⟩,
    fun hm hx => ?_, fun hr hd ho hn => ?_, fun n hm ht => ?_, fun n hm ht ha => ⟨fun hrise => ?_, fun hrise => ?_⟩⟩
  · rw [exec_exhaustedUpdate_head hq hn, State.breakBatch_eq ha hroom, ht]
    rfl
  · rw [exec_exhaustedUpdate_head hq hn, State.breakBatch_eq ha hroom, ht]
    rfl
  · exact exec_exhaustedRequest_pane hq hn hroom (.inl ⟨m, hr, rfl⟩)
  · exact exec_exhaustedRequest_pane hq hn hroom (.inr (.inl ⟨g, hr, rfl⟩))
  · exact exec_exhaustedRequest_pane hq hn hroom (.inr (.inr ⟨hr, rfl⟩))
  · exact exec_exhaustedRequest_listens hq hn (.inl ⟨hr, hm⟩)
  · exact exec_exhaustedRequest_listens hq hn (.inr ⟨hr, hm⟩)
  · subst hr
    exact ⟨_, exec_exhaustedRequest_leave hq hn hm, State.leftGroup_dropHead hq rfl (s.dropHead.removeSelf_leftGroup _ _ true),
      fun hl => State.removeSelf_link_offline (s := s.dropHead) hl _ _⟩
  · have hdemotes : exec .selfDemotion s = .next (s.removeSelf .linkFailed 0 s.mb.leaveRequested) := by
      change execSelfDemotion s = _
      rw [execSelfDemotion, if_pos (s.demotes_iff.2 ⟨hm, hx⟩)]
    exact ⟨_, hdemotes, s.removeSelf_leftGroup _ _ _, fun hl => by rw [hl]; exact s.removeSelf_link_listening _ _⟩
  · have hstays : s.demotes = false := by
      rw [Bool.eq_false_iff, Ne, s.demotes_iff]
      rintro ⟨-, ⟨r, hmem, hlim⟩ | ⟨d, hdone, hlim⟩ | hlim | hlim⟩
      · have := hr r hmem; omega
      · have := hd d hdone; omega
      all_goals omega
    rw [exec_selfDemotion_stays hstays, State.dropExhausted]
    refine ⟨fun hsnap => ?_, fun hsnap => ?_⟩
    · exact congrArg _ (if_neg (Nat.not_le.2 hsnap))
    · exact congrArg _ (if_pos hsnap)
  · change execListenIntervalExpiry s = _
    rw [execListenIntervalExpiry, if_pos ⟨hm, by simp [ht]⟩]
    rfl
  · change execRequestTimerExpiry s = _
    rw [execRequestTimerExpiry, if_pos ⟨hm, by simp [ht]⟩, if_pos hrise, State.withdrawJoin, State.removeQueued_of_noAttempt ha]
    simp [State.enqueue, hm, Config.requestMs]
  · change execRequestTimerExpiry s = _
    rw [execRequestTimerExpiry, if_pos ⟨hm, by simp [ht]⟩, if_neg (by simp [hrise]), State.withdrawJoin,
      State.removeQueued_of_noAttempt ha]
    simp [State.enterListening, Config.listenMs]

end Sys2Proof.Machine
end

section
/-! PROOF. O13, its relation: a station within its capacities before a change is within them after it, its transmit queue and its staging room
grown by no more than stated; and the shared operations, each once. -/

namespace Sys2Proof.Machine

/-! ### Within capacities -/

/-- The Host Port's capacities (R160, R173, section 8.5). -/
def HostPort.capped (h : HostPort) : Prop :=
  h.events.length ≤ 32 ∧ h.lost ≤ 255 ∧ h.framing ≤ 255 ∧ h.batch.countOf ≤ 40

/-- The Membership Unit's capacities (R90, R96). -/
def Membership.capped (m : Membership) : Prop := m.foreignCount ≤ 16 ∧ ∀ t, m.transfer = some t → t.age ≤ 240

/-- What the capacities read of a station. -/
def State.caps (s : State) :
    List EventRec × Nat × Nat × BatchState × Nat × Option Transfer × List Denial × List Queued × List (Fin 32) × Nat × List Entry :=
  (s.host.events, s.host.lost, s.host.framing, s.host.batch, s.mb.foreignCount, s.mb.transfer, s.tx.denials, s.tx.queue,
    s.raster.spanList, s.ep.stall, s.ep.staging)

theorem State.countsSound_iff (s : State) : s.countsSound ↔ s.host.capped ∧ s.mb.capped ∧ s.tx.denials.length ≤ 16
    ∧ s.raster.spanList.length ≤ 16 ∧ s.ep.stall ≤ 16 := by
  simp only [State.countsSound, HostPort.capped, Membership.capped]
  tauto

/-- `t` after `s`: each block keeps to its capacities, the transmit queue grows by `q` packets at most, and the staging queue by `g` entries of OPEN
and NEXT. -/
structure State.Within (s t : State) (q g : Nat) : Prop where
  host : s.host.capped → t.host.capped
  mb : s.mb.capped → t.mb.capped
  denials : s.tx.denials.length ≤ 16 → t.tx.denials.length ≤ 16
  span : s.raster.spanList.length ≤ 16 → t.raster.spanList.length ≤ 16
  stall : s.ep.stall ≤ 16 → t.ep.stall ≤ 16
  queue : t.tx.queue.length ≤ s.tx.queue.length + q
  gathering : t.ep.gatheringCount ≤ s.ep.gatheringCount + g

namespace State.Within

variable {s t u : State} {q q' g g' : Nat}

theorem counts (h : s.Within t q g) (hs : s.countsSound) : t.countsSound := by
  rw [State.countsSound_iff] at *
  obtain ⟨hhost, hmb, hdenials, hspan, hstall⟩ := hs
  exact ⟨h.host hhost, h.mb hmb, h.denials hdenials, h.span hspan, h.stall hstall⟩

theorem mono (h : s.Within t q g) (hq : q ≤ q') (hg : g ≤ g') : s.Within t q' g' :=
  ⟨h.host, h.mb, h.denials, h.span, h.stall, h.queue.trans (Nat.add_le_add_left hq _), h.gathering.trans (Nat.add_le_add_left hg _)⟩

theorem trans (h : s.Within t q g) (h' : t.Within u q' g') : s.Within u (q + q') (g + g') :=
  ⟨h'.host ∘ h.host, h'.mb ∘ h.mb, h'.denials ∘ h.denials, h'.span ∘ h.span, h'.stall ∘ h.stall,
    by have := h.queue; have := h'.queue; omega, by have := h.gathering; have := h'.gathering; omega⟩

/-- A change that adds nothing, after another. -/
theorem andThen (h : s.Within t q g) (h' : t.Within u 0 0) : s.Within u q g := h.trans h'

/-- A change after one that adds nothing. -/
theorem after (h : s.Within t 0 0) (h' : t.Within u q g) : s.Within u q g := by simpa using h.trans h'

/-- A change of the Host Port alone. -/
theorem of_host (hh : s.host.capped → t.host.capped) (hx : t.tx = s.tx) (he : t.ep = s.ep) (hm : t.mb = s.mb) (hr : t.raster = s.raster) :
    s.Within t q g :=
  ⟨hh, by rw [hm]; exact id, by rw [hx]; exact id, by rw [hr]; exact id, by rw [he]; exact id, by rw [hx]; exact Nat.le_add_right _ _,
    by rw [he]; exact Nat.le_add_right _ _⟩

/-- A change of the Transmitter alone. -/
theorem of_tx (hd : s.tx.denials.length ≤ 16 → t.tx.denials.length ≤ 16) (hq : t.tx.queue.length ≤ s.tx.queue.length + q)
    (hh : t.host = s.host) (he : t.ep = s.ep) (hm : t.mb = s.mb) (hr : t.raster = s.raster) : s.Within t q g :=
  ⟨by rw [hh]; exact id, by rw [hm]; exact id, hd, by rw [hr]; exact id, by rw [he]; exact id, hq, by rw [he]; exact Nat.le_add_right _ _⟩

/-- A change of none of the blocks that a capacity reads. -/
theorem of_eq (hh : t.host = s.host) (hx : t.tx = s.tx) (he : t.ep = s.ep) (hm : t.mb = s.mb) (hr : t.raster = s.raster) :
    s.Within t q g :=
  of_host (by rw [hh]; exact id) hx he hm hr

/-- A change that leaves alone what the capacities read. -/
theorem of_view (h : t.caps = s.caps) : s.Within t q g := by
  simp only [State.caps, Prod.mk.injEq] at h
  obtain ⟨hevents, hlost, hframing, hbatch, hforeign, htransfer, hdenials, hqueue, hspan, hstall, hstaging⟩ := h
  exact ⟨by simp [HostPort.capped, *], by simp [Membership.capped, *], by simp [*], by simp [*], by simp [*], by simp [*],
    by simp [Epochs.gatheringCount, *]⟩

theorem refl : s.Within s q g := of_eq rfl rfl rfl rfl rfl

theorem ite {c : Prop} [Decidable c] (ht : c → s.Within t q g) (hu : ¬ c → s.Within u q g) : s.Within (if c then t else u) q g := by
  split
  next h => exact ht h
  next h => exact hu h

/-- Changes that add nothing, one after another. -/
theorem foldl {α : Type} (f : State → α → State) (h : ∀ u a, State.Within u (f u a) 0 0) (l : List α) (s : State) :
    s.Within (l.foldl f s) 0 0 := by
  induction l generalizing s with
  | nil => exact refl
  | cons a l ih => exact (h s a).andThen (ih _)

end State.Within

/-! ### Events (R173) -/

/-- R173: a record posted finds room among 32, or is counted up to 255. -/
theorem State.postAt_within (s : State) (e : Half) (k : EventKind) (a : Byte) (b c : Half) : s.Within (s.postAt e k a b c) 0 0 := by
  refine .of_host ?_ (by simp) (by simp) (by simp) (by simp)
  rintro ⟨hevents, hlost, hframing, hbatch⟩
  simp only [State.postAt]
  split
  next hroom =>
    have : s.host.events.length < 32 := hroom
    exact ⟨by simp; omega, hlost, hframing, hbatch⟩
  next => exact ⟨hevents, Nat.min_le_left _ _, hframing, hbatch⟩

theorem State.post_within (s : State) (k : EventKind) (a : Byte) (b c : Half) : s.Within (s.post k a b c) 0 0 :=
  s.postAt_within _ k a b c

theorem State.postEach_within (s : State) (e : Half) (k : EventKind) (l : List Byte) : s.Within (s.postEach e k l) 0 0 :=
  .foldl _ (fun u a => u.postAt_within e k a 0 0) l s

theorem State.revote_within (s : State) : s.Within s.revote 0 0 := .of_view rfl

/-! ### The transmit queue and its batches -/

theorem State.removeQueued_within (s : State) (p : Queued → Bool) : s.Within (s.removeQueued p) 0 0 := by
  have hx : (s.removeQueued p).tx.denials = s.tx.denials ∧ (s.removeQueued p).tx.queue = s.tx.queue.filter fun q => !p q := by
    simp only [State.removeQueued]
    split <;> exact ⟨rfl, rfl⟩
  exact .of_tx (by rw [hx.1]; exact id) (by rw [hx.2]; exact List.length_filter_le _ _) (by simp) (by simp) (by simp) (by simp)

theorem State.withdrawJoin_within (s : State) : s.Within s.withdrawJoin 0 0 := s.removeQueued_within _

theorem State.withdrawFound_within (s : State) : s.Within s.withdrawFound 0 0 := s.removeQueued_within _

theorem State.enqueue_within (s : State) (r : Request) : s.Within (s.enqueue r) 1 0 :=
  ⟨id, id, id, id, id, by simp [State.enqueue], Nat.le_refl _⟩

theorem State.dropHead_within (s : State) : s.Within s.dropHead 0 0 :=
  ⟨id, id, id, id, id, by simp [State.dropHead], Nat.le_refl _⟩

theorem State.dropRecord_within (s : State) (g : Byte) : s.Within (s.dropRecord g) 0 0 :=
  .of_view rfl

theorem State.changeRecord_within (s : State) (g : Byte) (f : BatchRecord → BatchRecord) : s.Within (s.changeRecord g f) 0 0 :=
  .of_view rfl

theorem State.raiseRetract_within (s : State) (g : Byte) : s.Within (s.raiseRetract g) 0 0 :=
  .of_view rfl

theorem State.tidyBatches_within (s : State) : s.Within s.tidyBatches 0 0 :=
  .of_view rfl

theorem State.endAttempt_within (s : State) : s.Within s.endAttempt 0 0 :=
  .of_view rfl

theorem BatchState.countOf_breakTag (g : Byte) (b : BatchState) : (b.breakTag g).countOf = b.countOf := by
  cases b with
  | opened t n => simp only [BatchState.breakTag]; split <;> rfl
  | none => rfl
  | broken => rfl

/-- R36: a broken batch's packets go, and its update count stands. -/
theorem State.breakBatch_within (s : State) (g : Byte) : s.Within (s.breakBatch g) 0 0 := by
  have breakTag (u : State) : u.Within { u with host := { u.host with batch := u.host.batch.breakTag g } } 0 0 := by
    refine .of_host ?_ rfl rfl rfl rfl
    rintro ⟨hevents, hlost, hframing, hbatch⟩
    exact ⟨hevents, hlost, hframing, by rwa [BatchState.countOf_breakTag]⟩
  refine (s.removeQueued_within fun r => decide (r.request.tag? = some g)).andThen ?_
  refine State.Within.andThen (State.Within.andThen ?_ (State.post_within _ .batchBroken g 0 0)) (breakTag _)
  exact .ite (fun _ => (State.changeRecord_within _ _ _).andThen (State.raiseRetract_within _ _)) fun _ => State.dropRecord_within _ _

/-- R36, R30: noting a taken update changes the batch records and the pending RETRACTs alone. -/
theorem State.noteTaken_within (s : State) (g : Byte) : s.Within (s.noteTaken g) 0 0 := by
  simp only [State.noteTaken]
  split <;> exact .of_view rfl

/-- R35: a counted refusal adds no packet and no denial. -/
theorem State.countRefusal_within (s : State) : s.Within s.countRefusal 0 0 := by
  have hx : s.countRefusal.tx.denials.length = s.tx.denials.length ∧ s.countRefusal.tx.queue.length = s.tx.queue.length := by
    simp only [State.countRefusal]
    (repeat' split) <;> simp [*]
  exact .of_tx (by rw [hx.1]; exact id) (Nat.le_of_eq hx.2) (by simp) (by simp) (by simp) (by simp)

/-- R35: a report of a packet taken removes it where it waits. -/
theorem State.reportTaken_within (s : State) : s.Within s.reportTaken 0 0 := by
  have hx : s.reportTaken.tx.denials.length ≤ s.tx.denials.length ∧ s.reportTaken.tx.queue.length ≤ s.tx.queue.length := by
    simp only [State.reportTaken]
    (repeat' split) <;> simp [State.dropRecord, State.tidyBatches, State.endAttempt]
  have hm : s.reportTaken.mb.foreignCount = s.mb.foreignCount ∧ s.reportTaken.mb.transfer = s.mb.transfer := by
    simp only [State.reportTaken]
    (repeat' split) <;> simp
  exact ⟨by simp, by rw [Membership.capped, Membership.capped, hm.1, hm.2]; exact id, hx.1.trans, by simp, by simp, hx.2, by simp⟩

theorem State.reportRefused_within (s : State) : s.Within s.reportRefused 0 0 :=
  State.Within.andThen (.ite (fun _ => .refl) fun _ => s.countRefusal_within) (State.endAttempt_within _)

/-- R39, R40: a purge empties the Transmitter. -/
theorem State.purge_within (s : State) : s.Within s.purge 0 0 :=
  ⟨id, id, fun _ => Nat.zero_le _, id, id, Nat.zero_le _, Nat.le_refl _⟩

/-! ### The link's packet -/

theorem State.releaseLink_within (s : State) : s.Within s.releaseLink 0 0 := .of_view rfl

theorem State.disconnect_within (s : State) : s.Within s.disconnect 0 0 := .of_eq (by simp) (by simp) (by simp) (by simp) (by simp)

theorem State.disconnectNow_within (s : State) : s.Within s.disconnectNow 0 0 := .of_view rfl

theorem State.connect_within (s : State) (r : Option LinkRate) : s.Within (s.connect r) 0 0 :=
  .of_eq (by simp) (by simp) (by simp) (by simp) (by simp)

/-- R9, R16: a packet's end counts a refusal at most. -/
theorem State.endPacket_within (s : State) (n : Nat) : s.Within (s.endPacket n) 0 0 := by
  have hcount : s.Within (if s.sending && decide (s.link.slot = .pending) then s.countRefusal else s) 0 0 :=
    .ite (fun _ => s.countRefusal_within) fun _ => .refl
  simp only [State.endPacket]
  generalize (if s.sending && decide (s.link.slot = .pending) then s.countRefusal else s) = u at hcount
  refine hcount.andThen ?_
  split <;> exact .of_view rfl

theorem State.refused_within (s : State) : s.Within s.refused 0 0 := by
  have hreport : s.Within (if s.sending then s.reportRefused else s) 0 0 := .ite (fun _ => s.reportRefused_within) fun _ => .refl
  refine .ite (fun _ => ?_) fun _ => .refl
  generalize (if s.sending then s.reportRefused else s) = u at *
  exact (hreport.andThen (.ite (fun _ => u.releaseLink_within) fun _ => .refl)).andThen (.of_view rfl)

/-! ### Membership entered and left -/

theorem membershipCleared_capped (m : MemberState) : (membershipCleared m).capped :=
  ⟨Nat.le_refl _, fun _ h => by simp [membershipCleared] at h⟩

theorem State.enterListening_within (s : State) : s.Within s.enterListening 0 0 :=
  .of_view rfl

theorem State.enterRequesting_within (s : State) : s.Within s.enterRequesting 0 0 :=
  .of_view rfl

/-- R44, R100, R121, R154: the shared state cleared holds no entry and no stall. -/
theorem State.clearShared_within (s : State) : s.Within s.clearShared 0 0 :=
  ⟨id, id, id, id, fun _ => Nat.zero_le _, Nat.le_refl _, Nat.zero_le _⟩

theorem State.unlock_within (s : State) : s.Within s.unlock 0 0 :=
  .of_view rfl

/-- R94: the clearing of a removal. -/
theorem State.cleared_within (s : State) : s.Within s.cleared 0 0 := by
  refine (s.purge_within.andThen (State.clearShared_within _)).andThen ((State.unlock_within _).andThen ?_)
  exact ⟨fun ⟨hevents, hlost, hframing, _⟩ => ⟨hevents, hlost, hframing, Nat.zero_le _⟩, fun _ => membershipCleared_capped _, id, id, id,
    Nat.le_refl _, Nat.le_refl _⟩

/-- R94, R95: a removal. -/
theorem State.removeSelf_within (s : State) (cause : EventKind) (arg : Byte) (o : Bool) : s.Within (s.removeSelf cause arg o) 0 0 := by
  have hposted : s.Within (s.removalPosted cause arg) 0 0 := by
    exact (s.postAt_within s.removalStamp cause arg 0 0).andThen
      (.ite (fun _ => (State.postEach_within _ _ _ _).andThen (State.postEach_within _ _ _ _)) fun _ => .refl)
  rw [State.removeSelf_posted]
  refine (hposted.andThen (State.cleared_within _)).andThen (State.Within.andThen ?_ (State.revote_within _))
  exact .ite (fun _ => State.disconnect_within _) fun _ => State.enterListening_within _

/-- R93: another member's removal takes entries away. -/
theorem State.removeOther_within (s : State) (i : StationId) (k : EventKind) : s.Within (s.removeOther i k) 0 0 := by
  simp only [State.removeOther]
  refine State.Within.andThen (.after ?_ (.ite (fun _ => State.post_within _ _ _ _ _) fun _ => .refl)) (State.revote_within _)
  exact ⟨id, id, id, id, id, Nat.le_refl _, (List.filter_sublist.filter _).length_le⟩

end Sys2Proof.Machine
end

section
/-! PROOF. O13: the capacities through an observer's hearing, a delivery and a rise. -/

namespace Sys2Proof.Machine

/-- R29: the packets that evidence may add to the queue: a JOIN, at a station that is no member. -/
def State.grows (s : State) : Nat := if s.isMember then 0 else 1

/-! ### What an observer hears (R15) -/

/-- R74, R75: a JOIN asked. -/
theorem State.evidence_within (s : State) (rise : Bool) : s.Within (s.evidence rise) s.grows 0 := by
  have outsider (h : s.mb.state ≠ .member) : s.grows = 1 := by simp [State.grows, State.isMember, h]
  have seen (u : State) : u.Within { u with mb := { u.mb with groupSeen := true } } 0 0 :=
    .of_view rfl
  have asks (u : State) : u.Within (u.enqueue .join).enterRequesting 1 0 := (u.enqueue_within .join).andThen (State.enterRequesting_within _)
  simp only [State.evidence]
  split
  case h_1 hm =>
    rw [outsider (by simp [hm])]
    exact (seen s).after (asks _)
  case h_2 hm =>
    rw [outsider (by simp [hm])]
    exact .ite (fun _ => (seen s).mono (Nat.zero_le _) (Nat.le_refl _)) fun _ =>
      (s.withdrawFound_within.andThen (seen _)).after (asks _)
  case h_3 =>
    refine State.Within.mono ?_ (Nat.zero_le _) (Nat.le_refl _)
    exact .ite (fun _ => (seen s).andThen (.of_view rfl)) fun _ => seen s
  case h_4 => exact .refl

/-- R77: a group founded has an empty staging queue. -/
theorem State.foundGroup_within (s : State) : s.Within s.foundGroup 0 0 := by
  refine State.Within.andThen (s.clearShared_within.andThen (.after (t := { s.clearShared with
    link := { s.link with riseSample := if s.link.riseSample = some true then none else s.link.riseSample }
    mb := { membershipCleared .member with roster := idSet s.stationId }
    store := ⟨[], [⟨0, Config.granules⟩]⟩ }) ?_ (State.post_within _ .founded 0 0 0))) (State.revote_within _)
  exact ⟨id, fun _ => membershipCleared_capped .member, id, id, id, Nat.le_refl _, Nat.le_refl _⟩

theorem State.ownFound_within (s : State) : s.Within s.ownFound 0 0 :=
  .ite (fun _ => .ite (fun _ => s.enterRequesting_within) fun _ => s.foundGroup_within) fun _ => .refl

theorem State.ownFoundLost_within (s : State) : s.Within s.ownFoundLost 0 0 :=
  .ite (fun _ => s.enterListening_within) fun _ => .refl

theorem State.hearDenial_within (s : State) (p : List Byte) : s.Within (s.hearDenial p) 0 0 := by
  simp only [State.hearDenial]
  split
  · refine .ite (fun _ => .after ?_ (State.post_within _ _ _ _ _)) fun _ => .refl
    exact .of_view rfl
  · exact .refl

/-- R86: a station that enters JOINING has an empty staging queue and a transfer of age 0. -/
theorem State.hearHead_within (s : State) (i : StationId) (p : List Byte) : s.Within (s.hearHead i p) 0 0 := by
  simp only [State.hearHead]
  split
  · refine .ite (fun _ => s.withdrawJoin_within.andThen ?_) fun _ => .refl
    exact ⟨id, fun _ => ⟨Nat.le_refl _, fun t ht => by cases ht; exact Nat.zero_le _⟩, id, id, fun _ => Nat.zero_le _, Nat.le_refl _,
      Nat.zero_le _⟩
  · exact .refl

theorem State.observe_within (s : State) (k : Kind) (i : StationId) (p : List Byte) : s.Within (s.observe k i p) s.grows 0 := by
  simp only [State.observe]
  split
  · exact .ite (fun _ => s.ownFound_within.mono (Nat.zero_le _) (Nat.le_refl _)) fun _ => s.evidence_within false
  · exact s.evidence_within false
  · exact (s.hearDenial_within p).mono (Nat.zero_le _) (Nat.le_refl _)
  · exact (s.hearHead_within i p).mono (Nat.zero_le _) (Nat.le_refl _)
  · exact .refl

/-! ### A packet delivered (R26, R47) -/

/-- R96: the foreign-report count reported returns to 0. -/
theorem State.foreign_within (s : State) (i : StationId) (k : Kind) : s.Within (s.foreign i k) 0 0 :=
  .ite (fun _ => (s.post_within _ _ _ _).andThen
    ⟨id, fun ⟨_, hage⟩ => ⟨Nat.zero_le _, hage⟩, id, id, id, Nat.le_refl _, Nat.le_refl _⟩) fun _ => .refl

theorem State.voidEvent_within (s : State) (i : StationId) (e : EventKind) (r : Reason) (a b : Half) :
    s.Within (s.voidEvent i e r a b) 0 0 :=
  .ite (fun _ => s.post_within _ _ _ _) fun _ => .refl

theorem State.setControl_within (s : State) (i : Fin 32) (c : Control) : s.Within (s.setControl i c) 0 0 := .of_view rfl

/-- R47: one entry staged. -/
theorem State.stage_within (s : State) (c : EpochClass) (i : StationId) (g : Option Byte) (o : EntryOp) : s.Within (s.stage c i g o) 0 1 := by
  refine ⟨id, id, id, id, id, Nat.le_refl _, ?_⟩
  simp only [State.stage, Epochs.gatheringCount, List.filter_append, List.length_append]
  exact Nat.add_le_add_left (List.length_filter_le _ _) _

theorem State.deliverUpdate_within (s : State) (k : Kind) (i : StationId) (p : List Byte) : s.Within (s.deliverUpdate k i p) 0 1 := by
  simp only [State.deliverUpdate]
  split
  · exact .refl
  split
  · exact (s.foreign_within i k).mono (Nat.le_refl _) (Nat.zero_le _)
  · exact (s.voidEvent_within i _ _ _ _).mono (Nat.le_refl _) (Nat.zero_le _)
  · exact .andThen (s.stage_within _ _ _ _) (.ite (fun _ => State.noteTaken_within _ _) fun _ => .refl)

/-- R102, R104: a CLAIM stages its CLEAR when its count is not 0. -/
theorem claimOutcome_claimed {p : Pane} {fl fl' : List Extent} {n b : Nat} (h : claimOutcome p fl n = .claimed b fl') : n ≠ 0 := by
  rintro rfl
  rw [claimOutcome, if_pos rfl] at h
  cases hc : p.control <;> simp [hc] at h

theorem entriesAdded_claim {p : List Byte} {k : Byte} {n : Half} (h : readClaim p = some (k, n)) (hn : n.toNat ≠ 0) :
    entriesAdded .claim p = 1 := by
  obtain ⟨c1, c0, rfl, rfl⟩ : ∃ c1 c0, p = [k, c1, c0] ∧ n = halfOf c1 c0 := by
    simp only [readClaim] at h
    split at h
    · cases h; exact ⟨_, _, rfl, rfl⟩
    · cases h
  have : halfOf c1 c0 ≠ 0 := fun h0 => hn (by simp [h0])
  exact if_neg this

theorem State.deliverClaim_within (s : State) (i : StationId) (p : List Byte) :
    s.Within (s.deliverClaim i p) 0 (entriesAdded .claim p) := by
  have wins (u : State) (c : Prop) [Decidable c] (a : Byte) (b d : Half) : u.Within (if c then u.post .claimWon a b d else u) 0 0 :=
    .ite (fun _ => u.post_within _ _ _ _) fun _ => .refl
  have void (e : EventKind) (r : Reason) (a : Half) : s.Within (s.voidEvent i e r a 0) 0 (entriesAdded .claim p) :=
    (s.voidEvent_within i e r a 0).mono (Nat.le_refl _) (Nat.zero_le _)
  simp only [State.deliverClaim]
  split
  · exact .refl
  next k n hread =>
    refine .ite (fun _ => (s.foreign_within i .claim).mono (Nat.le_refl _) (Nat.zero_le _)) fun _ => ?_
    split
    · exact void _ _ _
    · refine .ite (fun _ => void _ _ _) fun _ => ?_
      split
      · exact void _ _ _
      next b fl hout =>
        rw [entriesAdded_claim hread (claimOutcome_claimed hout)]
        refine State.Within.andThen (.after (t := { s with store := { s.store with freeList := fl } }) ?_
          (.after (State.setControl_within _ _ _) (State.stage_within _ _ _ _ _))) (wins _ _ _ _ _)
        exact .of_view rfl
      · exact ((s.setControl_within _ _).andThen (wins _ _ _ _ _)).mono (Nat.le_refl _) (Nat.zero_le _)

theorem State.deliverHandover_within (s : State) (i : StationId) (p : List Byte) : s.Within (s.deliverHandover i p) 0 0 := by
  have posts (u : State) (c : Prop) [Decidable c] (e : EventKind) (a : Byte) (b : Half) : u.Within (if c then u.post e a b 0 else u) 0 0 :=
    .ite (fun _ => u.post_within _ _ _ _) fun _ => .refl
  simp only [State.deliverHandover]
  split
  · exact .refl
  refine .ite (fun _ => s.foreign_within i _) fun _ => ?_
  split
  · split
    · refine .ite (fun _ => s.voidEvent_within i _ _ _ _) fun _ => .ite (fun _ => s.voidEvent_within i _ _ _ _) fun _ => ?_
      exact ((s.setControl_within _ _).andThen (posts _ _ _ _ _)).andThen (posts _ _ _ _ _)
    · exact s.voidEvent_within i _ _ _ _
  · exact s.voidEvent_within i _ _ _ _

theorem State.deliverRelease_within (s : State) (i : StationId) (p : List Byte) : s.Within (s.deliverRelease i p) 0 1 := by
  have void (e : EventKind) (r : Reason) (a : Half) : s.Within (s.voidEvent i e r a 0) 0 1 :=
    (s.voidEvent_within i e r a 0).mono (Nat.le_refl _) (Nat.zero_le _)
  simp only [State.deliverRelease]
  split
  · exact .refl
  refine .ite (fun _ => (s.foreign_within i _).mono (Nat.le_refl _) (Nat.zero_le _)) fun _ => ?_
  split
  · exact void _ _ _
  · split
    · exact .ite (fun _ => .after (s.setControl_within _ _) (State.stage_within _ _ _ _ _)) fun _ => void _ _ _
    · exact void _ _ _

theorem State.deliverRetract_within (s : State) (i : StationId) (p : List Byte) : s.Within (s.deliverRetract i p) 0 0 := by
  simp only [State.deliverRetract]
  split
  · exact .refl
  refine .ite (fun _ => s.foreign_within i _) fun _ => ?_
  split
  · exact .refl
  · exact ⟨id, id, id, id, id, Nat.le_refl _, (List.filter_sublist.filter _).length_le⟩

theorem State.deliverClose_within (s : State) (i : StationId) (p : List Byte) : s.Within (s.deliverClose i p) 0 0 := by
  simp only [State.deliverClose]
  split
  · exact .refl
  refine .ite (fun _ => s.foreign_within i _) fun _ => .ite (fun _ => .ite (fun _ => ?_) fun _ => .refl) fun _ => .ite (fun _ => ?_) fun _ => .refl
  · exact .of_view rfl
  · exact .of_view rfl

/-- R31: at most 16 denials are pending. -/
theorem State.raiseDenial_within (s : State) (i : StationId) (r : DenyReason) : s.Within (s.raiseDenial i r) 0 0 := by
  refine .ite (fun h => ?_) fun _ => .refl
  have : s.tx.denials.length < 16 := h.2
  exact ⟨id, id, fun _ => by simp; omega, id, id, Nat.le_refl _, Nat.le_refl _⟩

theorem State.deliverJoin_within (s : State) (i : StationId) (p : List Byte) : s.Within (s.deliverJoin i p) 0 0 := by
  simp only [State.deliverJoin]
  split
  · exact .refl
  split
  · exact s.raiseDenial_within i _
  · exact .refl
  · exact .of_view rfl

theorem State.endTransfer_within (s : State) : s.Within s.endTransfer 0 0 :=
  ⟨id, fun ⟨hforeign, _⟩ => ⟨hforeign, fun _ h => by cases h⟩, id, id, id, Nat.le_refl _, Nat.le_refl _⟩

theorem State.dropDenials_within (s : State) : s.Within s.dropDenials 0 0 :=
  .ite (fun _ => .refl) fun _ => ⟨id, id, fun _ => Nat.zero_le _, id, id, Nat.le_refl _, Nat.le_refl _⟩

theorem State.admitJoiner_within (s : State) (i : StationId) : s.Within (s.admitJoiner i) 0 0 := by
  have joins (u : State) : u.Within { u with mb := { u.mb with roster := idAdd i u.mb.roster } } 0 0 :=
    .of_view rfl
  have enters (u : State) : u.Within { u with mb := { u.mb with state := .member, assembly := none } } 0 0 :=
    .of_view rfl
  simp only [State.admitJoiner]
  refine State.Within.andThen ((s.endTransfer_within.andThen (joins _)).andThen ?_) (State.revote_within _)
  exact .ite (fun _ => (enters _).andThen (State.post_within _ _ _ _ _)) fun _ =>
    (State.post_within _ _ _ _ _).andThen (State.dropDenials_within _)

theorem State.deliverJoinDone_within (s : State) (i : StationId) (p : List Byte) : s.Within (s.deliverJoinDone i p) 0 0 := by
  simp only [State.deliverJoinDone]
  split
  · exact .refl
  exact .ite (fun _ => .refl) fun _ => .ite (fun _ => s.admitJoiner_within i) fun _ => .ite (fun _ => s.removeSelf_within _ _ _) fun _ =>
    s.endTransfer_within.andThen (State.revote_within _)

theorem State.deliverLeave_within (s : State) (i : StationId) : s.Within (s.deliverLeave i) 0 0 :=
  .ite (fun _ => s.foreign_within i _) fun _ => .ite (fun _ => s.removeSelf_within _ _ _) fun _ => s.removeOther_within i _

/-- R86: a head taken begins the transfer's age anew. -/
theorem State.deliverHead_within (s : State) (i : StationId) (p : List Byte) : s.Within (s.deliverHead i p) 0 0 := by
  have fault : s.Within s.assemblyFault 0 0 := .of_view rfl
  simp only [State.deliverHead]
  refine .ite (fun _ => .ite (fun _ => .refl) fun _ => fault) fun _ => ?_
  split
  · refine .ite (fun _ => ?_) fun _ => .refl
    exact ⟨id, fun ⟨hforeign, _⟩ => ⟨hforeign, fun _ h => by cases h; exact Nat.zero_le _⟩, id, id, id, Nat.le_refl _, Nat.le_refl _⟩
  · exact .refl

/-- R87: a snapshot packet assembled writes memories, panes and palettes. -/
theorem State.assemble_within {α : Type} (s : State) (i : StationId) (c : Option α) {write : State → α → State}
    (h : ∀ u a, State.Within u (write u a) 0 0) : s.Within (s.assemble i c write) 0 0 := by
  have counts : s.Within s.countPacket 0 0 := .of_view rfl
  refine .ite (fun _ => ?_) fun _ => .refl
  split
  · exact counts.andThen (h _ _)
  · exact .of_view rfl

theorem State.appendFree_within (s : State) (b : Byte) (es : List Extent) : s.Within (s.appendFree b es) 0 0 := by
  simp only [State.appendFree]
  split
  · exact .ite (fun _ => .of_view rfl) fun _ => .of_view rfl
  · exact .refl

theorem State.deliverEnd_within (s : State) (i : StationId) (p : List Byte) : s.Within (s.deliverEnd i p) 0 0 := by
  refine .ite (fun _ => ?_) fun _ => .refl
  split
  · exact .of_view rfl
  · exact .ite (fun _ => .of_view rfl) fun _ => .refl

/-- R47: a delivery adds the entries that its kind adds, and no packet. -/
theorem Kind.deliver_within (k : Kind) (i : StationId) (p : List Byte) (s : State) : s.Within (k.deliver i p s) 0 (entriesAdded k p) := by
  cases k with
  | found => exact .ite (fun _ => .refl) fun _ => s.deliverJoin_within i p
  | join => exact s.deliverJoin_within i p
  | joinDeny => exact .refl
  | joinDone => exact s.deliverJoinDone_within i p
  | leave => exact s.deliverLeave_within i
  | claim => exact s.deliverClaim_within i p
  | handover => exact s.deliverHandover_within i p
  | release => exact s.deliverRelease_within i p
  | retract => exact s.deliverRetract_within i p
  | close => exact s.deliverClose_within i p
  | putCells | fill | copy | setPane | setPalette => exact s.deliverUpdate_within _ i p
  | snapHead => exact s.deliverHead_within i p
  | snapPane => dsimp only [Kind.deliver, entriesAdded]; exact s.assemble_within i _ fun _ _ => .of_view rfl
  | snapFree => dsimp only [Kind.deliver, entriesAdded]; exact s.assemble_within i _ fun u _ => u.appendFree_within _ _
  | snapPalette => dsimp only [Kind.deliver, entriesAdded]; exact s.assemble_within i _ fun _ _ => .of_view rfl
  | snapCells => dsimp only [Kind.deliver, entriesAdded]; exact s.assemble_within i _ fun _ _ => .of_view rfl
  | snapEnd => exact s.deliverEnd_within i p

/-! ### A packet taken (R14, R15, R35) -/

theorem State.taking_within {s : State} {deliver : State → State} {q g : Nat}
    (h : ∀ u : State, u.mb = s.mb → u.Within (deliver u) q g) : s.Within (s.taking deliver) q g := by
  have hpassed : s.Within { s.releaseLink with link := { s.link with slot := .taken } } 0 0 := .of_view rfl
  have hdelivered := hpassed.after (h _ rfl)
  exact .ite (fun _ => .ite (fun _ => (hdelivered.andThen (State.reportTaken_within _)).andThen (.of_view rfl)) fun _ =>
    hdelivered) fun _ => .refl

theorem State.take_within (s : State) (k : Kind) (i : StationId) (p : List Byte) :
    s.Within (s.take k i p (k.deliver i p)) s.grows (entriesAdded k p) := by
  refine State.taking_within fun u hu => ?_
  have hgrows : s.grows = u.grows := by rw [State.grows, State.grows, State.isMember, State.isMember, hu]
  rw [hgrows]
  exact .ite (fun _ => (k.deliver_within i p u).mono (Nat.zero_le _) (Nat.le_refl _)) fun _ =>
    .ite (fun _ => (u.observe_within k i p).mono (Nat.le_refl _) (Nat.zero_le _)) fun _ => .refl

theorem State.observeReceipt_within (s : State) (rx : RxPacket) : s.Within (s.observeReceipt rx) s.grows 0 := by
  simp only [State.observeReceipt]
  refine State.taking_within fun u hu => ?_
  have hgrows : s.grows = u.grows := by rw [State.grows, State.grows, State.isMember, State.isMember, hu]
  rw [hgrows]
  have hbuffered : u.Within { u with link := { u.link with rx := some rx.buffered } } 0 0 := .of_view rfl
  refine hbuffered.after (.ite (fun _ => ?_) fun _ => .ite (fun _ => ?_) fun _ => .refl)
  · split
    · exact State.observe_within _ _ _ _
    · exact .refl
  · exact (State.ownFoundLost_within _).mono (Nat.zero_le _) (Nat.le_refl _)

/-! ### A rise's effects (R54, R57, R58, R61, R90) -/

/-- R58: at a commit decision an entry of NEXT gathers on, and no other does. -/
theorem Entry.gathering_promote {e : Entry} (h : e.promote.gathering = true) : e.gathering = true := by
  obtain ⟨c, _, _, _⟩ := e
  cases c
  case applying => exact h
  all_goals rfl

theorem State.commitEpochs_within (s : State) : s.Within s.commitEpochs 0 0 := by
  refine ⟨id, fun ⟨_, hage⟩ => ⟨Nat.min_le_left _ _, hage⟩, id, id, fun _ => Nat.zero_le _, Nat.le_refl _, ?_⟩
  change ((s.ep.staging.map Entry.promote).filter Entry.gathering).length ≤ (s.ep.staging.filter Entry.gathering).length
  rw [← List.countP_eq_length_filter, ← List.countP_eq_length_filter, List.countP_map]
  exact List.countP_mono_left fun _ _ => Entry.gathering_promote

theorem State.freePane_within (s : State) (i : Fin 32) : s.Within (s.freePane i) 0 0 := by
  simp only [State.freePane]
  split <;> exact .of_view rfl

theorem State.startTransfer_within (s : State) : s.Within s.startTransfer 0 0 := by
  simp only [State.startTransfer]
  split
  · refine .ite (fun _ => ?_) fun _ => .refl
    exact ⟨id, fun ⟨hforeign, _⟩ => ⟨hforeign, fun _ h => by cases h; exact Nat.zero_le _⟩, id, id, id, Nat.le_refl _, Nat.le_refl _⟩
  · exact .refl

theorem State.commit_within (s : State) : s.Within s.commit 0 0 := by
  simp only [State.commit]
  refine .andThen (.andThen ?_ (State.startTransfer_within _)) (State.revote_within _)
  refine .andThen ?_ (State.postEach_within _ _ .releaseDone _)
  refine .andThen ?_ (.foldl _ State.dropRecord_within _ _)
  refine .andThen ?_ (State.postEach_within _ _ .batchCommitted _)
  exact s.commitEpochs_within.andThen (.foldl _ (fun u _ => u.freePane_within _) _ _)

/-- R61: the stall count stops at 16. -/
theorem State.stallStep_within (s : State) : s.Within s.stallStep 0 0 :=
  .ite (fun _ => ⟨id, id, id, id, fun _ => Nat.min_le_left _ _, Nat.le_refl _, Nat.le_refl _⟩) fun _ => .refl

/-- R90: the transfer age stops at 240. -/
theorem State.ageStep_within (s : State) : s.Within s.ageStep 0 0 := by
  simp only [State.ageStep]
  split
  · exact ⟨id, fun ⟨hforeign, _⟩ => ⟨hforeign, fun _ h => by cases h; exact Nat.min_le_left _ _⟩, id, id, id, Nat.le_refl _,
      Nat.le_refl _⟩
  · exact .refl

theorem State.memberRise_within (s : State) (b : Bool) : s.Within (s.memberRise b) 0 0 :=
  (s.ageStep_within.andThen (.ite (fun _ => State.commit_within _) fun _ => State.stallStep_within _)).andThen
    (.foldl State.breakBatch State.breakBatch_within _ _)

end Sys2Proof.Machine
end

section
/-! PROOF. O13: the capacities through every command. -/

namespace Sys2Proof.Machine

/-- R29: what one command may add to the transmit queue: up to 48 packets at a member, one packet at an outsider. -/
def State.queueSpace (s : State) : Nat := if s.isMember then 48 - s.tx.queue.length else 1

theorem State.grows_le (s : State) : s.grows ≤ s.queueSpace := by
  simp only [State.grows, State.queueSpace]
  split <;> simp

/-! ### The Host Port's commands -/

/-- R159: a command evaluated keeps the capacities where its effect does. -/
theorem State.evaluate_within {s : State} {n q g : Nat} {f : State → State × Status × List Byte} (h : s.Within (f s).1 q g) :
    s.Within (s.evaluate n f) q g :=
  .ite (fun _ => h.andThen (.of_view rfl)) fun _ => .refl

/-- R160: the framing count stops at 255. -/
theorem exec_framingError_within {bits : Nat} {s t : State} (h : exec (.framingError bits) s = .next t) : s.Within t 0 0 := by
  rw [← next_eq h]
  refine .ite (fun _ => .of_host ?_ rfl rfl rfl rfl) fun _ => .refl
  rintro ⟨hevents, hlost, hframing, hbatch⟩
  refine ⟨hevents, hlost, ?_, hbatch⟩
  change (if bits = 0 then s.host.framing else min 255 (s.host.framing + 1)) ≤ 255
  split <;> omega

/-- R173: the head record leaves before EVENTS_LOST is appended. -/
theorem exec_eventRecordRemoval_within {s t : State} (h : exec .eventRecordRemoval s = .next t) : s.Within t 0 0 := by
  rw [← next_eq h]
  refine .ite (fun hhead => .of_host ?_ rfl rfl rfl rfl) fun _ => .refl
  rintro ⟨hevents, -, hframing, hbatch⟩
  refine ⟨?_, Nat.zero_le _, hframing, hbatch⟩
  change s.eventsAfterRemoval.length ≤ 32
  have := List.length_pos_of_ne_nil hhead.2.2
  simp only [State.eventsAfterRemoval, List.length_append, List.length_tail]
  split <;> simp <;> omega

theorem State.configure_within (s : State) (f : TileFields) : s.Within (s.configure f).1 0 0 := by
  simp only [State.configure]
  (repeat' split) <;> exact .of_view rfl

theorem State.loadFont_within (s : State) (b : Byte) (rows : Vector Byte 16) : s.Within (s.loadFont b rows).1 0 0 := by
  simp only [State.loadFont]
  split <;> exact .of_view rfl

theorem State.startRaster_within (s : State) : s.Within s.startRaster 0 0 :=
  .ite (fun _ => .of_view rfl) fun _ => .refl

theorem State.goOnline_within (s : State) : s.Within s.goOnline.1 0 0 := by
  simp only [State.goOnline]
  split
  · exact .refl
  split
  · exact .refl
  · exact (s.enterListening_within.andThen (State.connect_within _ _)).andThen (State.startRaster_within _)

/-- R72: an outsider or the joiner that goes offline. -/
theorem State.outsiderOffline_within (s : State) : s.Within s.outsiderOffline 0 0 := by
  have enters (u : State) : u.Within { u with mb := membershipCleared .offline } 0 0 :=
    ⟨id, fun _ => membershipCleared_capped _, id, id, id, Nat.le_refl _, Nat.le_refl _⟩
  have hcleared := s.purge_within.andThen (State.Within.ite (c := s.isJoiner = true)
    (fun _ => (State.clearShared_within _).andThen (State.unlock_within _)) fun _ => .refl)
  exact (hcleared.andThen (enters _)).andThen ((State.disconnect_within _).andThen (State.revote_within _))

/-! The host's batch and its LEAVE (R165) -/

/-- R36: a broken batch leaves none of its packets in the queue. -/
theorem State.breakBatch_queue (s : State) (g : Byte) :
    (s.breakBatch g).tx.queue = s.tx.queue.filter fun q => !decide (q.request.tag? = some g) := by
  have hqueue (p : Queued → Bool) : (s.removeQueued p).tx.queue = s.tx.queue.filter fun q => !p q := by
    simp only [State.removeQueued]
    split <;> rfl
  rw [← hqueue, State.breakBatch]
  split <;> simp [State.changeRecord, State.raiseRetract, State.dropRecord]

theorem State.discardBatch_within (s : State) : s.Within s.discardBatch 0 0 := by
  have hbroken : s.Within (match s.host.batch with | .opened t _ => s.breakBatch t | _ => s) 0 0 := by
    split
    · exact s.breakBatch_within _
    · exact .refl
  exact hbroken.andThen (.of_host (fun ⟨hevents, hlost, hframing, _⟩ => ⟨hevents, hlost, hframing, Nat.zero_le _⟩) rfl rfl rfl rfl)

/-- R165: where a LEAVE may take a place, it finds one of the 48 or one that the discarded batch leaves. -/
theorem State.discardBatch_queue {s : State} (h : s.leaveRoom ≠ 0) :
    s.discardBatch.tx.queue.length + 1 ≤ s.tx.queue.length + (48 - s.tx.queue.length) := by
  simp only [State.leaveRoom, Config.queueRoom] at h
  simp only [State.discardBatch]
  split
  next t n hb =>
    have hsplit := s.tx.queue.length_eq_length_filter_add fun q => decide (q.request.tag? = some t)
    have hkeeps : ∀ u : State, ∀ hp, (u.setHost hp).tx = u.tx := fun _ _ => rfl
    simp only [hb] at h
    rw [hkeeps, State.breakBatch_queue]
    omega
  next hb =>
    have hnone : s.host.batch = .none ∨ ∃ t n, s.host.batch = .broken t n := by
      cases hs : s.host.batch with
      | opened t n => exact absurd hs (hb t n)
      | none => exact .inl rfl
      | broken t n => exact .inr ⟨t, n, rfl⟩
    change s.tx.queue.length + 1 ≤ _
    obtain hb | ⟨t, n, hb⟩ := hnone <;> simp only [hb] at h <;> omega

/-- R165: a member's LEAVE waits in the queue; any other station leaves at once. -/
theorem State.goOffline_within (s : State) : s.Within s.goOffline.1 s.queueSpace 0 := by
  simp only [State.goOffline]
  split
  · exact .refl
  next hm =>
    have hspace : s.queueSpace = 48 - s.tx.queue.length := by simp [State.queueSpace, State.isMember, hm]
    split
    · exact .refl
    split
    · exact .refl
    next hroom =>
      have hleave : s.Within (s.discardBatch.enqueue .leave) 1 0 :=
        State.Within.after (s.discardBatch_within) (State.enqueue_within _ _)
      refine ⟨hleave.host, hleave.mb, hleave.denials, hleave.span, hleave.stall, ?_, hleave.gathering⟩
      rw [hspace]
      simpa [State.enqueue] using State.discardBatch_queue hroom
  · exact s.outsiderOffline_within.mono (Nat.zero_le _) (Nat.le_refl _)

/-! Batches, updates and requests (R166 to R170) -/

theorem State.giveTag_within (s : State) (g : BitVec 4) (b : Bool) : s.Within (s.giveTag g b) 0 0 :=
  .of_view rfl

theorem State.setBatch_within (s : State) {b : BatchState} (h : b.countOf ≤ 40) : s.Within (s.setHost { s.host with batch := b }) 0 0 :=
  .of_host (fun ⟨hevents, hlost, hframing, _⟩ => ⟨hevents, hlost, hframing, h⟩) rfl rfl rfl rfl

theorem State.beginBatch_within (s : State) : s.Within s.beginBatch.1 0 0 := by
  simp only [State.beginBatch]
  split
  · exact .refl
  split
  · exact .refl
  · exact .refl
  split
  · exact .refl
  · exact (s.giveTag_within _ false).andThen (State.setBatch_within _ (Nat.zero_le _))

theorem State.endBatch_within (s : State) : s.Within s.endBatch.1 0 0 := by
  simp only [State.endBatch]
  split
  · exact .refl
  split
  · exact .refl
  · exact s.setBatch_within (Nat.zero_le _)
  · exact (s.setBatch_within (Nat.zero_le _)).andThen ((State.changeRecord_within _ _ _).andThen (State.tidyBatches_within _))

/-- R29, R164: a packet that finds room in a member's queue. -/
theorem State.one_le_queueSpace {s : State} (hg : s.groupWork = none) (hr : s.queueHasRoom = true) : 1 ≤ s.queueSpace := by
  have hm : s.isMember = true := by
    by_contra hn
    rw [State.groupWork, if_pos (by simpa using hn)] at hg
    cases hg
  have : s.tx.queue.length < 48 := of_decide_eq_true hr
  rw [State.queueSpace, if_pos hm]
  omega

/-- R168, section 8.5: an update finds room in the queue, and in an open batch room for 40. -/
theorem State.submit_within (s : State) (u : Update) : s.Within (s.submit u).1 s.queueSpace 0 := by
  simp only [State.submit]
  split
  · exact .refl
  next hg =>
    split
    · exact .refl
    split
    · exact .refl
    split
    · exact .refl
    next n _ =>
      split
      · exact .refl
      next hn =>
        have hn : n < 40 := Nat.not_le.1 hn
        split
        · exact .refl
        next hr =>
          refine ((s.enqueue_within _).andThen (State.setBatch_within _ ?_)).mono
            (State.one_le_queueSpace hg (by simpa using hr)) (Nat.le_refl _)
          exact hn
    · split
      · exact .refl
      split
      · exact .refl
      next hr =>
        exact ((s.giveTag_within _ true).after (State.enqueue_within _ _)).mono (State.one_le_queueSpace hg (by simpa using hr)) (Nat.le_refl _)

theorem State.request_within (s : State) (b : Bool) (r : Request) : s.Within (s.request b r).1 s.queueSpace 0 := by
  simp only [State.request]
  split
  · exact .refl
  next hg =>
    split
    · exact .refl
    split
    · exact .refl
    next hr => exact (s.enqueue_within r).mono (State.one_le_queueSpace hg (by simpa using hr)) (Nat.le_refl _)

theorem State.readEvent_within (s : State) : s.Within s.readEvent.1 0 0 := by
  simp only [State.readEvent]
  split
  · exact .of_view rfl
  · exact .refl

/-! ### The resets (R176, R177) -/

/-- R177: a reset station keeps within the capacities, whatever it was before, where its span list does. -/
theorem reset_within (s : State) {r : Raster} (hr : s.raster.spanList.length ≤ 16 → r.spanList.length ≤ 16) (i : StationId) :
    s.Within { State.reset with stationId := i, raster := r, freeCount := s.freeCount, pending := s.pending } 0 0 :=
  ⟨fun _ => by simp [HostPort.capped, State.reset, hostReset, BatchState.countOf], fun _ => membershipCleared_capped .offline,
    fun _ => Nat.zero_le _, hr, fun _ => Nat.zero_le _, Nat.zero_le _, Nat.zero_le _⟩

theorem Raster.softReset_spanList {r : Raster} (h : r.spanList.length ≤ 16) : r.softReset.spanList.length ≤ 16 := by
  simp only [Raster.softReset]
  (repeat' split)
  · exact Nat.zero_le _
  · exact h
  · exact Nat.zero_le _

theorem exec_softReset_within {i : StationId} {s t : State} (h : exec (.softReset i) s = .next t) : s.Within t 0 0 := by
  rw [← next_eq h]
  exact .ite (fun _ => (reset_within s Raster.softReset_spanList i).andThen (State.post_within _ _ _ _ _)) fun _ => .refl

/-! ### The Link Controller's commands -/

theorem exec_startCondition_within {n : Nat} {s t : State} (h : exec (.startCondition n) s = .next t) : s.Within t 0 0 := by
  rw [← next_eq h]
  split
  · exact .ite (fun _ => .of_view rfl) fun _ => .refl
  · exact .refl

theorem exec_lostInArbitration_within {n : Nat} {s t : State} (h : exec (.lostInArbitration n) s = .next t) : s.Within t 0 0 := by
  rw [← next_eq h]
  split
  · refine .ite (fun _ => (s.endAttempt_within.andThen (State.releaseLink_within _)).andThen ?_) fun _ => .refl
    dsimp only
    split
    · exact State.disconnectNow_within _
    · exact .of_view rfl
  · exact .refl

theorem exec_holdPoint_within {rx : RxPacket} {s t : State} (h : exec (.holdPoint rx) s = .next t) : s.Within t 0 0 := by
  rw [← next_eq h]
  refine .ite (fun _ => ?_) fun _ => .refl
  split
  · exact .ite (fun _ => .of_view rfl) fun _ => .refl
  · exact .of_view rfl
  · exact .refl

theorem exec_linkTimeout_within {s t : State} (h : exec .linkTimeout s = .next t) : s.Within t 0 0 := by
  rw [← next_eq h]
  have recovers (u : State) : u.Within { u with link := { u.link with state := .recovery } } 0 0 := .of_view rfl
  exact .ite (fun _ => (s.endPacket_within 0).andThen (.ite (fun _ => .refl) fun _ => (recovers _).andThen (State.post_within _ _ _ _ _)))
    fun _ => .refl

/-! ### Rises, limits and timers -/

theorem exec_tlfRise_within {b : Bool} {s t : State} (h : exec (.tlfRise b) s = .next t) : s.Within t 0 0 := by
  rw [← next_eq h]
  have hnoted : s.Within (s.sampleVote b).noteRise 0 0 :=
    State.Within.andThen (t := s.sampleVote b) (.of_eq (by simp) (by simp) (by simp) (by simp) (by simp)) (.of_view rfl)
  have relocks (u : State) : u.Within u.relock 0 0 :=
    State.Within.after (t := { u with raster := { u.raster with sync := .locked, holding := false, pulled := false } })
      (.of_view rfl) (State.post_within _ _ _ _ _)
  exact .ite (fun _ => .refl) fun _ => hnoted.andThen (.ite (fun _ => relocks _) fun _ =>
    .ite (fun _ => .of_view rfl) fun _ => .refl)

/-- R57, R73: at a member the decision, at the joiner the age, at an outsider the evidence. -/
theorem exec_tlfRiseEffects_within {s t : State} (h : exec .tlfRiseEffects s = .next t) : s.Within t s.grows 0 := by
  rw [← next_eq h]
  have taken : s.Within { s with link := { s.link with riseSample := none } } 0 0 := .of_view rfl
  split
  · refine .ite (fun _ => .refl) fun _ => taken.after ?_
    dsimp only
    split
    · exact (State.memberRise_within _ _).mono (Nat.zero_le _) (Nat.le_refl _)
    · exact (State.ageStep_within _).mono (Nat.zero_le _) (Nat.le_refl _)
    · exact State.evidence_within _ true
  · exact .refl

theorem exec_stallLimit_within {s t : State} (h : exec .stallLimit s = .next t) : s.Within t 0 0 := by
  rw [← next_eq h]
  have restarts : s.Within { s with ep := { s.ep with stall := 0 } } 0 0 :=
    ⟨id, id, id, id, fun _ => Nat.zero_le _, Nat.le_refl _, Nat.le_refl _⟩
  exact .ite (fun _ => .ite (fun _ => s.removeSelf_within _ _ _) fun _ =>
    restarts.andThen (.foldl _ (fun u i => u.removeOther_within i .memberEvicted) _ _)) fun _ => .refl

theorem exec_transferLimit_within {s t : State} (h : exec .transferLimit s = .next t) : s.Within t 0 0 := by
  rw [← next_eq h]
  split
  · exact .ite (fun _ => .ite (fun _ => s.removeSelf_within _ _ _) fun _ =>
      .ite (fun _ => s.endTransfer_within.andThen (State.revote_within _)) fun _ => .refl) fun _ => .refl
  · exact .refl

theorem exec_exhaustedUpdate_within {s t : State} (h : exec .exhaustedUpdate s = .next t) : s.Within t 0 0 := by
  rw [← next_eq h]
  (repeat' split)
  case isTrue => exact s.breakBatch_within _
  all_goals exact .refl

theorem exec_exhaustedRequest_within {s t : State} (h : exec .exhaustedRequest s = .next t) : s.Within t 0 0 := by
  rw [← next_eq h]
  have hd := s.dropHead_within
  split
  · refine .ite (fun _ => ?_) fun _ => .refl
    split
    case h_1 => exact .refl
    case h_2 | h_3 | h_4 => exact hd.andThen (State.post_within _ _ _ _ _)
    case h_5 | h_6 => exact .ite (fun _ => hd.andThen (State.enterListening_within _)) fun _ => hd
    case h_7 => exact .ite (fun _ => hd.andThen (State.removeSelf_within _ _ _ _)) fun _ => hd
  · exact .refl

theorem State.dropExhausted_within (s : State) : s.Within s.dropExhausted 0 0 := by
  have hdenials : s.Within { s with tx := { s.tx with denials := s.tx.denials.filter fun d => decide (d.refusals < Config.refusalLimit) } } 0 0 :=
    .of_tx (List.length_filter_le _ _).trans (Nat.le_refl _) rfl rfl rfl rfl
  exact hdenials.andThen (.ite (fun _ => .of_view rfl) fun _ => .refl)

theorem State.queueSpace_outsider {s : State} (h : s.mb.state ≠ .member) : s.queueSpace = 1 := by
  simp [State.queueSpace, State.isMember, h]

theorem exec_listenIntervalExpiry_within {s t : State} (h : exec .listenIntervalExpiry s = .next t) : s.Within t s.queueSpace 0 := by
  rw [← next_eq h]
  refine .ite (fun hl => ?_) fun _ => .refl
  rw [State.queueSpace_outsider (by simp [hl.1])]
  exact (s.enqueue_within .found).andThen (.of_view rfl)

theorem exec_requestTimerExpiry_within {s t : State} (h : exec .requestTimerExpiry s = .next t) : s.Within t s.queueSpace 0 := by
  rw [← next_eq h]
  refine .ite (fun hr => ?_) fun _ => .refl
  rw [State.queueSpace_outsider (by simp [hr.1])]
  exact .ite (fun _ => (s.withdrawJoin_within.after (State.enqueue_within _ .join)).andThen
    (.of_view rfl)) fun _ =>
    (s.withdrawJoin_within.andThen (State.enterListening_within _)).mono (Nat.zero_le _) (Nat.le_refl _)

/-! ### The raster and the apply pass -/

theorem exec_enterFront_within {s t : State} (h : exec .enterFront s = .next t) : s.Within t 0 0 := by
  rw [← next_eq h]
  have timing (u : State) : u.Within u.takeTiming 0 0 := by
    simp only [State.takeTiming]
    split <;> exact .of_view rfl
  have locks (u : State) : u.Within u.lockMember 0 0 := .ite (fun _ => .of_view rfl) fun _ => .refl
  have starts (u : State) : u.Within u.startPass 0 0 := .ite (fun _ => .of_view rfl) fun _ => .refl
  have pulls (u : State) : u.Within u.pullFrame 0 0 := .of_view rfl
  have enters : s.Within (s.enterPhase .front) 0 0 := .of_view rfl
  exact .ite (fun _ => (((enters.andThen (timing _)).andThen (locks _)).andThen (pulls _)).andThen (starts _)) fun _ => .refl

theorem exec_frameHoldLimit_within {s t : State} (h : exec .frameHoldLimit s = .next t) : s.Within t 0 0 := by
  rw [← next_eq h]
  refine .ite (fun _ => State.Within.after ?_ (State.post_within _ _ _ _ _)) fun _ => .refl
  exact .of_view rfl

/-- R146: the first 16 panes that qualify. -/
theorem exec_spanListBuild_within {row : Nat} {s t : State} (h : exec (.spanListBuild row) s = .next t) : s.Within t 0 0 := by
  rw [← next_eq h]
  have builds (l : List (Fin 32)) :
      s.Within { s with raster := { s.raster with spanRow := row, spanList := l.take Config.spanRoom } } 0 0 :=
    ⟨id, id, id, fun _ => List.length_take_le _ _, id, Nat.le_refl _, Nat.le_refl _⟩
  have marks (u : State) : u.Within { u with raster := { u.raster with overflowMark := true } } 0 0 :=
    .of_view rfl
  split
  · exact .ite (fun _ => (builds _).andThen (.ite (fun _ => (marks _).andThen (State.post_within _ _ _ _ _)) fun _ => .refl)) fun _ => .refl
  · exact .refl

theorem State.cellEntry_within {s t : State} {p : Byte} {w : Memory → Extent → Nat → Memory} (h : s.cellEntry p w = .next t) :
    s.Within t 0 0 := by
  simp only [State.cellEntry] at h
  (repeat' split at h) <;> cases h
  all_goals exact .of_view rfl

/-- R64: no row of the apply pass stages an entry. -/
theorem exec_apply_within {c : Instr} {s t : State}
    (hc : c ∈ [.applyClear, .applyPutCells, .applyFill, .applyCopy, .applySetPane, .applySetPalette, .applyRelease])
    (h : exec c s = .next t) : s.Within t 0 0 := by
  simp only [List.mem_cons, List.not_mem_nil, or_false] at hc
  rcases hc with rfl | rfl | rfl | rfl | rfl | rfl | rfl
  case inr.inl =>
    simp only [exec, execApplyPutCells] at h
    split at h
    · exact State.cellEntry_within h
    · cases h; exact .refl
  case inr.inr.inl =>
    simp only [exec, execApplyFill] at h
    split at h
    · exact State.cellEntry_within h
    · cases h; exact .refl
  case inr.inr.inr.inl =>
    simp only [exec, execApplyCopy] at h
    split at h
    · exact State.cellEntry_within h
    · cases h; exact .refl
  all_goals
    simp only [exec, execApplyClear, execApplySetPane, execApplySetPalette, execApplyRelease] at h
    (repeat' split at h) <;> cases h
    all_goals exact .of_view rfl

/-- R65: the pass's end takes the APPLYING entries away, and they gather no more. -/
theorem exec_applyPassEnd_within {s t : State} (h : exec .applyPassEnd s = .next t) : s.Within t 0 0 := by
  rw [← next_eq h]
  refine .ite (fun _ => .andThen ?_ (State.revote_within _)) fun _ => .refl
  exact ⟨id, id, id, id, id, Nat.le_refl _, (List.filter_sublist.filter _).length_le⟩

/-! ### Every command -/

/-- A command keeps within the capacities, adds to the transmit queue what R29 allows, and stages the entries of the packet it takes. -/
theorem exec_within {c : Instr} {s t : State} {n : Nat} (h : exec c s = .next t) (hn : ∀ k i p, c = k.taken i p → entriesAdded k p ≤ n) :
    s.Within t s.queueSpace n := by
  have same {u : State} (ht : s.Within u 0 0) : s.Within u s.queueSpace n := ht.mono (Nat.zero_le _) (Nat.zero_le _)
  have grown {u : State} (ht : s.Within u s.queueSpace 0) : s.Within u s.queueSpace n := ht.mono (Nat.le_refl _) (Nat.zero_le _)
  have host {m : Nat} {f : State → State × Status × List Byte} (hf : s.Within (f s).1 0 0) : s.Within (s.evaluate m f) s.queueSpace n :=
    same (State.evaluate_within hf)
  have queues {m : Nat} {f : State → State × Status × List Byte} (hf : s.Within (f s).1 s.queueSpace 0) :
      s.Within (s.evaluate m f) s.queueSpace n := grown (State.evaluate_within hf)
  have taken (k : Kind) (i : StationId) (p : List Byte) (hc : c = k.taken i p) : s.Within t s.queueSpace n := by
    rw [hc, exec_taken] at h
    rw [← next_eq h]
    exact (s.take_within k i p).mono s.grows_le (hn k i p hc)
  cases c with
  | powerOnReset i => rw [← next_eq h]; exact same (reset_within s (fun _ => Nat.zero_le _) i)
  | softReset i => exact same (exec_softReset_within h)
  | transactionStart => rw [← next_eq h]; exact .ite (fun _ => .of_view rfl) fun _ => .refl
  | framingError => exact same (exec_framingError_within h)
  | transactionEnd => rw [← next_eq h]; exact .ite (fun _ => .of_view rfl) fun _ => .refl
  | eventRecordRemoval => exact same (exec_eventRecordRemoval_within h)
  | badCommand => rw [← next_eq h]; exact .ite (fun _ => host .refl) fun _ => .refl
  | configure => rw [← next_eq h]; exact host (s.configure_within _)
  | loadFontB => rw [← next_eq h]; exact host (s.loadFont_within _ _)
  | goOnline => rw [← next_eq h]; exact host s.goOnline_within
  | goOffline => rw [← next_eq h]; exact queues s.goOffline_within
  | reset => rw [← next_eq h]; exact host (.of_view rfl)
  | beginBatch => rw [← next_eq h]; exact host s.beginBatch_within
  | endBatch => rw [← next_eq h]; exact host s.endBatch_within
  | putCells | fill | copy | setPane | setPalette => rw [← next_eq h]; exact queues (s.submit_within _)
  | claim | handover | release => rw [← next_eq h]; exact queues (s.request_within _ _)
  | readEvent => rw [← next_eq h]; exact host s.readEvent_within
  | readStatus => rw [← next_eq h]; exact host (.ite (fun _ => .of_view rfl) fun _ => .refl)
  | readPane => rw [← next_eq h]; exact host (by split <;> exact .refl)
  | readCells => rw [← next_eq h]; exact host (by split <;> exact .refl)
  | readRoster => rw [← next_eq h]; exact host .refl
  | startCondition => exact same (exec_startCondition_within h)
  | startSeen => rw [← next_eq h]; exact .ite (fun _ => .of_view rfl) fun _ => .refl
  | lostInArbitration => exact same (exec_lostInArbitration_within h)
  | holdPoint => exact same (exec_holdPoint_within h)
  | packetRefused => rw [← next_eq h]; exact same s.refused_within
  | observerReceipt =>
    rw [← next_eq h]
    exact .ite (fun _ => .ite (fun _ => (s.observeReceipt_within _).mono s.grows_le (Nat.zero_le _)) fun _ => same s.refused_within)
      fun _ => .refl
  | foundTaken i p => exact taken .found i p rfl
  | joinTaken i p => exact taken .join i p rfl
  | joinDenyTaken i p => exact taken .joinDeny i p rfl
  | joinDoneTaken i p => exact taken .joinDone i p rfl
  | leaveTaken i p => exact taken .leave i p rfl
  | claimTaken i p => exact taken .claim i p rfl
  | handoverTaken i p => exact taken .handover i p rfl
  | releaseTaken i p => exact taken .release i p rfl
  | retractTaken i p => exact taken .retract i p rfl
  | closeTaken i p => exact taken .close i p rfl
  | putCellsTaken i p => exact taken .putCells i p rfl
  | fillTaken i p => exact taken .fill i p rfl
  | copyTaken i p => exact taken .copy i p rfl
  | setPaneTaken i p => exact taken .setPane i p rfl
  | setPaletteTaken i p => exact taken .setPalette i p rfl
  | snapHeadTaken i p => exact taken .snapHead i p rfl
  | snapPaneTaken i p => exact taken .snapPane i p rfl
  | snapFreeTaken i p => exact taken .snapFree i p rfl
  | snapPaletteTaken i p => exact taken .snapPalette i p rfl
  | snapCellsTaken i p => exact taken .snapCells i p rfl
  | snapEndTaken i p => exact taken .snapEnd i p rfl
  | stopCondition | packetBreak | packetAbandoned =>
    rw [← next_eq h]
    exact same (.ite (fun _ => s.endPacket_within _) fun _ => .refl)
  | linkTimeout => exact same (exec_linkTimeout_within h)
  | busFreeInterval =>
    rw [← next_eq h]
    exact .ite (fun _ => .ite (fun _ => .of_view rfl) fun _ => .of_view rfl) fun _ => .refl
  | recoveryBusFree => rw [← next_eq h]; exact .ite (fun _ => .of_view rfl) fun _ => .refl
  | irregularTlcFall =>
    rw [← next_eq h]
    exact .ite (fun _ => .of_view rfl) fun _ => .ite (fun _ => .of_view rfl) fun _ => .refl
  | tlfRise => exact same (exec_tlfRise_within h)
  | tlfRiseEffects => exact (exec_tlfRiseEffects_within h).mono s.grows_le (Nat.zero_le _)
  | stallLimit => exact same (exec_stallLimit_within h)
  | transferLimit => exact same (exec_transferLimit_within h)
  | exhaustedUpdate => exact same (exec_exhaustedUpdate_within h)
  | exhaustedRequest => exact same (exec_exhaustedRequest_within h)
  | selfDemotion => rw [← next_eq h]; exact same (.ite (fun _ => s.removeSelf_within _ _ _) fun _ => s.dropExhausted_within)
  | listenIntervalExpiry => exact grown (exec_listenIntervalExpiry_within h)
  | requestTimerExpiry => exact grown (exec_requestTimerExpiry_within h)
  | enterFront => exact same (exec_enterFront_within h)
  | applyClear | applyPutCells | applyFill | applyCopy | applySetPane | applySetPalette | applyRelease =>
    exact same (exec_apply_within (by simp) h)
  | applyPassEnd => exact same (exec_applyPassEnd_within h)
  | frontEnd | syncEnd | tlfRelease | followingWaitLimit | backEnd =>
    rw [← next_eq h]
    exact same (.ite (fun _ => .of_view rfl) fun _ => .refl)
  | holdLineEnd =>
    rw [← next_eq h]
    exact same (.ite (fun _ => .ite (fun _ => .of_view rfl) fun _ =>
      .ite (fun _ => .of_view rfl) fun _ => .refl) fun _ => .refl)
  | frameHoldLimit => exact same (exec_frameHoldLimit_within h)
  | spanListBuild => exact same (exec_spanListBuild_within h)

/-! ### The hold point (R48) -/

/-- R25, R48: a packet that a member admits at its hold point finds room for the entries it adds. -/
theorem State.gathering_of_admitted {s : State} {rx : RxPacket} {k : Kind} (hm : s.mb.state = .member) (hk : rx.kind? = some k)
    (hg : s.ep.gatheringCount ≤ 256) (h : (s.admission rx).refuse = false) :
    s.ep.gatheringCount + entriesAdded k rx.payload ≤ 256 := by
  have hfits : ¬ s.overfills rx = true := fun ho => by
    have := (State.admission_member hm rx).2 (.inr (.inr (.inl ho)))
    simp [h] at this
  rw [State.overfills_iff] at hfits
  by_contra hover
  exact hfits ⟨k, hk, by omega, by omega⟩

/-- R48: at a member that evaluated a packet at its hold point, OPEN and NEXT keep to 256 entries when it is taken. -/
theorem exec_taken_gathering {s h t : State} {rx : RxPacket} {k : Kind} (hm : s.isMember = true) (hp : s.packetInProgress = true)
    (hr : s.link.role = some .evaluator) (hs : s.link.slot = .pending) (hd : s.link.decision = none) (hg : s.ep.gatheringCount ≤ 256)
    (hhold : exec (.holdPoint rx) s = .next h) (hk : rx.kind? = some k) (ht : exec (k.taken rx.sender rx.payload) h = .next t) :
    t.ep.gatheringCount ≤ 256 := by
  rw [exec_holdPoint_evaluator rx (by simpa [State.packetInProgress] using hp) hs hr hd] at hhold
  cases next_eq hhold
  have hmem : s.holdOpens.mb.state = .member := by simpa [State.isMember] using hm
  cases hrefuse : (s.holdOpens.admission rx).refuse with
  | true =>
    rw [exec_taken, State.take_refusing (s := s.holdOpens.holdDecided rx) rfl hrefuse] at ht
    cases next_eq ht
    exact hg
  | false =>
    have hroom : s.ep.gatheringCount + entriesAdded k rx.payload ≤ 256 := State.gathering_of_admitted (s := s.holdOpens) hmem hk hg hrefuse
    rw [exec_taken] at ht
    rw [← next_eq ht]
    exact (State.take_within _ k rx.sender rx.payload).gathering.trans hroom

/-! ### The free-extent list (R120) -/

theorem Extent.inRange_iff (e : Extent) : e.inRange = true ↔ e.base < 512 ∧ 1 ≤ e.size ∧ e.base + e.size ≤ 512 := by
  simp only [Extent.inRange, Bool.and_eq_true, decide_eq_true_eq, and_assoc]
  exact Iff.rfl

/-- R119, R120: extents of at least one granule, in order and apart, take two granules each, but the last. -/
theorem freeListOrdered_length {e : Extent} {rest : List Extent} (hr : ∀ x ∈ e :: rest, x.inRange = true)
    (ho : freeListOrdered (e :: rest) = true) : e.base + 2 * rest.length ≤ 511 := by
  induction rest generalizing e with
  | nil =>
    have := (e.inRange_iff.1 (hr e List.mem_cons_self)).1
    simp only [List.length_nil]
    omega
  | cons f rest ih =>
    rw [freeListOrdered, Bool.and_eq_true, decide_eq_true_eq] at ho
    obtain ⟨hgap, hrest⟩ := ho
    have hf := ih (fun x hx => hr x (List.mem_cons_of_mem _ hx)) hrest
    have := (e.inRange_iff.1 (hr e List.mem_cons_self)).2.1
    rw [List.length_cons]
    omega

theorem State.freeList_length_le {s : State} (h : s.accountSound) : s.store.freeList.length ≤ 256 := by
  obtain ⟨hrange, hordered, -⟩ := h
  have hr : ∀ e ∈ s.store.freeList, e.inRange = true := fun e he => hrange e (List.mem_append_right _ he)
  cases hfl : s.store.freeList with
  | nil => exact Nat.zero_le _
  | cons e rest =>
    rw [hfl] at hr hordered
    have := freeListOrdered_length hr hordered
    rw [List.length_cons]
    omega

theorem entriesAdded_le_one (k : Kind) (p : List Byte) : entriesAdded k p ≤ 1 := by
  cases k
  case claim => simp only [entriesAdded]; split <;> omega
  all_goals simp [entriesAdded]

/-- R29: what a step adds to the queue, read at a member and at an outsider. -/
theorem step_queue_within {s t : State} (h : step s = .next t) : t.tx.queue.length ≤ s.tx.queue.length + s.queueSpace := by
  rw [step] at h
  split at h
  · cases h; exact Nat.le_add_right _ _
  next c rest _ =>
    have hc : exec c { s with pending := rest } = .next t := h
    exact (exec_within (n := 1) hc fun k _ p _ => entriesAdded_le_one k p).queue

/-- Settles O13, by what every command keeps within, the hold point's decision, and the two lists that other relations bound. -/
theorem stepKeepsCapacities : Obligations.StepKeepsCapacities := by
  unfold Obligations.StepKeepsCapacities
  refine ⟨fun s t hs h => ?_, fun s t h => ⟨fun hm hq => ?_, fun hm => ?_⟩, fun c s t n h hn => ?_, ?_, ?_, fun s h => ?_⟩
  · exact step_keeps_of_exec (fun _ _ hs => hs) (fun _ _ _ hs h => (exec_within h fun k _ p _ => entriesAdded_le_one k p).counts hs) hs h
  · have := step_queue_within h
    rw [State.queueSpace, if_pos hm] at this
    omega
  · have := step_queue_within h
    rwa [State.queueSpace, hm] at this
  · exact (exec_within h hn).gathering
  · exact fun s h t rx k hm hp hr hs hd hg hhold hk ht => exec_taken_gathering hm hp hr hs hd hg hhold hk ht
  · exact fun s hm hr hj => State.joinQueue_length_le hm hr hj
  · exact State.freeList_length_le h

end Sys2Proof.Machine
end

section
/-! PROOF. Sets of station ids: what the set operations do to an id, and the list of a set's ids. -/

namespace Sys2Proof.Machine

@[simp] theorem idIn_and (i : StationId) (a b : IdSet) : idIn i (a &&& b) = (idIn i a && idIn i b) := BitVec.getLsbD_and

@[simp] theorem idIn_or (i : StationId) (a b : IdSet) : idIn i (a ||| b) = (idIn i a || idIn i b) := BitVec.getLsbD_or

@[simp] theorem idIn_not (i : StationId) (a : IdSet) : idIn i (~~~a) = !idIn i a := by
  simp [idIn, show i.toNat < 16 from i.isLt]

@[simp] theorem idIn_zero (i : StationId) : idIn i 0#16 = false := BitVec.getLsbD_zero

@[simp] theorem idIn_idSet (i j : StationId) : idIn i (idSet j) = decide (i = j) := by
  revert i j
  decide

@[simp] theorem idIn_idAdd (i j : StationId) (r : IdSet) : idIn i (idAdd j r) = (idIn i r || decide (i = j)) := by simp [idAdd]

@[simp] theorem idIn_idDrop (i j : StationId) (r : IdSet) : idIn i (idDrop j r) = (idIn i r && !decide (i = j)) := by simp [idDrop]

/-- A set is its ids. -/
theorem idSet_ext {a b : IdSet} (h : ∀ i : StationId, idIn i a = idIn i b) : a = b :=
  BitVec.eq_of_getLsbD_eq fun n hn => by
    have := h (BitVec.ofNat 4 n)
    rwa [idIn, idIn, BitVec.toNat_ofNat, Nat.mod_eq_of_lt (show n < 2 ^ 4 from hn)] at this

theorem mem_allIds (i : StationId) : i ∈ allIds :=
  List.mem_map.2 ⟨i.toNat, List.mem_range.2 i.isLt, BitVec.ofNat_toNat ..⟩

theorem mem_idList {i : StationId} {r : IdSet} : i ∈ idList r ↔ idIn i r = true := by
  simp [idList, mem_allIds]

theorem idList_eq_nil {r : IdSet} : idList r = [] ↔ r = 0 := by
  simp only [List.eq_nil_iff_forall_not_mem, mem_idList]
  exact ⟨fun h => idSet_ext fun i => by simpa using h i, fun h => by simp [h]⟩

end Sys2Proof.Machine
end

section
/-! PROOF. O6, O8, O9, their relation: what a change keeps of the drivers, the close sets and the epoch numbers; and the shared operations,
each once. -/

namespace Sys2Proof.Machine

/-! ### The drivers, one by one -/

/-- R55, R56: TLV is low exactly when this member's vote is. -/
def State.voteDriven (s : State) : Prop := s.pins.tlvLow = s.voteLow

/-- R175: IRQn is low exactly while it is wanted low. -/
def State.irqDriven (s : State) : Prop := s.pins.irqnLow = s.irqWanted

/-- R142: TLF is low exactly while the holding flag of a LOCKED station is set. -/
def State.frameDriven (s : State) : Prop :=
  s.pins.tlfLow = s.raster.holding ∧ (s.raster.holding = true → s.raster.sync = .locked)

theorem State.driversSound_iff (s : State) : s.driversSound ↔ s.voteDriven ∧ s.irqDriven ∧ s.frameDriven := Iff.rfl

/-! ### What a change keeps -/

/-- `t` after `s`: IRQn and TLF keep to their owners, the close sets to R49 and the epoch numbers to R43. -/
structure State.Settles (s t : State) : Prop where
  irq : s.irqDriven → t.irqDriven
  frame : s.frameDriven → t.frameDriven
  closes : s.closeSetsNested → t.closeSetsNested
  epochs : s.epochsSound → t.epochsSound

/-- `t` after `s`: so does TLV. -/
structure State.Steady (s t : State) : Prop extends s.Settles t where
  vote : s.voteDriven → t.voteDriven

/-- What the relations read of a station, a rise's sample apart. -/
def State.steadyView (s : State) :
    (Bool × Bool × Bool) × (Bool × Bool × Bool × Sync × Bool) × Half × Half × List Entry × Bool × Bool × IdSet × IdSet :=
  ((s.pins.tlvLow, s.pins.irqnLow, s.pins.tlfLow), (s.voteLow, s.irqWanted, s.raster.holding, s.raster.sync, s.isMember),
    s.ep.openNum, s.ep.applied, s.ep.applyingEntries, s.ep.pendingApply, s.ep.passRunning, s.ep.openClose, s.ep.nextClose)

/-- R43: the epoch numbers stay sound where the Epoch Unit's numbers, flags and APPLYING entries stand, a member stays one while its apply
is pending, and no rise is sampled high. -/
theorem State.epochsSound_mono {s t : State} (hs : s.epochsSound) (hnum : t.ep.openNum = s.ep.openNum)
    (happ : t.ep.applied = s.ep.applied) (hents : t.ep.applyingEntries = s.ep.applyingEntries)
    (hpend : t.ep.pendingApply = s.ep.pendingApply) (hpass : t.ep.passRunning = s.ep.passRunning)
    (hmem : s.isMember = true → t.isMember = true) (hrise : t.link.riseSample = some true → s.link.riseSample = some true) :
    t.epochsSound := by
  obtain ⟨happlied, hpending, hmember, hrunning, hsample⟩ := hs
  have hcom : t.ep.committed = s.ep.committed := by rw [Epochs.committed, Epochs.committed, hnum]
  refine ⟨?_, ?_, ?_, ?_, fun h => ?_⟩
  · rw [hpend, happ, hcom, hents]; exact happlied
  · rw [hpend, happ, hcom, hents]; exact hpending
  · rw [hpend]; exact hmem ∘ hmember
  · rw [hpend, hpass]; exact hrunning
  · rw [hpend]; exact hsample (hrise h)

namespace State.Settles

variable {s t u : State}

theorem refl : s.Settles s := ⟨id, id, id, id⟩

theorem trans (h : s.Settles t) (h' : t.Settles u) : s.Settles u :=
  ⟨h'.irq ∘ h.irq, h'.frame ∘ h.frame, h'.closes ∘ h.closes, h'.epochs ∘ h.epochs⟩

/-- R56: with TLV evaluated anew, TLV keeps to the vote as well. -/
theorem revote (h : s.Settles t) : s.Steady t.revote := ⟨⟨h.irq, h.frame, h.closes, h.epochs⟩, fun _ => rfl⟩

end State.Settles

namespace State.Steady

variable {s t u : State}

theorem refl : s.Steady s := ⟨.refl, id⟩

theorem trans (h : s.Steady t) (h' : t.Steady u) : s.Steady u := ⟨h.toSettles.trans h'.toSettles, h'.vote ∘ h.vote⟩

theorem ite {c : Prop} [Decidable c] (ht : c → s.Steady t) (hu : ¬ c → s.Steady u) : s.Steady (if c then t else u) := by
  split
  next h => exact ht h
  next h => exact hu h

theorem foldl {α : Type} (f : State → α → State) (h : ∀ u a, State.Steady u (f u a)) (l : List α) (s : State) :
    s.Steady (l.foldl f s) := by
  induction l generalizing s with
  | nil => exact refl
  | cons a l ih => exact (h s a).trans (ih _)

/-- A change that leaves alone what the relations read, but for a sample dropped. -/
theorem of_view (h : t.steadyView = s.steadyView) (hr : t.link.riseSample = none ∨ t.link.riseSample = s.link.riseSample) :
    s.Steady t := by
  simp only [State.steadyView, Prod.mk.injEq] at h
  obtain ⟨⟨htlv, hirq, htlf⟩, ⟨hvote, hwant, hhold, hsync, hmem⟩, hnum, happ, hents, hpend, hpass, hopen, hnext⟩ := h
  refine ⟨⟨?_, ?_, ?_, fun hs => ?_⟩, ?_⟩
  · rw [State.irqDriven, State.irqDriven, hirq, hwant]; exact id
  · rw [State.frameDriven, State.frameDriven, htlf, hhold, hsync]; exact id
  · rw [State.closeSetsNested, State.closeSetsNested, hopen, hnext]; exact id
  · refine State.epochsSound_mono hs hnum happ hents hpend hpass (by rw [hmem]; exact id) fun h => ?_
    obtain hr | hr := hr
    · simp [hr] at h
    · rwa [← hr]
  · rw [State.voteDriven, State.voteDriven, htlv, hvote]; exact id

/-- A change of none of the blocks that the relations read. -/
theorem of_blocks (hp : t.pins = s.pins) (hl : t.link = s.link) (he : t.ep = s.ep) (hm : t.mb = s.mb) (hr : t.raster = s.raster)
    (hh : t.host = s.host) : s.Steady t :=
  of_view (by simp [State.steadyView, State.voteLow, State.mayCommit, State.inTransfer, State.isMember, State.irqWanted, *])
    (.inr (by rw [hl]))

/-- R69: an outsider, which has no vote and no apply pending, stays one. -/
theorem of_outsider (hs : s.mb.state ≠ .member) (ht : t.mb.state ≠ .member) (hp : t.pins = s.pins) (hl : t.link = s.link)
    (he : t.ep = s.ep) (hr : t.raster = s.raster) (hh : t.host = s.host) : s.Steady t :=
  of_view (by simp [State.steadyView, State.voteLow, State.isMember, State.irqWanted, *]) (.inr (by rw [hl]))

end State.Steady

/-! ### Events (R173, R175) -/

/-- R175: a record appended drives IRQn as the enable gives; a record dropped finds the queue full. -/
theorem State.postAt_steady (s : State) (e : Half) (k : EventKind) (a : Byte) (b c : Half) : s.Steady (s.postAt e k a b c) := by
  simp only [State.postAt]
  split
  · exact ⟨⟨fun _ => by simp [State.irqDriven, State.irqWanted], id, id, id⟩, id⟩
  · exact .of_view rfl (.inr rfl)

theorem State.post_steady (s : State) (k : EventKind) (a : Byte) (b c : Half) : s.Steady (s.post k a b c) := s.postAt_steady _ k a b c

theorem State.postEach_steady (s : State) (e : Half) (k : EventKind) (l : List Byte) : s.Steady (s.postEach e k l) :=
  .foldl _ (fun u a => u.postAt_steady e k a 0 0) l s

/-! ### The transmit queue and its batches -/

theorem State.removeQueued_steady (s : State) (p : Queued → Bool) : s.Steady (s.removeQueued p) :=
  .of_blocks (by simp) (by simp) (by simp) (by simp) (by simp) (by simp)

theorem State.dropRecord_steady (s : State) (g : Byte) : s.Steady (s.dropRecord g) := .of_view rfl (.inr rfl)

/-- R36: of a broken batch the relations read its record alone. -/
theorem State.breakBatch_steady (s : State) (g : Byte) : s.Steady (s.breakBatch g) := by
  have breakTag (u : State) : u.Steady { u with host := { u.host with batch := u.host.batch.breakTag g } } := .of_view rfl (.inr rfl)
  refine (s.removeQueued_steady fun q => decide (q.request.tag? = some g)).trans
    (State.Steady.trans (State.Steady.trans ?_ (State.post_steady _ .batchBroken g 0 0)) (breakTag _))
  exact .ite (fun _ => .of_view rfl (.inr rfl)) fun _ => .of_view rfl (.inr rfl)

theorem State.noteTaken_steady (s : State) (g : Byte) : s.Steady (s.noteTaken g) :=
  .of_blocks (by simp) (by simp) (by simp) (by simp) (by simp) (by simp)

theorem State.countRefusal_steady (s : State) : s.Steady s.countRefusal :=
  .of_blocks (by simp) (by simp) (by simp) (by simp) (by simp) (by simp)

theorem State.reportRefused_steady (s : State) : s.Steady s.reportRefused :=
  .of_blocks (by simp) (by simp) (by simp) (by simp) (by simp) (by simp)

/-- R35, R85: of the Membership Unit a report moves the snapshot position alone. -/
theorem State.reportTaken_steady (s : State) : s.Steady s.reportTaken := by
  have reported (u : State) : u.Steady u.tidyBatches.endAttempt := .of_view rfl (.inr rfl)
  refine State.Steady.trans ?_ (reported _)
  (repeat' split) <;> exact .of_view rfl (.inr rfl)

/-! ### The link's packet -/

theorem State.releaseLink_steady (s : State) : s.Steady s.releaseLink := .of_view rfl (.inr rfl)

/-- R22: a disconnection drops a rise's sample. -/
theorem State.disconnectNow_steady (s : State) : s.Steady s.disconnectNow := .of_view rfl (.inl rfl)

theorem State.disconnect_steady (s : State) : s.Steady s.disconnect :=
  .ite (fun _ => .of_view rfl (.inr rfl)) fun _ => s.disconnectNow_steady

theorem State.connect_steady (s : State) (r : Option LinkRate) : s.Steady (s.connect r) :=
  .ite (fun _ => .of_view rfl (.inr rfl)) fun _ => .of_view rfl (.inl rfl)

theorem State.endPacket_steady (s : State) (n : Nat) : s.Steady (s.endPacket n) := by
  have hcount : s.Steady (if s.sending && decide (s.link.slot = .pending) then s.countRefusal else s) :=
    .ite (fun _ => s.countRefusal_steady) fun _ => .refl
  have hends (u : State) : u.Steady u.endAttempt.releaseLink := .of_view rfl (.inr rfl)
  simp only [State.endPacket]
  generalize (if s.sending && decide (s.link.slot = .pending) then s.countRefusal else s) = u at hcount
  refine (hcount.trans (hends u)).trans ?_
  split
  · exact State.disconnectNow_steady _
  · exact .of_view rfl (.inr rfl)

theorem State.refused_steady (s : State) : s.Steady s.refused := by
  have hreport : s.Steady (if s.sending then s.reportRefused else s) := .ite (fun _ => s.reportRefused_steady) fun _ => .refl
  refine .ite (fun _ => ?_) fun _ => .refl
  generalize (if s.sending then s.reportRefused else s) = u at *
  exact (hreport.trans (.ite (fun _ => u.releaseLink_steady) fun _ => .refl)).trans (.of_view rfl (.inr rfl))

/-! ### Membership entered and left -/

/-- R71, R74: LISTENING is entered by stations that are no members. -/
theorem State.enterListening_steady {s : State} (h : s.mb.state ≠ .member) : s.Steady s.enterListening :=
  .of_outsider h (by simp) rfl rfl rfl rfl rfl

/-- R49: with the NEXT close set empty, the close sets are nested. -/
theorem State.closeSetsNested_of_next {s : State} (h : s.ep.nextClose = 0) : s.closeSetsNested := by
  simp [State.closeSetsNested, idIn, h]

/-- R43, R44: an Epoch Unit with no entries and no apply pending is sound when the applied number is the committed number. -/
theorem State.epochsSound_of_empty {s : State} (hs : s.ep.staging = []) (hp : s.ep.pendingApply = false) (hr : s.ep.passRunning = false)
    (ha : s.ep.applied = s.ep.committed) : s.epochsSound := by
  simp [State.epochsSound, Epochs.applyingEntries, hs, hp, hr, ha]

/-- R44: nothing is unapplied after clearing. -/
theorem epochsCleared_applied : epochsCleared.applied = epochsCleared.committed := by decide

/-- R44: the shared state cleared. -/
theorem State.clearShared_settles (s : State) : s.Settles s.clearShared :=
  ⟨id, id, fun _ => State.closeSetsNested_of_next rfl, fun _ => State.epochsSound_of_empty rfl rfl rfl epochsCleared_applied⟩

/-- R140: the raster unlocked releases TLF with its holding flag. -/
theorem State.unlock_frameDriven (s : State) : s.unlock.frameDriven := ⟨rfl, fun h => Bool.noConfusion h⟩

/-- R94: the clearing of a removal. -/
theorem State.cleared_settles (s : State) : s.Settles s.cleared :=
  ⟨id, fun _ => State.unlock_frameDriven _, fun _ => State.closeSetsNested_of_next rfl, fun _ => State.epochsSound_of_empty rfl rfl rfl epochsCleared_applied⟩

/-- R94, R95: a removal. -/
theorem State.removeSelf_steady (s : State) (cause : EventKind) (arg : Byte) (o : Bool) : s.Steady (s.removeSelf cause arg o) := by
  have hposted : s.Steady (s.removalPosted cause arg) :=
    (s.postAt_steady s.removalStamp cause arg 0 0).trans
      (.ite (fun _ => (State.postEach_steady _ _ _ _).trans (State.postEach_steady _ _ _ _)) fun _ => .refl)
  have hout : (s.removalPosted cause arg).cleared.mb.state ≠ .member := by simp [State.cleared, membershipCleared]
  rw [State.removeSelf_posted]
  refine ((hposted.toSettles.trans (State.cleared_settles _)).trans (State.Steady.toSettles ?_)).revote
  exact .ite (fun _ => State.disconnect_steady _) fun _ => State.enterListening_steady hout

/-- R93: another member's removal takes its id from both close sets, and no APPLYING entry. -/
theorem State.removeOther_steady (s : State) (i : StationId) (k : EventKind) : s.Steady (s.removeOther i k) := by
  simp only [State.removeOther]
  refine State.Settles.revote (.trans ?_ (State.Steady.toSettles (.ite (fun _ => State.post_steady _ _ _ _ _) fun _ => .refl)))
  refine ⟨id, id, fun hs j => ?_, fun hs => State.epochsSound_mono hs rfl rfl ?_ rfl rfl id id⟩
  · simp only [idIn_idDrop, Bool.and_eq_true]
    exact fun h => ⟨hs j h.1, h.2⟩
  · simp only [Epochs.applyingEntries, List.filter_filter]
    refine List.filter_congr fun x _ => ?_
    by_cases h : x.cls = .applying <;> simp [Entry.gathering, h]

/-! ### What an observer hears (R15) -/

/-- R74, R75: evidence moves outsiders alone, and none of them to MEMBER. -/
theorem State.evidence_steady (s : State) (rise : Bool) : s.Steady (s.evidence rise) := by
  have moves {u : State} (hs : s.mb.state ≠ .member) (hu : u = s.evidence rise) (hm : u.mb.state ≠ .member) : s.Steady u := by
    subst hu
    exact .of_outsider hs hm (by simp) (by simp) (by simp) (by simp) (by simp)
  simp only [State.evidence] at moves ⊢
  split at moves
  case h_1 hm => exact moves (by simp [hm]) rfl (by simp)
  case h_2 hm => exact moves (by simp [hm]) rfl (by split <;> simp [hm])
  case h_3 hm => exact moves (by simp [hm]) rfl (by split <;> simp [hm])
  case h_4 => exact .refl

/-- R77: a group founded: the shared state cleared, a member alone in its roster, and the vote taken anew. -/
theorem State.foundGroup_steady (s : State) : s.Steady s.foundGroup := by
  have founds (u : State) (hp : u.ep.pendingApply = false) : u.Settles { u with
      link := { u.link with riseSample := if u.link.riseSample = some true then none else u.link.riseSample }
      mb := { membershipCleared .member with roster := idSet u.stationId }
      store := ⟨[], [⟨0, Config.granules⟩]⟩ } :=
    ⟨id, id, id, fun hs => State.epochsSound_mono hs rfl rfl rfl rfl rfl (fun _ => rfl) fun h => by
      dsimp only at h; split at h <;> simp_all⟩
  exact (s.clearShared_settles.trans ((founds _ rfl).trans (State.post_steady _ .founded 0 0 0).toSettles)).revote

theorem State.ownFound_steady (s : State) : s.Steady s.ownFound :=
  .ite (fun hm => .ite (fun _ => .of_outsider (by simp [hm]) (by simp) rfl rfl rfl rfl rfl) fun _ => s.foundGroup_steady) fun _ => .refl

theorem State.ownFoundLost_steady (s : State) : s.Steady s.ownFoundLost :=
  .ite (fun hm => s.enterListening_steady (by simp [hm])) fun _ => .refl

/-- R82: a denied station was no member. -/
theorem State.hearDenial_steady (s : State) (p : List Byte) : s.Steady (s.hearDenial p) := by
  simp only [State.hearDenial]
  split
  · refine .ite (fun h => .trans ?_ (State.post_steady _ _ _ _ _)) fun _ => .refl
    exact .of_outsider (by simp [h.1]) (by simp) rfl rfl rfl rfl rfl
  · exact .refl

/-- R86: the joiner takes the open number with its commit applied, and an empty NEXT close set. -/
theorem State.hearHead_steady (s : State) (i : StationId) (p : List Byte) : s.Steady (s.hearHead i p) := by
  simp only [State.hearHead]
  split
  next h _ =>
    refine .ite (fun hr => (s.removeQueued_steady fun q => decide (q.request = .join)).trans ?_) fun _ => .refl
    have hout : s.withdrawJoin.mb.state ≠ .member := by simp [hr.1]
    refine ⟨⟨id, id, fun _ => State.closeSetsNested_of_next rfl, fun _ => State.epochsSound_of_empty rfl rfl rfl rfl⟩, fun hv => ?_⟩
    have hv : s.withdrawJoin.pins.tlvLow = s.withdrawJoin.voteLow := hv
    rw [State.voteLow_outsider hout] at hv
    rw [State.voteDriven, State.voteLow_outsider (by simp [membershipCleared])]
    exact hv
  · exact .refl

theorem State.observe_steady (s : State) (k : Kind) (i : StationId) (p : List Byte) : s.Steady (s.observe k i p) := by
  simp only [State.observe]
  split
  · exact .ite (fun _ => s.ownFound_steady) fun _ => s.evidence_steady false
  · exact s.evidence_steady false
  · exact s.hearDenial_steady p
  · exact s.hearHead_steady i p
  · exact .refl

/-! ### A packet delivered (R26, R47) -/

theorem State.foreign_steady (s : State) (i : StationId) (k : Kind) : s.Steady (s.foreign i k) :=
  .ite (fun _ => (s.post_steady _ _ _ _).trans (.of_view rfl (.inr rfl))) fun _ => .refl

theorem State.voidEvent_steady (s : State) (i : StationId) (e : EventKind) (r : Reason) (a b : Half) : s.Steady (s.voidEvent i e r a b) :=
  .ite (fun _ => s.post_steady _ _ _ _) fun _ => .refl

theorem State.setControl_steady (s : State) (i : Fin 32) (c : Control) : s.Steady (s.setControl i c) := .of_view rfl (.inr rfl)

/-- R45: a current epoch is OPEN or NEXT. -/
theorem Epochs.current_ne_applying {e : Epochs} {i : StationId} {c : EpochClass} (h : e.current i = some c) : c ≠ .applying := by
  obtain ⟨rfl, -⟩ | ⟨rfl, -⟩ := Epochs.current_cases h <;> decide

/-- R27: so is the epoch that a tag stands for. -/
theorem State.taggedEpoch_ne_applying {s : State} {i : StationId} {tag : Half} {c : EpochClass} (h : s.taggedEpoch i tag = some c) :
    c ≠ .applying := by
  simp only [State.taggedEpoch] at h
  split at h
  next hc =>
    split at h
    · cases h; exact Epochs.current_ne_applying hc
    · cases h
  next => cases h

/-- R47: an entry staged in OPEN or NEXT is none of the APPLYING entries. -/
theorem State.stage_steady (s : State) {c : EpochClass} (h : c ≠ .applying) (i : StationId) (g : Option Byte) (o : EntryOp) :
    s.Steady (s.stage c i g o) := by
  refine .of_view ?_ (.inr rfl)
  have : (s.stage c i g o).ep.applyingEntries = s.ep.applyingEntries := by simp [Epochs.applyingEntries, h]
  rw [State.steadyView, this]
  rfl

theorem State.updateCheck_ne_applying {s : State} {i : StationId} {u : TaggedUpdate} {c : EpochClass} (h : s.updateCheck i u = .ok c) :
    c ≠ .applying := by
  simp only [State.updateCheck] at h
  split at h
  · cases h
  split at h
  · cases h
  next d hd =>
    have hc : d = c := by (repeat' split at h) <;> simp_all
    rw [hc] at hd
    exact State.taggedEpoch_ne_applying hd

theorem State.deliverUpdate_steady (s : State) (k : Kind) (i : StationId) (p : List Byte) : s.Steady (s.deliverUpdate k i p) := by
  simp only [State.deliverUpdate]
  split
  · exact .refl
  split
  · exact s.foreign_steady i k
  · exact s.voidEvent_steady i _ _ _ _
  next hc =>
    exact (s.stage_steady (State.updateCheck_ne_applying hc) _ _ _).trans (.ite (fun _ => State.noteTaken_steady _ _) fun _ => .refl)

theorem State.deliverClaim_steady (s : State) (i : StationId) (p : List Byte) : s.Steady (s.deliverClaim i p) := by
  have wins (u : State) (c : Prop) [Decidable c] (a : Byte) (b d : Half) : u.Steady (if c then u.post .claimWon a b d else u) :=
    .ite (fun _ => u.post_steady _ _ _ _) fun _ => .refl
  simp only [State.deliverClaim]
  split
  · exact .refl
  refine .ite (fun _ => s.foreign_steady i _) fun _ => ?_
  split
  · exact s.voidEvent_steady i _ _ _ _
  next c hc =>
    have hc : c ≠ .applying := by
      split at hc
      · cases hc; decide
      · exact Epochs.current_ne_applying hc
    refine .ite (fun _ => s.voidEvent_steady i _ _ _ _) fun _ => ?_
    split
    · exact s.voidEvent_steady i _ _ _ _
    next fl _ =>
      have takes : s.Steady { s with store := { s.store with freeList := fl } } := .of_view rfl (.inr rfl)
      exact (takes.trans ((State.setControl_steady _ _ _).trans (State.stage_steady _ hc _ _ _))).trans (wins _ _ _ _ _)
    · exact (s.setControl_steady _ _).trans (wins _ _ _ _ _)

theorem State.deliverHandover_steady (s : State) (i : StationId) (p : List Byte) : s.Steady (s.deliverHandover i p) := by
  have posts (u : State) (c : Prop) [Decidable c] (e : EventKind) (a : Byte) (b : Half) : u.Steady (if c then u.post e a b 0 else u) :=
    .ite (fun _ => u.post_steady _ _ _ _) fun _ => .refl
  simp only [State.deliverHandover]
  split
  · exact .refl
  refine .ite (fun _ => s.foreign_steady i _) fun _ => ?_
  split
  · split
    · exact .ite (fun _ => s.voidEvent_steady i _ _ _ _) fun _ => .ite (fun _ => s.voidEvent_steady i _ _ _ _) fun _ =>
        ((s.setControl_steady _ _).trans (posts _ _ _ _ _)).trans (posts _ _ _ _ _)
    · exact s.voidEvent_steady i _ _ _ _
  · exact s.voidEvent_steady i _ _ _ _

theorem State.deliverRelease_steady (s : State) (i : StationId) (p : List Byte) : s.Steady (s.deliverRelease i p) := by
  simp only [State.deliverRelease]
  split
  · exact .refl
  refine .ite (fun _ => s.foreign_steady i _) fun _ => ?_
  split
  · exact s.voidEvent_steady i _ _ _ _
  next hc =>
    split
    · exact .ite (fun _ => (s.setControl_steady _ _).trans (State.stage_steady _ (State.taggedEpoch_ne_applying hc) _ _ _)) fun _ =>
        s.voidEvent_steady i _ _ _ _
    · exact s.voidEvent_steady i _ _ _ _

/-- R53: a RETRACT takes no APPLYING entry. -/
theorem State.deliverRetract_steady (s : State) (i : StationId) (p : List Byte) : s.Steady (s.deliverRetract i p) := by
  simp only [State.deliverRetract]
  split
  · exact .refl
  refine .ite (fun _ => s.foreign_steady i _) fun _ => ?_
  split
  · exact .refl
  next bt _ _ c hc =>
    have hne := State.taggedEpoch_ne_applying hc
    refine ⟨⟨id, id, id, fun hs => State.epochsSound_mono hs rfl rfl ?_ rfl rfl id id⟩, id⟩
    simp only [Epochs.applyingEntries, List.filter_filter]
    refine List.filter_congr fun x _ => ?_
    by_cases h : x.cls = .applying <;> simp [h, hne.symm]

/-- R49: a member closes NEXT after OPEN. -/
theorem State.deliverClose_steady (s : State) (i : StationId) (p : List Byte) : s.Steady (s.deliverClose i p) := by
  simp only [State.deliverClose]
  split
  · exact .refl
  refine .ite (fun _ => s.foreign_steady i _) fun _ => .ite (fun _ => .ite (fun _ => State.Settles.revote ?_) fun _ => .refl) fun ho =>
    .ite (fun _ => ?_) fun _ => .refl
  · refine ⟨id, id, fun hs j hj => ?_, fun hs => State.epochsSound_mono hs rfl rfl rfl rfl rfl id id⟩
    simp only [idIn_idAdd, Bool.or_eq_true]
    exact .inl (hs j hj)
  · refine ⟨⟨id, id, fun hs j hj => ?_, fun hs => State.epochsSound_mono hs rfl rfl rfl rfl rfl id id⟩, id⟩
    simp only [idIn_idAdd, Bool.or_eq_true, decide_eq_true_eq] at hj
    obtain hj | rfl := hj
    · exact hs j hj
    · simpa using ho

theorem State.deliverJoin_steady (s : State) (i : StationId) (p : List Byte) : s.Steady (s.deliverJoin i p) := by
  simp only [State.deliverJoin]
  split
  · exact .refl
  split
  · exact .ite (fun _ => .of_view rfl (.inr rfl)) fun _ => .refl
  · exact .refl
  · exact .of_view rfl (.inr rfl)

/-- R90: a transfer's end takes the transfer out of the vote. -/
theorem State.endTransfer_settles (s : State) : s.Settles s.endTransfer := ⟨id, id, id, id⟩

/-- R89: the joiner becomes a member with no apply pending. -/
theorem State.admitJoiner_steady (s : State) (i : StationId) : s.Steady (s.admitJoiner i) := by
  have joins (u : State) : u.Settles { u with mb := { u.mb with roster := idAdd i u.mb.roster } } := ⟨id, id, id, id⟩
  have enters (u : State) : u.Settles { u with mb := { u.mb with state := .member, assembly := none } } :=
    ⟨id, id, id, fun hs => State.epochsSound_mono hs rfl rfl rfl rfl rfl (fun _ => rfl) id⟩
  have drops (u : State) : u.Steady u.dropDenials := .of_blocks (by simp) (by simp) (by simp) (by simp) (by simp) (by simp)
  refine State.Settles.revote ((s.endTransfer_settles.trans (joins _)).trans ?_)
  split
  · exact (enters _).trans (State.post_steady _ _ _ _ _).toSettles
  · exact ((State.post_steady _ _ _ _ _).trans (drops _)).toSettles

theorem State.deliverJoinDone_steady (s : State) (i : StationId) (p : List Byte) : s.Steady (s.deliverJoinDone i p) := by
  simp only [State.deliverJoinDone]
  split
  · exact .refl
  exact .ite (fun _ => .refl) fun _ => .ite (fun _ => s.admitJoiner_steady i) fun _ => .ite (fun _ => s.removeSelf_steady _ _ _) fun _ =>
    s.endTransfer_settles.revote

theorem State.deliverLeave_steady (s : State) (i : StationId) : s.Steady (s.deliverLeave i) :=
  .ite (fun _ => s.foreign_steady i _) fun _ => .ite (fun _ => s.removeSelf_steady _ _ _) fun _ => s.removeOther_steady i _

/-- R86: a head taken leaves a transfer in flight. -/
theorem State.deliverHead_steady (s : State) (i : StationId) (p : List Byte) : s.Steady (s.deliverHead i p) := by
  simp only [State.deliverHead]
  refine .ite (fun _ => .ite (fun _ => .refl) fun _ => .of_view rfl (.inr rfl)) fun _ => ?_
  split
  next ht =>
    refine .ite (fun _ => .of_view ?_ (.inr rfl)) fun _ => .refl
    simp [State.steadyView, State.voteLow, State.mayCommit, State.inTransfer, State.isMember, State.irqWanted, ht]
  · exact .refl

theorem State.assemble_steady {α : Type} (s : State) (i : StationId) (c : Option α) {write : State → α → State}
    (h : ∀ u a, State.Steady u (write u a)) : s.Steady (s.assemble i c write) := by
  have counts : s.Steady s.countPacket := .of_view rfl (.inr rfl)
  refine .ite (fun _ => ?_) fun _ => .refl
  split
  · exact counts.trans (h _ _)
  · exact .of_view rfl (.inr rfl)

theorem State.appendFree_steady (s : State) (b : Byte) (es : List Extent) : s.Steady (s.appendFree b es) := by
  simp only [State.appendFree]
  split
  · exact .ite (fun _ => .of_view rfl (.inr rfl)) fun _ => .of_view rfl (.inr rfl)
  · exact .refl

theorem State.deliverEnd_steady (s : State) (i : StationId) (p : List Byte) : s.Steady (s.deliverEnd i p) := by
  refine .ite (fun _ => ?_) fun _ => .refl
  split
  · exact .of_view rfl (.inr rfl)
  · exact .ite (fun _ => .of_view rfl (.inr rfl)) fun _ => .refl

theorem Kind.deliver_steady (k : Kind) (i : StationId) (p : List Byte) (s : State) : s.Steady (k.deliver i p s) := by
  cases k with
  | found => exact .ite (fun _ => .refl) fun _ => s.deliverJoin_steady i p
  | join => exact s.deliverJoin_steady i p
  | joinDeny => exact .refl
  | joinDone => exact s.deliverJoinDone_steady i p
  | leave => exact s.deliverLeave_steady i
  | claim => exact s.deliverClaim_steady i p
  | handover => exact s.deliverHandover_steady i p
  | release => exact s.deliverRelease_steady i p
  | retract => exact s.deliverRetract_steady i p
  | close => exact s.deliverClose_steady i p
  | putCells | fill | copy | setPane | setPalette => exact s.deliverUpdate_steady _ i p
  | snapHead => exact s.deliverHead_steady i p
  | snapPane | snapPalette | snapCells => dsimp only [Kind.deliver]; exact s.assemble_steady i _ fun _ _ => .of_view rfl (.inr rfl)
  | snapFree => dsimp only [Kind.deliver]; exact s.assemble_steady i _ fun u _ => u.appendFree_steady _ _
  | snapEnd => exact s.deliverEnd_steady i p

/-! ### A packet taken (R14, R15, R35) -/

theorem State.taking_steady (s : State) {deliver : State → State} (h : ∀ u : State, u.Steady (deliver u)) : s.Steady (s.taking deliver) := by
  have hpassed : s.Steady { s.releaseLink with link := { s.link with slot := .taken } } := .of_view rfl (.inr rfl)
  have hdelivered := hpassed.trans (h _)
  exact .ite (fun _ => .ite (fun _ => (hdelivered.trans (State.reportTaken_steady _)).trans (.of_view rfl (.inr rfl))) fun _ =>
    hdelivered) fun _ => .refl

theorem State.take_steady (s : State) (k : Kind) (i : StationId) (p : List Byte) : s.Steady (s.take k i p (k.deliver i p)) :=
  s.taking_steady fun u => .ite (fun _ => k.deliver_steady i p u) fun _ => .ite (fun _ => u.observe_steady k i p) fun _ => .refl

theorem State.observeReceipt_steady (s : State) (rx : RxPacket) : s.Steady (s.observeReceipt rx) := by
  simp only [State.observeReceipt]
  refine s.taking_steady fun u => ?_
  have hbuffered : u.Steady { u with link := { u.link with rx := some rx.buffered } } := .of_view rfl (.inr rfl)
  refine hbuffered.trans (.ite (fun _ => ?_) fun _ => .ite (fun _ => State.ownFoundLost_steady _) fun _ => .refl)
  split
  · exact State.observe_steady _ _ _ _
  · exact .refl

end Sys2Proof.Machine
end

section
/-! PROOF. O6, O8, O9: the drivers, the close sets and the epoch numbers through every command. -/

namespace Sys2Proof.Machine

/-! ### A rise's effects (R54, R57, R58, R61, R90) -/

/-- R58, steps 1 and 2: what stands in APPLYING after a commit decision. -/
theorem Entry.promote_applying {e : Entry} : e.promote.cls = .applying ↔ e.cls = .applying ∨ e.cls = .openE := by
  obtain ⟨c, _, _, _⟩ := e
  cases c <;> simp [Entry.promote]

/-- R43, R58, R60: with no apply pending, a commit decision of an empty epoch is applied at once, and one with entries is pending. -/
theorem State.commitEpochs_epochsSound {s : State} (hs : s.epochsSound) (hp : s.ep.pendingApply = false) (hm : s.isMember = true)
    (hr : s.link.riseSample = none) : s.commitEpochs.epochsSound := by
  obtain ⟨happlied, -, -, hrunning, -⟩ := hs
  obtain ⟨hnum, hents⟩ := happlied hp
  have hnone : ∀ x ∈ s.ep.staging, x.cls ≠ .applying := by simpa [Epochs.applyingEntries] using hents
  have hpass : s.ep.passRunning = false := by
    by_contra h
    simp [hrunning (by simpa using h)] at hp
  have hcommitted : s.commitEpochs.ep.committed = s.ep.openNum := by simp [Epochs.committed, State.commitEpochs]
  have hmem : s.commitEpochs.isMember = true := hm
  have happlying : s.commitEpochs.ep.applyingEntries = [] ↔ ∀ x ∈ s.ep.staging, x.cls ≠ .openE := by
    simp only [Epochs.applyingEntries, State.commitEpochs, List.filter_eq_nil_iff, List.forall_mem_map, decide_eq_true_eq,
      Entry.promote_applying]
    exact forall₂_congr fun x hx => by simp [hnone x hx]
  have hpassed : s.commitEpochs.ep.passRunning = false := hpass
  by_cases hopen : ∀ x ∈ s.ep.staging, x.cls ≠ .openE
  · have hempty : (s.ep.staging.any fun e => decide (e.cls = .openE)) = false := by simpa using hopen
    have hpend : s.commitEpochs.ep.pendingApply = false := by simp [State.commitEpochs, hp, hempty]
    have happ : s.commitEpochs.ep.applied = s.ep.openNum := by simp [State.commitEpochs, hempty]
    simp [State.epochsSound, hpend, hpassed, happ, hcommitted, happlying.2 hopen]
  · have hfull : (s.ep.staging.any fun e => decide (e.cls = .openE)) = true := by simpa using hopen
    have hpend : s.commitEpochs.ep.pendingApply = true := by simp [State.commitEpochs, hfull]
    have happ : s.commitEpochs.ep.applied = s.ep.openNum - 1 := by simp [State.commitEpochs, hfull, hnum, Epochs.committed]
    simp [State.epochsSound, hpend, hpassed, happ, hcommitted, happlying, hopen, hmem, hr]

/-- R58: the commit decision's epochs, after a rise sampled high at a member. -/
theorem State.Settles.commitEpochs {s u : State} (h : s.Settles u) (hp : s.epochsSound → u.ep.pendingApply = false)
    (hm : u.isMember = true) (hr : u.link.riseSample = none) : s.Settles u.commitEpochs :=
  ⟨h.irq, h.frame, fun _ => State.closeSetsNested_of_next rfl, fun hs => State.commitEpochs_epochsSound (h.epochs hs) (hp hs) hm hr⟩

theorem State.freePane_steady (s : State) (i : Fin 32) : s.Steady (s.freePane i) := by
  simp only [State.freePane]
  split
  · exact (s.setControl_steady i .free).trans (.of_view rfl (.inr rfl))
  · exact .refl

/-- R84: a transfer starts before the vote is taken anew. -/
theorem State.startTransfer_settles (s : State) : s.Settles s.startTransfer := by
  simp only [State.startTransfer]
  split
  · split
    · exact ⟨id, id, id, id⟩
    · exact .refl
  · exact .refl

theorem State.Settles.commit {s u : State} (h : s.Settles u) (hp : s.epochsSound → u.ep.pendingApply = false)
    (hm : u.isMember = true) (hr : u.link.riseSample = none) : s.Steady u.commit := by
  simp only [State.commit]
  refine State.Settles.revote (State.Settles.trans ?_ (State.startTransfer_settles _))
  refine (State.Settles.trans ?_ (State.postEach_steady _ _ .releaseDone _).toSettles)
  refine (State.Settles.trans ?_ (State.Steady.foldl _ State.dropRecord_steady _ _).toSettles)
  refine (State.Settles.trans ?_ (State.postEach_steady _ _ .batchCommitted _).toSettles)
  exact (h.commitEpochs hp hm hr).trans (State.Steady.foldl _ (fun u _ => u.freePane_steady _) _ _).toSettles

theorem State.stallStep_steady (s : State) : s.Steady s.stallStep := .ite (fun _ => .of_view rfl (.inr rfl)) fun _ => .refl

/-- R90: an older transfer is in flight still. -/
theorem State.ageStep_steady (s : State) : s.Steady s.ageStep := by
  simp only [State.ageStep]
  split
  next ht =>
    refine .of_view ?_ (.inr rfl)
    simp [State.steadyView, State.voteLow, State.mayCommit, State.inTransfer, State.isMember, State.irqWanted, ht]
  · exact .refl

/-- R57: the effects of a rise sampled high find no apply pending. -/
theorem State.Steady.memberRise {s u : State} (h : s.Steady u) {b : Bool} (hp : s.epochsSound → b = true → u.ep.pendingApply = false)
    (hm : u.mb.state = .member) (hr : u.link.riseSample = none) : s.Steady (u.memberRise b) := by
  simp only [State.memberRise]
  refine State.Steady.trans ?_ (.foldl _ State.breakBatch_steady _ _)
  have haged := h.trans u.ageStep_steady
  refine .ite (fun hb => ?_) fun _ => haged.trans (State.stallStep_steady _)
  exact haged.toSettles.commit (fun hs => by simpa using hp hs hb) (by simp [State.isMember, hm]) (by simp [hr])

theorem exec_tlfRiseEffects_steady {s t : State} (h : exec .tlfRiseEffects s = .next t) : s.Steady t := by
  rw [← next_eq h]
  have taken : s.Steady { s with link := { s.link with riseSample := none } } := .of_view rfl (.inl rfl)
  split
  next b hb =>
    refine .ite (fun _ => .refl) fun _ => ?_
    dsimp only
    split
    next hm =>
      refine taken.memberRise (fun hs hhigh => ?_) hm rfl
      obtain ⟨-, -, -, -, hsample⟩ := hs
      exact hsample (by rw [hb, hhigh])
    · exact taken.trans (State.ageStep_steady _)
    · exact taken.trans (State.evidence_steady _ true)
  · exact .refl

/-- R55: a member whose vote is high, and any other station, has no apply pending. -/
theorem State.not_pending_of_voteLow {s : State} (hs : s.epochsSound) (hv : s.voteLow = false) : s.ep.pendingApply = false := by
  obtain ⟨-, -, hmember, -, -⟩ := hs
  by_contra h
  have h : s.ep.pendingApply = true := by simpa using h
  simp [State.voteLow, State.mayCommit, hmember h, h] at hv

/-- R2, R57: a rise sampled high with TLV driven by the vote found no apply pending. -/
theorem State.sampleVote_steady {s : State} (hv : s.voteDriven) (b : Bool) : s.Steady (s.sampleVote b) := by
  refine .ite (fun _ => .refl) fun _ => ⟨⟨id, id, id, fun hs => ?_⟩, id⟩
  have hclear : s.voteLow = false → s.ep.pendingApply = false := State.not_pending_of_voteLow hs
  obtain ⟨happlied, hpending, hmember, hrunning, -⟩ := hs
  refine ⟨happlied, hpending, hmember, hrunning, fun h => hclear ?_⟩
  have hhigh : b = true ∧ s.pins.tlvLow = false := by simpa using Option.some.inj h
  exact hv.symm.trans hhigh.2

/-- R2, R142, R144: a rise is read with TLF released, and so with the holding flag clear. -/
theorem exec_tlfRise_steady {b : Bool} {s t : State} (hv : s.voteDriven) (h : exec (.tlfRise b) s = .next t) : s.Steady t := by
  rw [← next_eq h]
  refine .ite (fun _ => .refl) fun hlow => ?_
  have hnoted : s.Steady (s.sampleVote b).noteRise := (State.sampleVote_steady hv b).trans (.of_view rfl (.inr rfl))
  have hpins : (s.sampleVote b).noteRise.pins.tlfLow = false := by simpa using hlow
  refine hnoted.trans (.ite (fun _ => ?_) fun _ => .ite (fun _ => .of_view rfl (.inr rfl)) fun _ => .refl)
  have relocks (u : State) (hu : u.pins.tlfLow = false) :
      u.Steady { u with raster := { u.raster with sync := .locked, holding := false, pulled := false } } :=
    ⟨⟨id, fun _ => ⟨hu, fun h => Bool.noConfusion h⟩, id, id⟩, id⟩
  exact (relocks _ hpins).trans (State.post_steady _ _ _ _ _)

theorem exec_tlfRise_ep {b : Bool} {s t : State} (h : exec (.tlfRise b) s = .next t) : t.ep = s.ep := by
  rw [← next_eq h]
  dsimp only
  (repeat' split) <;> simp

/-! ### The Host Port's commands -/

/-- R159: what the port adds to a command's effect is its own. -/
theorem State.evaluate_steady {s : State} {n : Nat} {f : State → State × Status × List Byte} (h : s.Steady (f s).1) :
    s.Steady (s.evaluate n f) :=
  .ite (fun _ => h.trans (.of_view rfl (.inr rfl))) fun _ => .refl

/-- R175: with IRQn evaluated anew, it keeps to its owner. -/
theorem State.Steady.reirq {s t : State} (frame : s.frameDriven → t.frameDriven) (vote : t.pins.tlvLow = s.pins.tlvLow)
    (hm : t.mb = s.mb) (he : t.ep = s.ep) (hl : t.link = s.link) : s.Steady t.reirq := by
  have hmem : t.isMember = s.isMember := by rw [State.isMember, State.isMember, hm]
  refine ⟨⟨fun _ => rfl, frame, ?_, fun hs => ?_⟩, ?_⟩
  · rw [State.closeSetsNested, State.closeSetsNested, State.reirq_ep, he]; exact id
  · exact State.epochsSound_mono hs (by simp [he]) (by simp [he]) (by simp [he]) (by simp [he]) (by simp [he])
      (by rw [← hmem]; exact id) (by simp [hl])
  · have hlow : t.reirq.voteLow = s.voteLow := by simp [State.voteLow, State.mayCommit, State.inTransfer, State.isMember, hm, he]
    rw [State.voteDriven, State.voteDriven, hlow, State.reirq_tlvLow, vote]
    exact id

theorem exec_eventRecordRemoval_steady {s t : State} (h : exec .eventRecordRemoval s = .next t) : s.Steady t := by
  rw [← next_eq h]
  exact .ite (fun _ => .reirq id rfl rfl rfl rfl) fun _ => .refl

theorem State.configure_steady (s : State) (f : TileFields) : s.Steady (s.configure f).1 := by
  simp only [State.configure]
  split
  · exact .refl
  split
  · exact .refl
  · exact .reirq id rfl rfl rfl rfl

theorem State.loadFont_steady (s : State) (b : Byte) (rows : Vector Byte 16) : s.Steady (s.loadFont b rows).1 := by
  simp only [State.loadFont]
  split
  · exact .refl
  · exact .of_view rfl (.inr rfl)

/-- R139: a raster that was STOPPED held no TLF. -/
theorem State.startRaster_steady (s : State) : s.Steady s.startRaster := by
  refine .ite (fun hs => ⟨⟨id, fun ⟨hlow, hlock⟩ => ⟨?_, fun h => Bool.noConfusion h⟩, id, id⟩, id⟩) fun _ => .refl
  have : s.raster.holding = false := by
    by_contra h
    simp [hs] at hlock
    exact h hlock
  exact hlow.trans this

theorem State.goOnline_steady (s : State) : s.Steady s.goOnline.1 := by
  simp only [State.goOnline]
  split
  · exact .refl
  next hm =>
    have hm : s.mb.state = .offline := not_not.1 hm
    split
    · exact .refl
    · exact ((State.enterListening_steady (by simp [hm])).trans (State.connect_steady _ _)).trans (State.startRaster_steady _)

/-- R72: an outsider or the joiner that goes offline. -/
theorem State.outsiderOffline_steady {s : State} (h : s.mb.state ≠ .member) : s.Steady s.outsiderOffline := by
  have hpurged : s.Steady s.purge := .of_view rfl (.inr rfl)
  have enters {u : State} (hu : u.mb.state ≠ .member) : u.Steady { u with mb := membershipCleared .offline } :=
    .of_outsider hu (by simp [membershipCleared]) rfl rfl rfl rfl rfl
  have unlocks (u : State) : u.Settles u.unlock := ⟨id, fun _ => u.unlock_frameDriven, id, id⟩
  refine State.Settles.revote (State.Settles.trans ?_ (State.disconnect_steady _).toSettles)
  split
  · exact hpurged.toSettles.trans (((State.clearShared_settles _).trans (unlocks _)).trans (enters (by simpa using h)).toSettles)
  · exact (hpurged.trans (enters (by simpa using h))).toSettles

theorem State.discardBatch_steady (s : State) : s.Steady s.discardBatch := by
  have hbroken : s.Steady (match s.host.batch with | .opened t _ => s.breakBatch t | _ => s) := by
    split
    · exact s.breakBatch_steady _
    · exact .refl
  exact hbroken.trans (.of_view rfl (.inr rfl))

theorem State.goOffline_steady (s : State) : s.Steady s.goOffline.1 := by
  simp only [State.goOffline]
  split
  · exact .refl
  · split
    · exact .refl
    split
    · exact .refl
    · exact s.discardBatch_steady.trans (.of_view rfl (.inr rfl))
  next hm => exact s.outsiderOffline_steady hm

theorem State.beginBatch_steady (s : State) : s.Steady s.beginBatch.1 := by
  simp only [State.beginBatch]
  (repeat' split) <;> exact .of_view rfl (.inr rfl)

theorem State.endBatch_steady (s : State) : s.Steady s.endBatch.1 := by
  simp only [State.endBatch]
  (repeat' split) <;> exact .of_view rfl (.inr rfl)

theorem State.submit_steady (s : State) (u : Update) : s.Steady (s.submit u).1 := by
  simp only [State.submit]
  (repeat' split) <;> exact .of_view rfl (.inr rfl)

theorem State.request_steady (s : State) (b : Bool) (r : Request) : s.Steady (s.request b r).1 := by
  simp only [State.request]
  (repeat' split) <;> exact .of_view rfl (.inr rfl)

theorem State.readEvent_steady (s : State) : s.Steady s.readEvent.1 := by
  simp only [State.readEvent]
  split <;> exact .of_view rfl (.inr rfl)

/-! ### The resets (R176, R177) -/

theorem exec_powerOnReset_steady {i : StationId} {s t : State} (h : exec (.powerOnReset i) s = .next t) : s.Steady t := by
  rw [← next_eq h]
  exact ⟨⟨fun _ => rfl, fun _ => ⟨rfl, fun h => Bool.noConfusion h⟩, fun _ => State.closeSetsNested_of_next rfl,
    fun _ => State.epochsSound_of_empty rfl rfl rfl epochsCleared_applied⟩, fun _ => rfl⟩

/-- R140: the raster at soft reset holds no TLF. -/
theorem Raster.softReset_holding (r : Raster) : r.softReset.holding = false := by
  simp only [Raster.softReset]
  (repeat' split) <;> rfl

theorem exec_softReset_steady {i : StationId} {s t : State} (h : exec (.softReset i) s = .next t) : s.Steady t := by
  rw [← next_eq h]
  refine .ite (fun _ => State.Steady.trans ?_ (State.post_steady _ _ _ _ _)) fun _ => .refl
  refine ⟨⟨fun _ => ?_, fun _ => ⟨(Raster.softReset_holding _).symm, fun h => ?_⟩, fun _ => State.closeSetsNested_of_next rfl,
    fun _ => State.epochsSound_of_empty rfl rfl rfl epochsCleared_applied⟩, fun _ => rfl⟩
  · simp [State.irqDriven, State.irqWanted, State.reset, hostReset, pinsReleased]
  · simp [Raster.softReset_holding] at h

/-! ### The Link Controller's commands -/

theorem exec_startCondition_steady {n : Nat} {s t : State} (h : exec (.startCondition n) s = .next t) : s.Steady t := by
  rw [← next_eq h]
  split
  · exact .ite (fun _ => .of_view rfl (.inr rfl)) fun _ => .refl
  · exact .refl

theorem exec_lostInArbitration_steady {n : Nat} {s t : State} (h : exec (.lostInArbitration n) s = .next t) : s.Steady t := by
  rw [← next_eq h]
  have hends : s.Steady s.endAttempt.releaseLink := .of_view rfl (.inr rfl)
  split
  · refine .ite (fun _ => hends.trans ?_) fun _ => .refl
    dsimp only
    split
    · exact State.disconnectNow_steady _
    · exact .of_view rfl (.inr rfl)
  · exact .refl

theorem exec_holdPoint_steady {rx : RxPacket} {s t : State} (h : exec (.holdPoint rx) s = .next t) : s.Steady t := by
  rw [← next_eq h]
  refine .ite (fun _ => ?_) fun _ => .refl
  split
  · exact .ite (fun _ => .of_view rfl (.inr rfl)) fun _ => .refl
  · exact .of_view rfl (.inr rfl)
  · exact .refl

theorem exec_linkTimeout_steady {s t : State} (h : exec .linkTimeout s = .next t) : s.Steady t := by
  rw [← next_eq h]
  have recovers (u : State) : u.Steady { u with link := { u.link with state := .recovery } } := .of_view rfl (.inr rfl)
  exact .ite (fun _ => (s.endPacket_steady 0).trans (.ite (fun _ => .refl) fun _ => (recovers _).trans (State.post_steady _ _ _ _ _)))
    fun _ => .refl

/-! ### Limits and timers -/

theorem exec_stallLimit_steady {s t : State} (h : exec .stallLimit s = .next t) : s.Steady t := by
  rw [← next_eq h]
  have restarts : s.Steady { s with ep := { s.ep with stall := 0 } } := .of_view rfl (.inr rfl)
  exact .ite (fun _ => .ite (fun _ => s.removeSelf_steady _ _ _) fun _ =>
    restarts.trans (.foldl _ (fun u i => u.removeOther_steady i .memberEvicted) _ _)) fun _ => .refl

theorem exec_transferLimit_steady {s t : State} (h : exec .transferLimit s = .next t) : s.Steady t := by
  rw [← next_eq h]
  split
  · exact .ite (fun _ => .ite (fun _ => s.removeSelf_steady _ _ _) fun _ =>
      .ite (fun _ => s.endTransfer_settles.revote) fun _ => .refl) fun _ => .refl
  · exact .refl

theorem exec_exhaustedUpdate_steady {s t : State} (h : exec .exhaustedUpdate s = .next t) : s.Steady t := by
  rw [← next_eq h]
  (repeat' split)
  case isTrue => exact s.breakBatch_steady _
  all_goals exact .refl

theorem exec_exhaustedRequest_steady {s t : State} (h : exec .exhaustedRequest s = .next t) : s.Steady t := by
  rw [← next_eq h]
  have hd : s.Steady s.dropHead := .of_view rfl (.inr rfl)
  split
  · refine .ite (fun _ => ?_) fun _ => .refl
    split
    case h_1 => exact .refl
    case h_2 | h_3 | h_4 => exact hd.trans (State.post_steady _ _ _ _ _)
    case h_5 | h_6 => exact .ite (fun hm => hd.trans (State.enterListening_steady (by simp [hm]))) fun _ => hd
    case h_7 => exact .ite (fun _ => hd.trans (State.removeSelf_steady _ _ _ _)) fun _ => hd
  · exact .refl

/-- R38: a drop ends the sending, no transfer. -/
theorem State.dropExhausted_steady (s : State) : s.Steady s.dropExhausted := by
  simp only [State.dropExhausted]
  split <;> exact .of_view rfl (.inr rfl)

theorem exec_listenIntervalExpiry_steady {s t : State} (h : exec .listenIntervalExpiry s = .next t) : s.Steady t := by
  rw [← next_eq h]
  exact .ite (fun hm => .of_outsider (by simp [hm.1]) (by simp) rfl rfl rfl rfl rfl) fun _ => .refl

theorem exec_requestTimerExpiry_steady {s t : State} (h : exec .requestTimerExpiry s = .next t) : s.Steady t := by
  rw [← next_eq h]
  refine .ite (fun hm => (s.removeQueued_steady fun q => decide (q.request = .join)).trans ?_) fun _ => .refl
  exact .ite (fun _ => .of_view rfl (.inr rfl)) fun _ => State.enterListening_steady (by simp [hm.1])

/-! ### The raster and the apply pass -/

/-- R63: an apply pass starts with an apply pending. -/
theorem State.startPass_steady (s : State) : s.Steady s.startPass := by
  refine .ite (fun hp => ⟨⟨id, id, id, fun hs => ?_⟩, id⟩) fun _ => .refl
  obtain ⟨happlied, hpending, hmember, -, hsample⟩ := hs
  exact ⟨happlied, hpending, hmember, fun _ => hp, hsample⟩

/-- R142: at FRONT a LOCKED station pulls TLF with its holding flag. -/
theorem State.pullFrame_steady (s : State) : s.Steady s.pullFrame :=
  ⟨⟨id, fun _ => ⟨rfl, fun h => of_decide_eq_true h⟩, id, id⟩, id⟩

/-- R140: a member becomes LOCKED with its holding flag as it was. -/
theorem State.lockMember_steady (s : State) : s.Steady s.lockMember :=
  .ite (fun _ => ⟨⟨id, fun ⟨hlow, _⟩ => ⟨hlow, fun _ => rfl⟩, id, id⟩, id⟩) fun _ => .refl

theorem exec_enterFront_steady {s t : State} (h : exec .enterFront s = .next t) : s.Steady t := by
  rw [← next_eq h]
  have timing (u : State) : u.Steady u.takeTiming := by
    simp only [State.takeTiming]
    split <;> exact .of_view rfl (.inr rfl)
  have enters : s.Steady (s.enterPhase .front) := .of_view rfl (.inr rfl)
  exact .ite (fun _ => (((enters.trans (timing _)).trans (State.lockMember_steady _)).trans (State.pullFrame_steady _)).trans
    (State.startPass_steady _)) fun _ => .refl

theorem exec_tlfRelease_steady {us : Nat} {s t : State} (h : exec (.tlfRelease us) s = .next t) : s.Steady t := by
  rw [← next_eq h]
  exact .ite (fun _ => ⟨⟨id, fun _ => ⟨rfl, fun h => Bool.noConfusion h⟩, id, id⟩, id⟩) fun _ => .refl

/-- R143: the frame-hold timer runs with TLF released, and so with the holding flag clear. -/
theorem exec_frameHoldLimit_steady {s t : State} (h : exec .frameHoldLimit s = .next t) : s.Steady t := by
  rw [← next_eq h]
  refine .ite (fun hf => State.Steady.trans ?_ (State.post_steady _ _ _ _ _)) fun _ => .refl
  refine ⟨⟨id, fun ⟨hlow, _⟩ => ⟨hlow, fun hh => ?_⟩, id, id⟩, id⟩
  obtain ⟨-, -, -, hreleased⟩ := hf
  exact absurd (hlow.trans hh) hreleased

theorem exec_spanListBuild_steady {row : Nat} {s t : State} (h : exec (.spanListBuild row) s = .next t) : s.Steady t := by
  rw [← next_eq h]
  have builds (l : List (Fin 32)) : s.Steady { s with raster := { s.raster with spanRow := row, spanList := l } } := .of_view rfl (.inr rfl)
  have marks (u : State) : u.Steady { u with raster := { u.raster with overflowMark := true } } := .of_view rfl (.inr rfl)
  split
  · exact .ite (fun _ => (builds _).trans (.ite (fun _ => (marks _).trans (State.post_steady _ _ _ _ _)) fun _ => .refl)) fun _ => .refl
  · exact .refl

theorem State.cellEntry_steady {s t : State} {p : Byte} {w : Memory → Extent → Nat → Memory} (h : s.cellEntry p w = .next t) :
    s.Steady t := by
  simp only [State.cellEntry] at h
  (repeat' split at h) <;> cases h
  all_goals exact .of_view rfl (.inr rfl)

/-- R64: no row of the apply pass moves a driver, a close set or an epoch number. -/
theorem exec_apply_steady {c : Instr} {s t : State}
    (hc : c ∈ [.applyClear, .applyPutCells, .applyFill, .applyCopy, .applySetPane, .applySetPalette, .applyRelease])
    (h : exec c s = .next t) : s.Steady t := by
  simp only [List.mem_cons, List.not_mem_nil, or_false] at hc
  rcases hc with rfl | rfl | rfl | rfl | rfl | rfl | rfl
  case inr.inl | inr.inr.inl | inr.inr.inr.inl =>
    simp only [exec, execApplyPutCells, execApplyFill, execApplyCopy] at h
    split at h
    · exact State.cellEntry_steady h
    · cases h; exact .refl
  all_goals
    simp only [exec, execApplyClear, execApplySetPane, execApplySetPalette, execApplyRelease] at h
    (repeat' split at h) <;> cases h
    all_goals exact .of_view rfl (.inr rfl)

/-- R65: the pass's end leaves no APPLYING entry and no unapplied commit. -/
theorem exec_applyPassEnd_steady {s t : State} (h : exec .applyPassEnd s = .next t) : s.Steady t := by
  rw [← next_eq h]
  refine .ite (fun hrun => State.Settles.revote ⟨id, id, id, fun hs => ?_⟩) fun _ => .refl
  obtain ⟨-, -, -, hrunning, hsample⟩ := hs
  have hnone : (s.ep.staging.filter Entry.gathering).filter (fun x => decide (x.cls = .applying)) = [] := by
    simp [List.filter_filter, Entry.gathering]
  exact ⟨fun _ => ⟨rfl, hnone⟩, fun h => Bool.noConfusion h, fun h => Bool.noConfusion h, fun h => Bool.noConfusion h, fun _ => rfl⟩

/-! ### Every command -/

/-- A command keeps TLV, IRQn and TLF with their owners, the close sets nested and the epoch numbers sound; a rise of TLF where TLV follows
the vote. -/
theorem exec_steady {c : Instr} {s t : State} (hv : ∀ b, c = .tlfRise b → s.voteDriven) (h : exec c s = .next t) : s.Steady t := by
  have taken (k : Kind) (i : StationId) (p : List Byte) (hc : c = k.taken i p) : s.Steady t := by
    rw [hc, exec_taken] at h
    rw [← next_eq h]
    exact s.take_steady k i p
  cases c with
  | powerOnReset => exact exec_powerOnReset_steady h
  | softReset => exact exec_softReset_steady h
  | transactionStart | framingError | transactionEnd =>
    rw [← next_eq h]
    exact .ite (fun _ => .of_view rfl (.inr rfl)) fun _ => .refl
  | eventRecordRemoval => exact exec_eventRecordRemoval_steady h
  | badCommand => rw [← next_eq h]; exact .ite (fun _ => State.evaluate_steady .refl) fun _ => .refl
  | configure => rw [← next_eq h]; exact State.evaluate_steady (s.configure_steady _)
  | loadFontB => rw [← next_eq h]; exact State.evaluate_steady (s.loadFont_steady _ _)
  | goOnline => rw [← next_eq h]; exact State.evaluate_steady s.goOnline_steady
  | goOffline => rw [← next_eq h]; exact State.evaluate_steady s.goOffline_steady
  | reset => rw [← next_eq h]; exact State.evaluate_steady (.of_view rfl (.inr rfl))
  | beginBatch => rw [← next_eq h]; exact State.evaluate_steady s.beginBatch_steady
  | endBatch => rw [← next_eq h]; exact State.evaluate_steady s.endBatch_steady
  | putCells | fill | copy | setPane | setPalette => rw [← next_eq h]; exact State.evaluate_steady (s.submit_steady _)
  | claim | handover | release => rw [← next_eq h]; exact State.evaluate_steady (s.request_steady _ _)
  | readEvent => rw [← next_eq h]; exact State.evaluate_steady s.readEvent_steady
  | readStatus => rw [← next_eq h]; exact State.evaluate_steady (.ite (fun _ => .of_view rfl (.inr rfl)) fun _ => .refl)
  | readPane | readCells => rw [← next_eq h]; exact State.evaluate_steady (by split <;> exact .refl)
  | readRoster => rw [← next_eq h]; exact State.evaluate_steady .refl
  | startCondition => exact exec_startCondition_steady h
  | startSeen => rw [← next_eq h]; exact .ite (fun _ => .of_view rfl (.inr rfl)) fun _ => .refl
  | lostInArbitration => exact exec_lostInArbitration_steady h
  | holdPoint => exact exec_holdPoint_steady h
  | packetRefused => rw [← next_eq h]; exact s.refused_steady
  | observerReceipt =>
    rw [← next_eq h]
    exact .ite (fun _ => .ite (fun _ => s.observeReceipt_steady _) fun _ => s.refused_steady) fun _ => .refl
  | foundTaken i p => exact taken .found i p rfl
  | joinTaken i p => exact taken .join i p rfl
  | joinDenyTaken i p => exact taken .joinDeny i p rfl
  | joinDoneTaken i p => exact taken .joinDone i p rfl
  | leaveTaken i p => exact taken .leave i p rfl
  | claimTaken i p => exact taken .claim i p rfl
  | handoverTaken i p => exact taken .handover i p rfl
  | releaseTaken i p => exact taken .release i p rfl
  | retractTaken i p => exact taken .retract i p rfl
  | closeTaken i p => exact taken .close i p rfl
  | putCellsTaken i p => exact taken .putCells i p rfl
  | fillTaken i p => exact taken .fill i p rfl
  | copyTaken i p => exact taken .copy i p rfl
  | setPaneTaken i p => exact taken .setPane i p rfl
  | setPaletteTaken i p => exact taken .setPalette i p rfl
  | snapHeadTaken i p => exact taken .snapHead i p rfl
  | snapPaneTaken i p => exact taken .snapPane i p rfl
  | snapFreeTaken i p => exact taken .snapFree i p rfl
  | snapPaletteTaken i p => exact taken .snapPalette i p rfl
  | snapCellsTaken i p => exact taken .snapCells i p rfl
  | snapEndTaken i p => exact taken .snapEnd i p rfl
  | stopCondition | packetBreak | packetAbandoned =>
    rw [← next_eq h]
    exact .ite (fun _ => s.endPacket_steady _) fun _ => .refl
  | linkTimeout => exact exec_linkTimeout_steady h
  | busFreeInterval =>
    rw [← next_eq h]
    exact .ite (fun _ => .ite (fun _ => .of_view rfl (.inr rfl)) fun _ => .of_view rfl (.inr rfl)) fun _ => .refl
  | recoveryBusFree => rw [← next_eq h]; exact .ite (fun _ => .of_view rfl (.inr rfl)) fun _ => .refl
  | irregularTlcFall =>
    rw [← next_eq h]
    exact .ite (fun _ => .of_view rfl (.inr rfl)) fun _ => .ite (fun _ => .of_view rfl (.inr rfl)) fun _ => .refl
  | tlfRise b => exact exec_tlfRise_steady (hv b rfl) h
  | tlfRiseEffects => exact exec_tlfRiseEffects_steady h
  | stallLimit => exact exec_stallLimit_steady h
  | transferLimit => exact exec_transferLimit_steady h
  | exhaustedUpdate => exact exec_exhaustedUpdate_steady h
  | exhaustedRequest => exact exec_exhaustedRequest_steady h
  | selfDemotion => rw [← next_eq h]; exact .ite (fun _ => s.removeSelf_steady _ _ _) fun _ => s.dropExhausted_steady
  | listenIntervalExpiry => exact exec_listenIntervalExpiry_steady h
  | requestTimerExpiry => exact exec_requestTimerExpiry_steady h
  | enterFront => exact exec_enterFront_steady h
  | applyClear | applyPutCells | applyFill | applyCopy | applySetPane | applySetPalette | applyRelease =>
    exact exec_apply_steady (by simp) h
  | applyPassEnd => exact exec_applyPassEnd_steady h
  | frontEnd | syncEnd | followingWaitLimit | backEnd =>
    rw [← next_eq h]
    exact .ite (fun _ => .of_view rfl (.inr rfl)) fun _ => .refl
  | tlfRelease => exact exec_tlfRelease_steady h
  | holdLineEnd =>
    rw [← next_eq h]
    exact .ite (fun _ => .ite (fun _ => .of_view rfl (.inr rfl)) fun _ => .ite (fun _ => .of_view rfl (.inr rfl)) fun _ => .refl)
      fun _ => .refl
  | frameHoldLimit => exact exec_frameHoldLimit_steady h
  | spanListBuild => exact exec_spanListBuild_steady h

/-- Settles O6: each driver's owner moves only with it. -/
theorem stepKeepsDrivers : Obligations.StepKeepsDrivers := by
  intro s t hs h
  refine step_keeps_of_exec (P := State.driversSound) (fun _ _ hs => hs) (fun c s t hs h => ?_) hs h
  obtain ⟨hvote, hirq, hframe⟩ := s.driversSound_iff.1 hs
  have hc := exec_steady (fun _ _ => hvote) h
  exact t.driversSound_iff.2 ⟨hc.vote hvote, hc.irq hirq, hc.frame hframe⟩

/-- Settles O8: a rise of TLF moves no close set, and every other command keeps them nested. -/
theorem stepKeepsCloseSets : Obligations.StepKeepsCloseSets := by
  intro s t hs h
  refine step_keeps_of_exec (P := State.closeSetsNested) (fun _ _ hs => hs) (fun c s t hs h => ?_) hs h
  by_cases hc : ∃ b, c = .tlfRise b
  · obtain ⟨b, rfl⟩ := hc
    rwa [State.closeSetsNested, exec_tlfRise_ep h]
  · exact (exec_steady (fun b hb => absurd ⟨b, hb⟩ hc) h).closes hs

/-- Settles O9: only a rise of TLF asks for the vote's driver, which the premise gives. -/
theorem stepKeepsEpochs : Obligations.StepKeepsEpochs := by
  intro s t hd hs h
  have both := step_keeps_of_exec (P := fun s => s.driversSound ∧ s.epochsSound) (fun _ _ hs => hs) (fun c s t hs h => ?_) ⟨hd, hs⟩ h
  · exact both.2
  · obtain ⟨⟨hvote, hirq, hframe⟩, hepochs⟩ := hs
    have hc := exec_steady (fun _ _ => hvote) h
    exact ⟨⟨hc.vote hvote, hc.irq hirq, hc.frame hframe⟩, hc.epochs hepochs⟩

end Sys2Proof.Machine
end

section
/-! PROOF. O50 and O53: a rise sampled low, and the vertical phases. -/

namespace Sys2Proof.Machine

/-! ### The entry to a vertical phase (R63, R138 to R142, R152) -/

theorem State.takeTiming_eq (s : State) : s.takeTiming
    = { s with raster := { s.raster with timing := if s.raster.config.isSome then s.raster.config else s.raster.timing } } := by
  rw [State.takeTiming]
  cases hc : s.raster.config <;> simp

theorem State.startPass_eq (s : State) : s.startPass = { s with ep := { s.ep with
    passRunning := s.ep.passRunning || s.ep.pendingApply
    passDone := if s.ep.pendingApply then 0 else s.ep.passDone } } := by
  rw [State.startPass]
  split
  next hp => rw [hp, Bool.or_true]
  next hp =>
    have hruns : (s.ep.passRunning || s.ep.pendingApply) = s.ep.passRunning := by simp [hp]
    rw [hruns]

/-- R140, R142: a station that is LOCKED, or locks now, pulls TLF. -/
theorem State.lockMember_pullFrame (s : State) :
    let locked := s.raster.sync = .locked ∨ (s.raster.sync = .following ∧ s.mb.state = .member)
    s.lockMember.pullFrame = { s with
      raster := { s.raster with
        sync := if locked then .locked else s.raster.sync, holding := decide locked, pulled := decide locked }
      pins := { s.pins with tlfLow := decide locked } } := by
  intro locked
  by_cases hl : s.raster.sync = .following ∧ s.mb.state = .member
  · have hlocks : s.lockMember = { s with raster := { s.raster with sync := .locked } } :=
      if_pos ⟨hl.1, by simp [State.isMember, hl.2]⟩
    have hlocked : locked := .inr hl
    rw [hlocks]
    simp [State.pullFrame, hlocked]
  · have hstays : s.lockMember = s := if_neg fun h => hl ⟨h.1, by simpa [State.isMember] using h.2⟩
    have hlocked : locked ↔ s.raster.sync = .locked := or_iff_left hl
    have hsync : (if locked then .locked else s.raster.sync) = s.raster.sync := by
      split
      next h => exact (hlocked.1 h).symm
      next => rfl
    rw [hstays, hsync, decide_eq_decide.2 hlocked]
    rfl

/-- Settles O53, phase by phase. -/
theorem rasterPhases : Obligations.RasterPhases := by
  intro s
  refine ⟨fun h => ?_, fun h => ?_, fun h => ?_, fun h => ?_⟩
  · intro locked
    rw [exec, execEnterFront, if_pos (by simp [State.inPhase, h]), State.lockMember_pullFrame, State.takeTiming_eq, State.startPass_eq]
    rfl
  · rw [exec, execFrontEnd, if_pos (by simp [State.inPhase, h])]
    rfl
  · rw [exec, execSyncEnd, if_pos (by simp [State.inPhase, h])]
    rfl
  · rw [exec, execBackEnd, if_pos (by simp [State.inPhase, h])]
    rfl

/-! ### A rise's effects (R54, R57, R61, R90) -/

/-- R19, R57: between packets the deferred sample is taken, by a member for its decision and by the joiner for its transfer. -/
theorem exec_tlfRiseEffects_quiet {s : State} {b : Bool} (hq : s.quiet) (hb : s.link.riseSample = some b) :
    let rise : State := { s with link := { s.link with riseSample := none } }
    (s.mb.state = .member → exec .tlfRiseEffects s = .next (rise.memberRise b))
    ∧ (s.mb.state = .joining → exec .tlfRiseEffects s = .next rise.ageStep) := by
  intro rise
  have hp : s.packetInProgress = false := by simpa [State.packetInProgress, State.quiet] using hq
  rw [exec, execTlfRiseEffects, hb]
  dsimp only
  rw [if_neg (by simp [hp])]
  constructor <;> intro hm <;> rw [hm]

theorem State.ageStep_some {s : State} {tr : Transfer} (h : s.mb.transfer = some tr) :
    s.ageStep = { s with mb := { s.mb with transfer := some { tr with age := min 240 (tr.age + 1) } } } := by
  rw [State.ageStep, h]
  rfl

theorem State.ageStep_none {s : State} (h : s.mb.transfer = none) : s.ageStep = s := by
  rw [State.ageStep, h]

theorem State.someOpen_iff (s : State) : s.someOpen = true ↔ s.mb.roster &&& ~~~s.ep.openClose ≠ 0 := by
  simp [State.someOpen, idSubset]

/-- R61: with no transfer in flight the stall count grows exactly when some member has not closed OPEN. -/
theorem State.stallStep_none {s : State} (h : s.mb.transfer = none) :
    s.stallStep = if s.mb.roster &&& ~~~s.ep.openClose ≠ 0 then { s with ep := { s.ep with stall := min 16 (s.ep.stall + 1) } } else s := by
  rw [State.stallStep]
  simp only [State.inTransfer, h, Option.isSome_none, Bool.not_false, Bool.true_and, s.someOpen_iff]
  rfl

theorem State.stallStep_some {s : State} {tr : Transfer} (h : s.mb.transfer = some tr) : s.stallStep = s := by
  simp [State.stallStep, State.inTransfer, h]

/-- R62: no member is evicted that has closed OPEN, or short of the stall limit. -/
theorem State.evictedNow_of {s : State} (h : idIn s.stationId s.ep.openClose = true ∨ s.ep.stall < 15) : s.evictedNow = false := by
  rw [State.evictedNow]
  rcases h with h | h
  · simp [h]
  · have : ¬ Config.stallLimit ≤ s.ep.stall + 1 := by
      change ¬ 16 ≤ s.ep.stall + 1
      omega
    simp [this]

/-- R54, R61: the effects of a rise sampled low, with no batch to break. -/
theorem State.memberRise_low {s : State} (h : s.shortBatches = []) : s.memberRise false = s.ageStep.stallStep := by
  rw [State.memberRise, h, ite_self]
  rfl

/-! ### The batches caught short of room (R54) -/

theorem mem_allTags (g : Byte) : g ∈ allTags ↔ g.toNat < 16 := by
  simp only [allTags, List.mem_map, List.mem_range]
  constructor
  · rintro ⟨n, hn, rfl⟩
    simp; omega
  · exact fun h => ⟨g.toNat, h, BitVec.ofNat_toNat ..⟩

theorem State.mem_tagsWhere {s : State} {p : BatchRecord → Bool} {g : Byte} :
    g ∈ s.tagsWhere p ↔ g.toNat < 16 ∧ ∃ b ∈ s.tx.batches, b.tag = g ∧ p b = true := by
  simp [State.tagsWhere, mem_allTags]

theorem State.mem_shortBatches {s : State} {g : Byte} :
    g ∈ s.shortBatches ↔ g.toNat < 16 ∧ ∃ q rest c b, s.tx.queue = q :: rest ∧ s.ep.current s.stationId = some c
      ∧ q.request.addsEntry = true ∧ 256 < s.ep.gatheringCount + 1 ∧ b ∈ s.tx.batches ∧ b.tag = g ∧ b.broken = false
      ∧ s.tx.unfinished b = true ∧ s.ep.batchIn s.stationId g c = true := by
  have hfull : s.stagingFull = true ↔ 256 < s.ep.gatheringCount + 1 := decide_eq_true_iff
  rw [State.shortBatches]
  split
  next q rest c hq hc =>
    simp only [hq, hc, List.cons.injEq, Option.some.injEq]
    split
    next hh =>
      simp only [State.heldForRoom, Bool.and_eq_true, hfull] at hh
      rw [State.mem_tagsWhere]
      refine and_congr_right fun _ => ⟨?_, ?_⟩
      · rintro ⟨b, hb, rfl, hp⟩
        simp only [Bool.and_eq_true, Bool.not_eq_true'] at hp
        exact ⟨q, rest, c, b, ⟨rfl, rfl⟩, rfl, hh.1, hh.2, hb, rfl, hp.1.1, hp.1.2, hp.2⟩
      · rintro ⟨q', rest', c', b, ⟨rfl, rfl⟩, rfl, -, -, hb, rfl, hbroken, hunf, hin⟩
        exact ⟨b, hb, rfl, by simp [hbroken, hunf, hin]⟩
    next hh =>
      simp only [State.heldForRoom, Bool.and_eq_true, hfull] at hh
      simp only [List.not_mem_nil, false_iff]
      rintro ⟨-, q', rest', c', b, ⟨rfl, rfl⟩, rfl, hadds, hroom, -⟩
      exact hh ⟨hadds, hroom⟩
  next hnone =>
    simp only [List.not_mem_nil, false_iff]
    rintro ⟨-, q, rest, c, b, hq, hc, -⟩
    exact hnone q rest c hq hc

/-- Settles O50: the stall count or the age, and the batch caught short by whether a member is evicted at this rise. -/
theorem riseSampledLow : Obligations.RiseSampledLow := by
  intro s hq rise older stalls slower
  have hslower (ht : s.mb.transfer = none) : rise.ageStep.stallStep = slower := by
    rw [State.ageStep_none (s := rise) ht, State.stallStep_none (s := rise) ht]
  refine ⟨fun hb hm ht hs => ?_, fun tr hb hm ht hs => ?_, fun b tr hb hm ht => ?_, fun g hb hm ht hs hstay htaken ha hroom => ?_,
    fun g => State.mem_shortBatches⟩
  · rw [(exec_tlfRiseEffects_quiet hq hb).1 hm, State.memberRise_low (s := rise) hs, hslower ht]
  · rw [(exec_tlfRiseEffects_quiet hq hb).1 hm, State.memberRise_low (s := rise) hs, State.ageStep_some (s := rise) ht]
    exact congrArg _ (State.stallStep_some (s := older tr) rfl)
  · rw [(exec_tlfRiseEffects_quiet hq hb).2 hm, State.ageStep_some (s := rise) ht]
  · rw [(exec_tlfRiseEffects_quiet hq hb).1 hm, State.memberRise, State.evictedNow_of (s := rise) hstay]
    have hkept : slower.tx = s.tx ∧ slower.host = s.host := by
      simp only [slower]
      split <;> exact ⟨rfl, rfl⟩
    have hbroken : slower.batchTaken g = true := by rw [State.batchTaken, hkept.1]; exact htaken
    rw [show rise.shortBatches = [g] from hs]
    refine congrArg _ ((congrArg (State.breakBatch · g) (hslower ht)).trans ?_)
    rw [State.breakBatch_eq (by rw [hkept.1]; exact ha) (by rw [hkept.2]; exact hroom), hbroken, hkept.1, hkept.2]
    rfl

end Sys2Proof.Machine
end

section
/-! PROOF. O51: the members a stall limit evicts, one after another, and the two limits. -/

namespace Sys2Proof.Machine

/-! ### What the removal of other members leaves (R67, R93, R109) -/

/-- A RELEASE entry of a pane. -/
def Entry.releases (x : Entry) (k : Fin 32) : Bool :=
  match x.op with
  | .release p => decide (paneIx p = k)
  | _ => false

theorem Entry.releases_iff (x : Entry) (k : Fin 32) : x.releases k = true ↔ ∃ b, x.op = .release b ∧ paneIx b = k := by
  rw [Entry.releases]
  cases x.op <;> simp

/-- R93, R109: the removal of the senders in a set discards a RELEASE entry of the pane in OPEN or NEXT. -/
def Epochs.loses (e : Epochs) (out : IdSet) (k : Fin 32) : Bool :=
  e.staging.any fun x => (x.gathering && idIn x.sender out) && x.releases k

/-- R109: a pane owned by a removed member, or whose RELEASE entry is discarded, becomes an orphan. -/
def Control.without (c : Control) (gone : StationId → Bool) (lost : Bool) : Control :=
  match c with
  | .owned o e => if gone o then .orphan e else .owned o e
  | .releasing e => if lost then .orphan e else .releasing e
  | .orphan e => .orphan e
  | .free => .free

theorem Control.without_without (c : Control) (gone gone' : StationId → Bool) (lost lost' : Bool) :
    (c.without gone lost).without gone' lost' = c.without (fun i => gone i || gone' i) (lost || lost') := by
  cases c with
  | owned o e => cases hg : gone o <;> simp [Control.without, hg]
  | releasing e => cases lost <;> simp [Control.without]
  | orphan | free => rfl

theorem Control.without_none (c : Control) : c.without (fun _ => false) false = c := by cases c <;> rfl

/-- R67, R93, R109: a station with the members in a set removed: from the roster, from both close sets, from OPEN and NEXT, and from the
panes. -/
def State.without (s : State) (out : IdSet) : State :=
  { s with
    mb := { s.mb with roster := s.mb.roster &&& ~~~out }
    ep := { s.ep with
      openClose := s.ep.openClose &&& ~~~out
      nextClose := s.ep.nextClose &&& ~~~out
      staging := s.ep.staging.filter fun x => !(x.gathering && idIn x.sender out) }
    panes := Vector.ofFn fun k => { s.pane k with control := (s.pane k).control.without (fun i => idIn i out) (s.ep.loses out k) } }

theorem State.without_pane (s : State) (out : IdSet) (k : Fin 32) :
    (s.without out).pane k = { s.pane k with control := (s.pane k).control.without (fun i => idIn i out) (s.ep.loses out k) } := by
  simp [State.pane, State.without]

/-- A station is its panes and the rest of its fields. -/
theorem State.panes_ext {s t : State} (hp : ∀ k, t.pane k = s.pane k) : t.panes = s.panes :=
  Vector.ext fun n hn => hp ⟨n, hn⟩

theorem State.without_zero (s : State) : s.without 0#16 = s := by
  have hsets (r : IdSet) : r &&& ~~~0#16 = r := idSet_ext fun i => by rw [idIn_and, idIn_not, idIn_zero, Bool.not_false, Bool.and_true]
  have hpanes : (s.without 0#16).panes = s.panes := State.panes_ext fun k => by
    have hloses : s.ep.loses 0#16 k = false := by simp [Epochs.loses]
    simp only [State.without_pane, hloses, idIn_zero, Control.without_none]
  calc s.without 0#16 = { s.without 0#16 with panes := s.panes } := by rw [← hpanes]
    _ = s := by simp only [State.without, hsets, idIn_zero, Bool.and_false, Bool.not_false, List.filter_true]

/-- The members of two sets removed, one set after the other. -/
theorem State.without_without (s : State) (a b : IdSet) : (s.without a).without b = s.without (a ||| b) := by
  have hloses (k : Fin 32) : (s.ep.loses a k || (s.without a).ep.loses b k) = s.ep.loses (a ||| b) k := by
    rw [Bool.eq_iff_iff]
    simp only [Epochs.loses, State.without, Bool.or_eq_true, List.any_eq_true, List.mem_filter, Bool.and_eq_true, Bool.not_eq_true',
      idIn_or, Bool.and_eq_false_iff]
    constructor
    · rintro (⟨x, hx, ⟨hg, ha⟩, hk⟩ | ⟨x, ⟨hx, -⟩, ⟨hg, hb⟩, hk⟩)
      · exact ⟨x, hx, ⟨hg, .inl ha⟩, hk⟩
      · exact ⟨x, hx, ⟨hg, .inr hb⟩, hk⟩
    · rintro ⟨x, hx, ⟨hg, hab⟩, hk⟩
      cases ha : idIn x.sender a with
      | true => exact .inl ⟨x, hx, ⟨hg, ha⟩, hk⟩
      | false => exact .inr ⟨x, ⟨hx, .inr ha⟩, ⟨hg, by simpa [ha] using hab⟩, hk⟩
  have hpanes : ((s.without a).without b).panes = (s.without (a ||| b)).panes := State.panes_ext fun k => by
    simp only [State.without_pane, Control.without_without, hloses, idIn_or]
  have hsets (r : IdSet) : r &&& ~~~a &&& ~~~b = r &&& ~~~(a ||| b) := idSet_ext fun i => by simp [Bool.and_assoc]
  have hstaging : ((s.without a).without b).ep.staging = (s.without (a ||| b)).ep.staging := by
    simp only [State.without, List.filter_filter]
    refine List.filter_congr fun x _ => ?_
    cases x.gathering <;> simp [Bool.and_comm]
  calc (s.without a).without b
      = { (s.without a).without b with
          panes := (s.without (a ||| b)).panes
          ep := { ((s.without a).without b).ep with staging := (s.without (a ||| b)).ep.staging } } := by rw [← hpanes, ← hstaging]
    _ = s.without (a ||| b) := by simp only [State.without, hsets]

/-- R93: a member removes another: its traces go, the event is posted, and the vote is taken anew. -/
theorem State.removeOther_eq {s : State} (h : s.isMember = true) (i : StationId) (ev : EventKind) :
    s.removeOther i ev = ((s.without (idSet i)).post ev (idByte i) 0 0).revote := by
  have releasing (b : Bool) (e : Extent) (d : Display) :
      (if b = true then (⟨.orphan e, d⟩ : Pane) else ⟨.releasing e, d⟩) = ⟨if b = true then .orphan e else .releasing e, d⟩ := by
    cases b <;> rfl
  rw [State.removeOther]
  refine congrArg State.revote ?_
  dsimp only
  rw [if_pos (by exact h)]
  refine congrArg (State.post · ev (idByte i) 0 0) ?_
  simp only [State.without, idIn_idSet, Epochs.loses, idDrop, State.mk.injEq, true_and, and_true]
  refine congrArg Vector.ofFn (funext fun k => ?_)
  obtain ⟨c, d⟩ := s.pane k
  cases c with
  | owned o e => by_cases ho : o = i <;> simp [Control.without, ho]
  | releasing e => exact releasing _ e d
  | orphan | free => rfl

theorem State.removeOther_voteDriven (s : State) (i : StationId) (ev : EventKind) : (s.removeOther i ev).voteDriven := rfl

/-- The set of a list of ids. -/
def idSetOf : List StationId → IdSet
  | [] => 0#16
  | i :: l => idSet i ||| idSetOf l

theorem idIn_idSetOf (i : StationId) (l : List StationId) : idIn i (idSetOf l) = decide (i ∈ l) := by
  induction l with
  | nil => simp [idSetOf]
  | cons j l ih => simp [idSetOf, ih]

theorem idSetOf_idList (r : IdSet) : idSetOf (idList r) = r :=
  idSet_ext fun i => by rw [idIn_idSetOf, Bool.eq_iff_iff, decide_eq_true_iff, mem_idList]

/-- A record posted moves the event queue and IRQn alone. -/
theorem State.postAt_eq (s : State) (e : Half) (k : EventKind) (a : Byte) (b c : Half) :
    s.postAt e k a b c = { s with host := (s.postAt e k a b c).host, pins := (s.postAt e k a b c).pins } := by
  rw [State.postAt]
  split <;> rfl

theorem State.removeOther_without {s : State} (h : s.isMember = true) (i : StationId) (ev : EventKind) :
    let t := s.removeOther i ev
    t = { s.without (idSet i) with host := t.host, pins := t.pins } ∧ s.posted t [⟨ev, s.ep.openNum, idByte i, 0, 0⟩] := by
  rw [State.removeOther_eq h]
  exact ⟨congrArg (fun u : State => { u with pins := ((s.without (idSet i)).post ev (idByte i) 0 0).revote.pins })
    ((s.without (idSet i)).postAt_eq _ _ _ _ _), (s.without (idSet i)).posted_postAt _ _ _ _ _⟩

/-- Members removed, and then others: the traces of both go. -/
theorem State.without_after {s u t : State} {a b : IdSet} (hu : u = { s.without a with host := u.host, pins := u.pins })
    (ht : t = { u.without b with host := t.host, pins := t.pins }) :
    t = { s.without (a ||| b) with host := t.host, pins := t.pins } := by
  rw [← State.without_without]
  refine ht.trans ?_
  rw [hu]
  rfl

/-- R62, R93: members removed one after another: their traces go together, and their events are posted in order. -/
theorem State.foldl_removeOther {s : State} (h : s.isMember = true) (ev : EventKind) (l : List StationId) :
    let t := l.foldl (fun s i => s.removeOther i ev) s
    t = { s.without (idSetOf l) with host := t.host, pins := t.pins } ∧ s.posted t (l.map fun i => ⟨ev, s.ep.openNum, idByte i, 0, 0⟩) := by
  induction l generalizing s with
  | nil => exact ⟨s.without_zero.symm, s.posted_refl⟩
  | cons i l ih =>
    obtain ⟨hu, hone⟩ := s.removeOther_without h i ev
    have hnum : (s.removeOther i ev).ep.openNum = s.ep.openNum := by rw [hu]; rfl
    obtain ⟨ht, hrest⟩ := ih (s := s.removeOther i ev) (by simpa [State.isMember] using h)
    refine ⟨State.without_after hu ht, hone.trans (by simp) (by rw [← hnum]; exact hrest) fun hnil => ?_⟩
    rw [List.map_eq_nil_iff.1 hnil]
    rfl

/-! ### The two limits (R62, R90) -/

/-- R62: the members to evict, those that have not closed OPEN. -/
theorem State.mem_evictees {s : State} {i : StationId} :
    i ∈ s.evictees ↔ idIn i s.mb.roster = true ∧ idIn i s.ep.openClose = false := by
  simp [State.evictees, mem_idList]

theorem exec_stallLimit_reached {s : State} (hm : s.mb.state = .member) (hstall : 16 ≤ s.ep.stall) :
    (s.stationId ∈ s.evictees → exec .stallLimit s = .next (s.removeSelf .evicted 0 s.mb.leaveRequested))
    ∧ (s.stationId ∉ s.evictees → exec .stallLimit s = .next
        (s.evictees.foldl (fun s i => s.removeOther i .memberEvicted) { s with ep := { s.ep with stall := 0 } })) := by
  have hlimit : s.isMember ∧ Config.stallLimit ≤ s.ep.stall := ⟨by simp [State.isMember, hm], hstall⟩
  rw [exec, execStallLimit, if_pos hlimit, List.contains_eq_mem]
  exact ⟨fun hself => by rw [if_pos (decide_eq_true hself)], fun hself => by rw [if_neg (by simpa using hself)]⟩

/-- R62, R93: the others evicted leave no trace, their events stand in order, and the vote is taken anew. -/
theorem exec_stallLimit_others {s : State} (hm : s.mb.state = .member) (hstall : 16 ≤ s.ep.stall) (hself : s.stationId ∉ s.evictees)
    (hsome : s.evictees ≠ []) : ∃ t, exec .stallLimit s = .next t
      ∧ t = { ({ s with ep := { s.ep with stall := 0 } } : State).without (s.mb.roster &&& ~~~s.ep.openClose) with
          host := t.host, pins := t.pins }
      ∧ s.posted t (s.evictees.map fun i => ⟨.memberEvicted, s.ep.openNum, idByte i, 0, 0⟩) ∧ t.voteDriven := by
  obtain ⟨ht, hposted⟩ := State.foldl_removeOther (s := { s with ep := { s.ep with stall := 0 } }) (by simp [State.isMember, hm])
    .memberEvicted s.evictees
  refine ⟨_, (exec_stallLimit_reached hm hstall).2 hself, ?_, hposted, ?_⟩
  · rw [State.evictees, idSetOf_idList] at ht
    exact ht
  · obtain ⟨i, l, hl⟩ := List.exists_cons_of_ne_nil hsome
    rw [hl]
    exact (State.Steady.foldl _ (fun u i => u.removeOther_steady i .memberEvicted) l _).vote (State.removeOther_voteDriven _ i _)

/-- R109: whether the RELEASE entry of a pane goes with the members evicted. -/
theorem State.evictees_loses (s : State) (k : Fin 32) : s.ep.loses (s.mb.roster &&& ~~~s.ep.openClose) k = true ↔
    ∃ y ∈ s.ep.staging, y.cls ≠ .applying ∧ (idIn y.sender s.mb.roster = true ∧ idIn y.sender s.ep.openClose = false)
      ∧ ∃ b, y.op = .release b ∧ paneIx b = k := by
  simp [Epochs.loses, Entry.gathering, Entry.releases_iff, and_assoc]

theorem exec_transferLimit_some {s : State} {tr : Transfer} (ht : s.mb.transfer = some tr) : exec .transferLimit s
    = .next (if 240 ≤ tr.age then
        if s.isJoiner then s.removeSelf .transferAbandoned 1 false else if s.isMember then s.endTransfer.revote else s
      else s) := by
  rw [exec, execTransferLimit, ht]
  rfl

/-- Settles O51: this station's own removal, the removal of the others together, and the transfer's end by membership. -/
theorem stallAndTransferLimits : Obligations.StallAndTransferLimits := by
  intro s out gone
  refine ⟨fun hm hstall hself => ?_, fun hm hstall hself hout => ?_, fun hstall => ?_, fun tr ht => ⟨fun hage => ?_, fun hage hm => ?_,
    fun hage hm => ?_⟩⟩
  · refine ⟨_, (exec_stallLimit_reached hm hstall).1 (State.mem_evictees.2 hself), s.removeSelf_leftGroup _ _ _,
      fun hl => ?_, fun hl hlink => ?_⟩
    · rw [hl]; exact s.removeSelf_link_listening _ _
    · rw [hl]; exact State.removeSelf_link_offline hlink _ _
  · have hkept : s.ep.openClose &&& ~~~out = s.ep.openClose := idSet_ext fun i => by
      cases ho : idIn i s.ep.openClose <;> simp [out, ho]
    have hroster : s.mb.roster &&& ~~~out = s.mb.roster &&& s.ep.openClose := idSet_ext fun i => by
      cases hr : idIn i s.mb.roster <;> simp [out, hr]
    obtain ⟨t, hexec, ht, hposted, hvote⟩ := exec_stallLimit_others hm hstall (fun h => hself (State.mem_evictees.1 h))
      fun h => hout (idList_eq_nil.1 h)
    have ht : t = { ({ s with ep := { s.ep with stall := 0 } } : State).without out with host := t.host, pins := t.pins } := ht
    have hpane (k : Fin 32) :
        t.pane k = { s.pane k with control := (s.pane k).control.without (fun i => idIn i out) (s.ep.loses out k) } := by
      rw [ht]
      exact State.without_pane { s with ep := { s.ep with stall := 0 } } out k
    refine ⟨t, hexec, by rw [ht, ← hroster]; rfl, ?_, fun k => ?_, fun k o x hc => ?_, fun k x hc => ?_, fun k hc => ?_, fun hlen => ?_,
      by rw [ht]; rfl, by rw [ht]; rfl, by rw [ht]; rfl, by rw [ht]; rfl, by rw [ht]; rfl, hvote⟩
    · rw [ht]
      simp only [State.without, hkept]
      rfl
    · rw [hpane]
    · rw [hpane, hc]; rfl
    · rw [hpane, hc]
      exact if_congr (s.evictees_loses k) rfl rfl
    · rw [hpane]
      obtain hc | ⟨x, hc⟩ := hc <;> rw [hc] <;> rfl
    · exact (hposted (by rw [List.length_map]; exact hlen)).1
  · rw [exec, execStallLimit, if_neg fun h => absurd (show 16 ≤ s.ep.stall from h.2) (by omega)]
  · rw [exec_transferLimit_some ht, if_neg (by omega)]
  · rw [exec_transferLimit_some ht, if_pos hage, if_neg (by simp [State.isJoiner, hm]),
      if_pos (by simp [State.isMember, hm])]
    rfl
  · rw [exec_transferLimit_some ht, if_pos hage, if_pos (by simp [State.isJoiner, hm])]
    exact ⟨_, rfl, s.removeSelf_leftGroup _ _ _, s.removeSelf_link_listening _ _⟩

end Sys2Proof.Machine
end

section
/-! PROOF. O49: the commit decision, step by step. -/

namespace Sys2Proof.Machine

/-! ### Panes freed (R58 step 5, R108, R123) -/

/-- The extent of a pane that is RELEASING. -/
def Control.releasing? : Control → Option Extent
  | .releasing e => some e
  | .free | .owned _ _ | .orphan _ => none

/-- R108: a RELEASING pane becomes FREE. -/
def Control.freed : Control → Control
  | .releasing _ => .free
  | .owned o e => .owned o e
  | .orphan e => .orphan e
  | .free => .free

theorem Control.releasing?_iff {c : Control} {e : Extent} : c.releasing? = some e ↔ c = .releasing e := by
  cases c <;> simp [Control.releasing?]

theorem Control.freed_of_none {c : Control} (h : c.releasing? = none) : c.freed = c := by
  cases c <;> simp_all [Control.releasing?, Control.freed]

theorem Control.freed_freed (c : Control) : c.freed.freed = c.freed := by cases c <;> rfl

theorem State.setControl_pane (s : State) (i k : Fin 32) (c : Control) :
    (s.setControl i c).pane k = if k = i then { s.pane k with control := c } else s.pane k := by
  by_cases h : k = i
  · subst h
    simp [State.setControl, State.setPane, State.pane]
  · have : i.val ≠ k.val := fun hv => h (Fin.ext hv.symm)
    simp [State.setControl, State.setPane, State.pane, h, this]

theorem State.freePane_eq (s : State) (i : Fin 32) : s.freePane i =
    match (s.pane i).control.releasing? with
    | some e => { s.setControl i .free with store := { s.store with freeList := returnExtent e s.store.freeList } }
    | none => s := by
  rw [State.freePane]
  cases (s.pane i).control <;> rfl

theorem State.freePane_pane (s : State) (i k : Fin 32) :
    (s.freePane i).pane k = if k = i then { s.pane k with control := (s.pane k).control.freed } else s.pane k := by
  rw [State.freePane_eq]
  split
  next e he =>
    have := s.setControl_pane i k .free
    refine this.trans ?_
    split
    next hk => rw [hk, Control.releasing?_iff.1 he]; rfl
    next => rfl
  next he =>
    split
    next hk => rw [hk, Control.freed_of_none he]
    next => rfl

/-- R123: the extents that panes give back, one after another. -/
def returnExtents (es : List Extent) (fl : List Extent) : List Extent := es.foldl (fun l e => returnExtent e l) fl

theorem State.freePane_store (s : State) (i : Fin 32) :
    (s.freePane i).store = { s.store with freeList := returnExtents (s.pane i).control.releasing?.toList s.store.freeList } := by
  rw [State.freePane_eq]
  split <;> simp [*, returnExtents]

/-- R58, step 5: the panes of the RELEASE entries, freed in staging-queue order. -/
def State.freePanes (s : State) (l : List (Fin 32)) : State := l.foldl State.freePane s

theorem State.freePanes_pane (s : State) (l : List (Fin 32)) (k : Fin 32) :
    (s.freePanes l).pane k = if k ∈ l then { s.pane k with control := (s.pane k).control.freed } else s.pane k := by
  induction l generalizing s with
  | nil => rfl
  | cons i l ih =>
    have hrest := ih (s.freePane i)
    rw [State.freePane_pane] at hrest
    refine hrest.trans ?_
    by_cases hi : k = i <;> by_cases hl : k ∈ l <;> simp [hi, hl, Control.freed_freed]

theorem State.freePanes_cells (s : State) (l : List (Fin 32)) : (s.freePanes l).store.cells = s.store.cells :=
  foldl_keeps _ (fun s => s.store.cells) (fun s i => by rw [State.freePane_store]) l s

/-- R123: panes freed once each give back the extents they held. -/
theorem State.freePanes_freeList (s : State) {l : List (Fin 32)} (h : l.Nodup) :
    (s.freePanes l).store.freeList = returnExtents (l.filterMap fun i => (s.pane i).control.releasing?) s.store.freeList := by
  induction l generalizing s with
  | nil => rfl
  | cons i l ih =>
    obtain ⟨hi, hl⟩ := List.nodup_cons.1 h
    have hkept : (l.filterMap fun j => ((s.freePane i).pane j).control.releasing?) = l.filterMap fun j => (s.pane j).control.releasing? :=
      List.filterMap_congr fun j hj => by
        rw [State.freePane_pane, if_neg]
        rintro rfl
        exact hi hj
    refine (ih (s.freePane i) hl).trans ?_
    rw [hkept, State.freePane_store, List.filterMap_cons]
    cases (s.pane i).control.releasing? <;> rfl

theorem State.freePanes_keeps (s : State) (l : List (Fin 32)) :
    (s.freePanes l).stationId = s.stationId ∧ (s.freePanes l).link = s.link ∧ (s.freePanes l).tx = s.tx ∧ (s.freePanes l).ep = s.ep
    ∧ (s.freePanes l).mb = s.mb ∧ (s.freePanes l).palettes = s.palettes ∧ (s.freePanes l).raster = s.raster
    ∧ (s.freePanes l).host = s.host := by
  have := foldl_keeps State.freePane
    (fun s : State => (s.stationId, s.link, s.tx, s.ep, s.mb, s.palettes, s.raster, s.host)) (fun s i => by simp) l s
  simpa only [State.freePanes, Prod.mk.injEq] using this

/-! ### Batch records dropped (R58 step 6) -/

def State.dropRecords (s : State) (l : List Byte) : State := l.foldl State.dropRecord s

theorem State.dropRecords_eq (s : State) (l : List Byte) :
    s.dropRecords l = { s with tx := { s.tx with batches := s.tx.batches.filter fun b => decide (b.tag ∉ l) } } := by
  induction l generalizing s with
  | nil => simp [State.dropRecords]
  | cons g l ih =>
    refine (ih (s.dropRecord g)).trans ?_
    simp [State.dropRecord, List.filter_filter, Bool.and_comm]

/-! ### The panes and batches of a commit decision -/

/-- R58, step 5: the panes whose RELEASE entries stand in OPEN, in staging-queue order. -/
def State.releasedPanes (s : State) : List (Fin 32) := s.ep.openReleases.map fun r => paneIx r.1

/-- R58, step 6: the batches of this station with entries in OPEN, ascending. -/
def State.committedTags (s : State) : List Byte := s.tagsWhere fun b => s.ep.batchIn s.stationId b.tag .openE

/-- R116: the panes that this station releases at a commit decision, ascending. -/
def State.releasesDone (s : State) : List Byte :=
  ((List.finRange 32).filter fun i => (s.pane i).control.releasing?.isSome
    && s.ep.openReleases.any fun r => decide (paneIx r.1 = i) && decide (r.2 = s.stationId)).map fun i => byte i.val

theorem Epochs.mem_openReleases {e : Epochs} {p : Byte} {i : StationId} :
    (p, i) ∈ e.openReleases ↔ ∃ x ∈ e.staging, x.cls = .openE ∧ x.sender = i ∧ x.op = .release p := by
  rw [Epochs.openReleases, List.mem_filterMap]
  refine exists_congr fun x => and_congr_right fun _ => ?_
  obtain ⟨c, j, g, o⟩ := x
  cases c <;> cases o <;> simp [and_comm]

theorem State.mem_releasedPanes {s : State} {k : Fin 32} :
    k ∈ s.releasedPanes ↔ ∃ i, ∃ x ∈ s.ep.staging, x.cls = .openE ∧ x.sender = i ∧ ∃ b, x.op = .release b ∧ paneIx b = k := by
  simp only [State.releasedPanes, List.mem_map, Prod.exists, Epochs.mem_openReleases]
  constructor
  · rintro ⟨p, i, ⟨x, hx, hc, hs, ho⟩, hk⟩
    exact ⟨i, x, hx, hc, hs, p, ho, hk⟩
  · rintro ⟨i, x, hx, hc, hs, p, ho, hk⟩
    exact ⟨p, i, ⟨x, hx, hc, hs, ho⟩, hk⟩

theorem paneIx_byte (i : Fin 32) : paneIx (byte i.val) = i := by
  exact Fin.ext (by simp [paneIx, byte])

theorem byte_paneIx {g : Byte} (h : g.toNat < 32) : byte (paneIx g).val = g := by
  simp [byte, paneIx, Nat.mod_eq_of_lt h]

theorem State.mem_releasesDone {s : State} {g : Byte} : g ∈ s.releasesDone ↔ g.toNat < 32
    ∧ (∃ x ∈ s.ep.staging, x.cls = .openE ∧ x.sender = s.stationId ∧ ∃ b, x.op = .release b ∧ paneIx b = paneIx g)
    ∧ ∃ e, (s.pane (paneIx g)).control = .releasing e := by
  have hfreed (k : Fin 32) : ((s.pane k).control.releasing?.isSome
      && s.ep.openReleases.any fun r => decide (paneIx r.1 = k) && decide (r.2 = s.stationId)) = true
      ↔ (∃ x ∈ s.ep.staging, x.cls = .openE ∧ x.sender = s.stationId ∧ ∃ b, x.op = .release b ∧ paneIx b = k)
        ∧ ∃ e, (s.pane k).control = .releasing e := by
    simp only [Bool.and_eq_true, Option.isSome_iff_exists, Control.releasing?_iff, List.any_eq_true, Prod.exists, decide_eq_true_eq,
      Epochs.mem_openReleases]
    rw [and_comm]
    refine and_congr_left fun _ => ?_
    constructor
    · rintro ⟨p, i, ⟨x, hx, hc, hs, ho⟩, hk, hi⟩
      exact ⟨x, hx, hc, hs.trans hi, p, ho, hk⟩
    · rintro ⟨x, hx, hc, hs, p, ho, hk⟩
      exact ⟨p, x.sender, ⟨x, hx, hc, rfl, ho⟩, hk, hs⟩
  rw [State.releasesDone, List.mem_map]
  constructor
  · rintro ⟨k, hk, rfl⟩
    rw [paneIx_byte, byte_toNat (by omega)]
    exact ⟨k.isLt, (hfreed k).1 (List.mem_filter.1 hk).2⟩
  · rintro ⟨hlt, hg⟩
    exact ⟨paneIx g, List.mem_filter.2 ⟨List.mem_finRange _, (hfreed _).2 hg⟩, byte_paneIx hlt⟩

theorem State.committedTags_ascending (s : State) : s.committedTags.Pairwise (· < ·) :=
  List.Pairwise.filter _ (by decide)

theorem State.releasesDone_ascending (s : State) : s.releasesDone.Pairwise (· < ·) :=
  List.Pairwise.sublist (List.filter_sublist.map _) (by decide : ((List.finRange 32).map fun i => byte i.val).Pairwise (· < ·))

theorem State.mem_committedTags {s : State} {g : Byte} : g ∈ s.committedTags ↔
    g.toNat < 16 ∧ (∃ b ∈ s.tx.batches, b.tag = g) ∧ s.ep.batchIn s.stationId g .openE = true := by
  rw [State.committedTags, State.mem_tagsWhere]
  refine and_congr_right fun _ => ⟨?_, ?_⟩
  · rintro ⟨b, hb, rfl, hin⟩
    exact ⟨⟨b, hb, rfl⟩, hin⟩
  · rintro ⟨⟨b, hb, rfl⟩, hin⟩
    exact ⟨b, hb, rfl, hin⟩

/-! ### The decision before a transfer starts -/

/-- R58, step 6, and R116: the batches of this station committed and their records dropped, then its panes released. -/
def State.announced (s : State) (tags done : List Byte) : State :=
  let u := (s.postEach s.ep.openNum .batchCommitted tags).dropRecords tags
  u.postEach u.ep.openNum .releaseDone done

theorem State.announced_keeps (s : State) (tags done : List Byte) :
    (s.announced tags done).stationId = s.stationId ∧ (s.announced tags done).link = s.link ∧ (s.announced tags done).ep = s.ep
    ∧ (s.announced tags done).mb = s.mb ∧ (s.announced tags done).palettes = s.palettes ∧ (s.announced tags done).raster = s.raster
    ∧ (s.announced tags done).tx = { s.tx with batches := s.tx.batches.filter fun b => decide (b.tag ∉ tags) }
    ∧ (s.announced tags done).panes = s.panes ∧ (s.announced tags done).store = s.store := by
  simp [State.announced, State.dropRecords_eq]

/-- R60, R116: the events of a commit decision, in order. -/
theorem State.announced_posted (s : State) (tags done : List Byte) : s.posted (s.announced tags done)
    ((tags.map fun g => ⟨.batchCommitted, s.ep.openNum, g, 0, 0⟩) ++ done.map fun g => ⟨.releaseDone, s.ep.openNum, g, 0, 0⟩) := by
  let u := (s.postEach s.ep.openNum .batchCommitted tags).dropRecords tags
  have hdropped : s.posted u (tags.map fun g => ⟨.batchCommitted, s.ep.openNum, g, 0, 0⟩) := by
    simp only [u, State.dropRecords_eq]
    exact s.posted_postEach s.ep.openNum .batchCommitted tags
  have hnum : u.ep.openNum = s.ep.openNum := by simp [u, State.dropRecords_eq]
  have hlast : s.announced tags done = u.postEach s.ep.openNum .releaseDone done := congrArg (u.postEach · .releaseDone done) hnum
  rw [hlast]
  exact hdropped.each (by simp [u, State.dropRecords_eq]) s.ep.openNum .releaseDone done

/-- R58, steps 1 to 7. -/
def State.decided (s : State) : State :=
  (s.commitEpochs.freePanes s.releasedPanes).announced s.committedTags s.releasesDone

theorem State.commit_eq (s : State) : s.commit = s.decided.startTransfer.revote := by
  have hdone : ((List.finRange 32).filter fun i => (match (s.pane i).control with | .releasing _ => true | _ => false)
      && s.ep.openReleases.any fun r => decide (paneIx r.1 = i) && decide (r.2 = s.stationId)).map (fun i => byte i.val)
      = s.releasesDone :=
    congrArg _ (List.filter_congr fun i _ => by cases (s.pane i).control <;> rfl)
  have hfreed : s.ep.openReleases.foldl (fun u r => u.freePane (paneIx r.1)) s.commitEpochs = s.commitEpochs.freePanes s.releasedPanes :=
    List.foldl_map.symm
  rw [State.decided, ← hdone, ← hfreed]
  rfl

theorem State.decided_keeps (s : State) :
    s.decided.stationId = s.stationId ∧ s.decided.link = s.link ∧ s.decided.ep = s.commitEpochs.ep ∧ s.decided.mb = s.commitEpochs.mb
    ∧ s.decided.palettes = s.palettes ∧ s.decided.raster = s.raster
    ∧ s.decided.tx = { s.commitEpochs.tx with batches := s.tx.batches.filter fun b => decide (b.tag ∉ s.committedTags) }
    ∧ s.decided.panes = (s.commitEpochs.freePanes s.releasedPanes).panes
    ∧ s.decided.store = (s.commitEpochs.freePanes s.releasedPanes).store := by
  obtain ⟨hid, hlink, htx, hep, hmb, hpal, hraster, -⟩ := s.commitEpochs.freePanes_keeps s.releasedPanes
  have := (s.commitEpochs.freePanes s.releasedPanes).announced_keeps s.committedTags s.releasesDone
  rw [hid, hlink, htx, hep, hmb, hpal, hraster] at this
  exact this

theorem State.decided_posted (s : State) : s.posted s.decided
    ((s.committedTags.map fun g => ⟨.batchCommitted, s.ep.openNum + 1, g, 0, 0⟩)
      ++ s.releasesDone.map fun g => ⟨.releaseDone, s.ep.openNum + 1, g, 0, 0⟩) := by
  obtain ⟨-, -, -, hep, -, -, hraster, hhost⟩ := s.commitEpochs.freePanes_keeps s.releasedPanes
  have hposted := (s.commitEpochs.freePanes s.releasedPanes).announced_posted s.committedTags s.releasesDone
  rw [State.posted, hep, hraster, hhost] at hposted
  exact hposted

/-! ### The start of a transfer (R84) -/

/-- R84: a transfer's start writes the transfer, the source's snapshot position and the refusals of a snapshot packet. -/
theorem State.startTransfer_writes (s : State) :
    s.startTransfer.mb = { s.mb with transfer := s.startTransfer.mb.transfer, snapPos := s.startTransfer.mb.snapPos }
    ∧ s.startTransfer.tx = { s.tx with snapRefusals := s.startTransfer.tx.snapRefusals } := by
  rw [State.startTransfer]
  (repeat' split) <;> exact ⟨rfl, rfl⟩

/-- R84: the conditions of a start: the OPEN close set is empty and no entry stands in OPEN. -/
theorem State.startTransfer_starts {s : State} {j : StationId} {rest : List StationId} {src : StationId} (hj : s.mb.joinQueue = j :: rest)
    (hsrc : lowestId s.mb.roster = some src) (hclose : s.ep.openClose = 0) (hopen : ∀ x ∈ s.ep.staging, x.cls ≠ .openE) :
    s.startTransfer.mb = { s.mb with
      transfer := some ⟨j, src, 0, false⟩, snapPos := if src = s.stationId then some .head else s.mb.snapPos } := by
  rw [State.startTransfer, hj, hsrc]
  dsimp only
  rw [if_pos ⟨hclose, by simpa using hopen⟩]

theorem State.startTransfer_stays {s : State} (h : s.mb.joinQueue = [] ∨ s.ep.openClose ≠ 0 ∨ ∃ x ∈ s.ep.staging, x.cls = .openE) :
    s.startTransfer = s := by
  rw [State.startTransfer]
  split
  next j rest src hj hsrc =>
    refine if_neg fun ⟨hclose, hopen⟩ => ?_
    rcases h with h | h | ⟨x, hx, hc⟩
    · simp [h] at hj
    · exact h hclose
    · have : ∀ x ∈ s.ep.staging, x.cls ≠ .openE := by simpa using hopen
      exact this x hx hc
  next => rfl

/-! ### The commit decision as a whole -/

theorem Entry.promote_open {e : Entry} : e.promote.cls = .openE ↔ e.cls = .nextE := by
  obtain ⟨c, i, g, o⟩ := e
  cases c <;> simp [Entry.promote]

theorem Entry.promote_eq (e : Entry) :
    e.promote = { e with cls := match e.cls with | .openE => .applying | .nextE => .openE | .applying => .applying } := by
  obtain ⟨c, i, g, o⟩ := e
  cases c <;> rfl

theorem State.commit_frame (s : State) : s.commit.stationId = s.stationId ∧ s.commit.link = s.link ∧ s.commit.ep = s.commitEpochs.ep
    ∧ s.commit.palettes = s.palettes ∧ s.commit.raster = s.raster := by
  obtain ⟨hid, hlink, hep, -, hpal, hraster, -⟩ := s.decided_keeps
  simp [State.commit_eq, State.revote, hid, hlink, hep, hpal, hraster]

/-- R43: an empty OPEN is applied at once; otherwise its entries wait for the apply pass. -/
theorem State.commitEpochs_applied (s : State) :
    ((∀ x ∈ s.ep.staging, x.cls ≠ .openE) →
      s.commitEpochs.ep.applied = s.ep.openNum ∧ s.commitEpochs.ep.pendingApply = s.ep.pendingApply)
    ∧ ((¬ ∀ x ∈ s.ep.staging, x.cls ≠ .openE) →
      s.commitEpochs.ep.applied = s.ep.applied ∧ s.commitEpochs.ep.pendingApply = true) := by
  by_cases h : ∀ x ∈ s.ep.staging, x.cls ≠ .openE
  · have hany : (s.ep.staging.any fun e => decide (e.cls = .openE)) = false := by simpa using h
    exact ⟨fun _ => by simp [State.commitEpochs, hany], (absurd h ·)⟩
  · have hany : (s.ep.staging.any fun e => decide (e.cls = .openE)) = true := by simpa using h
    exact ⟨(absurd · h), fun _ => by simp [State.commitEpochs, hany]⟩

/-- R58, step 5: the panes of the RELEASE entries are freed. -/
theorem State.commit_pane (s : State) (k : Fin 32) : s.commit.pane k =
    if k ∈ s.releasedPanes then { s.pane k with control := (s.pane k).control.freed } else s.pane k := by
  have hpanes : s.commit.panes = (s.commitEpochs.freePanes s.releasedPanes).panes := by
    obtain ⟨-, -, -, -, -, -, -, hpanes, -⟩ := s.decided_keeps
    simp [State.commit_eq, State.revote, hpanes]
  rw [State.pane, hpanes]
  exact s.commitEpochs.freePanes_pane s.releasedPanes k

theorem State.commit_store (s : State) : s.commit.store = (s.commitEpochs.freePanes s.releasedPanes).store := by
  obtain ⟨-, -, -, -, -, -, -, -, hstore⟩ := s.decided_keeps
  simp [State.commit_eq, State.revote, hstore]

/-- R58, step 6: the records of the committed batches go. -/
theorem State.commit_tx (s : State) : s.commit.tx = { s.commitEpochs.tx with
    batches := s.tx.batches.filter fun b => decide (b.tag ∉ s.committedTags), snapRefusals := s.commit.tx.snapRefusals } := by
  obtain ⟨-, -, -, -, -, -, htx, -⟩ := s.decided_keeps
  have hwrites := s.decided.startTransfer_writes.2
  rw [htx] at hwrites
  rw [State.commit_eq]
  exact hwrites

theorem State.commit_mb (s : State) :
    s.commit.mb = { s.commitEpochs.mb with transfer := s.commit.mb.transfer, snapPos := s.commit.mb.snapPos } := by
  obtain ⟨-, -, -, hmb, -⟩ := s.decided_keeps
  have hwrites := s.decided.startTransfer_writes.1
  rw [hmb] at hwrites
  rw [State.commit_eq]
  exact hwrites

theorem State.commit_host {s : State} (h : s.host.events.length + s.committedTags.length + s.releasesDone.length ≤ 32) :
    s.commit.host = { s.host with events := s.host.events ++ ((s.committedTags.map fun g => ⟨.batchCommitted, s.ep.openNum + 1, g, 0, 0⟩)
      ++ s.releasesDone.map fun g => ⟨.releaseDone, s.ep.openNum + 1, g, 0, 0⟩) } := by
  have hposted := (s.decided_posted (by simp only [List.length_append, List.length_map]; omega)).1
  rw [State.commit_eq, ← hposted]
  simp [State.revote]

/-- R84, step 8: a transfer starts with the new OPEN empty and closed by nobody. -/
theorem State.commit_starts {s : State} {j : StationId} {rest : List StationId} {src : StationId} (hj : s.mb.joinQueue = j :: rest)
    (hsrc : lowestId s.mb.roster = some src) (hclose : s.ep.nextClose = 0) (hnext : ∀ x ∈ s.ep.staging, x.cls ≠ .nextE) :
    s.commit.mb.transfer = some ⟨j, src, 0, false⟩ ∧ (src = s.stationId → s.commit.mb.snapPos = some .head) := by
  obtain ⟨hid, -, hep, hmb, -⟩ := s.decided_keeps
  have hstarts := s.decided.startTransfer_starts (by rw [hmb]; exact hj) (by rw [hmb]; exact hsrc) (by rw [hep]; exact hclose)
    (by rw [hep]; simpa [State.commitEpochs, Entry.promote_open] using hnext)
  have hcommit : s.commit.mb = s.decided.startTransfer.mb := by rw [State.commit_eq]; rfl
  rw [hcommit, hstarts, hid]
  exact ⟨rfl, fun h => if_pos h⟩

theorem State.commit_stays {s : State} (h : s.mb.joinQueue = [] ∨ s.ep.nextClose ≠ 0 ∨ ∃ x ∈ s.ep.staging, x.cls = .nextE) :
    s.commit.mb = s.commitEpochs.mb := by
  obtain ⟨-, -, hep, hmb, -⟩ := s.decided_keeps
  have hstays := s.decided.startTransfer_stays (by
    rw [hep, hmb]
    refine h.imp id (Or.imp id ?_)
    rintro ⟨x, hx, hc⟩
    exact ⟨x.promote, List.mem_map_of_mem hx, Entry.promote_open.2 hc⟩)
  rw [State.commit_eq, hstays]
  exact hmb

/-- R57: a rise sampled high with no transfer and no batch caught short is the commit decision alone. -/
theorem State.memberRise_high {s : State} (ht : s.mb.transfer = none) (hs : s.shortBatches = []) : s.memberRise true = s.commit := by
  rw [State.memberRise, hs, ite_self, State.ageStep_none ht]
  rfl

/-- Settles O49: `exec` at this rise is `State.commit`, and its steps are the lemmas above. -/
theorem commitDecision : Obligations.CommitDecision := by
  intro s hm hb hq ht hs empty frees
  let rise : State := { s with link := { s.link with riseSample := none } }
  have hexec : exec .tlfRiseEffects s = .next rise.commit := by
    rw [(exec_tlfRiseEffects_quiet hq hb).1 hm]
    exact congrArg _ (State.memberRise_high (s := rise) ht hs)
  obtain ⟨hid, hlink, hep, hpal, hraster⟩ := rise.commit_frame
  have hfrees (k : Fin 32) : k ∈ rise.releasedPanes ↔ ∃ i, frees k i := State.mem_releasedPanes
  have hmb := rise.commit_mb
  have htx := rise.commit_tx
  refine ⟨rise.commit, rise.committedTags, rise.releasesDone, hexec, ?epochs, ?staging, ?emptied, ?filled, ?display, ?freed, ?kept, ?freeList,
    ?cells, hpal, hraster, ⟨rise.committedTags_ascending, fun g => State.mem_committedTags⟩,
    ⟨rise.releasesDone_ascending, fun g => State.mem_releasesDone⟩, fun hroom => State.commit_host hroom, ?tx, ?batches, ?mb,
    fun j rest src hj hsrc hclose hnext => State.commit_starts (s := rise) hj hsrc hclose hnext, fun hstay => ?stays, ?vote, hlink, hid⟩
  case epochs => rw [hep]; exact ⟨rfl, rfl, rfl, rfl, rfl, rfl⟩
  case staging => rw [hep]; exact List.map_congr_left fun x _ => x.promote_eq
  case emptied => rw [hep]; exact rise.commitEpochs_applied.1
  case filled => rw [hep]; exact rise.commitEpochs_applied.2
  case display =>
    intro k
    rw [rise.commit_pane]
    split <;> rfl
  case freed =>
    intro k e hk hf
    rw [rise.commit_pane, if_pos ((hfrees k).2 hf)]
    exact congrArg Control.freed hk
  case kept =>
    intro k hk
    rw [rise.commit_pane]
    split
    next hin =>
      have hnot : ∀ e, (s.pane k).control ≠ .releasing e := hk.resolve_right fun h => h ((hfrees k).1 hin)
      exact Control.freed_of_none (Option.eq_none_iff_forall_ne_some.2 fun e he => hnot e (Control.releasing?_iff.1 he))
    next => rfl
  case freeList =>
    intro hnodup
    rw [rise.commit_store, rise.commitEpochs.freePanes_freeList (l := rise.releasedPanes) hnodup, State.releasedPanes, List.filterMap_map]
    refine congrArg (List.foldl _ _) (List.filterMap_congr fun r _ => ?_)
    change ((s.pane (paneIx r.1)).control).releasing? = _
    cases (s.pane (paneIx r.1)).control <;> rfl
  case cells =>
    rw [rise.commit_store]
    exact rise.commitEpochs.freePanes_cells _
  case tx => rw [htx]; exact ⟨rfl, rfl, rfl, rfl, rfl, rfl, rfl⟩
  case batches =>
    intro b
    rw [htx]
    simp [rise]
  case mb => rw [hmb]; exact ⟨rfl, rfl, hm, rfl⟩
  case stays =>
    rw [State.commit_stays (s := rise) hstay]
    exact ⟨ht, rfl⟩
  case vote =>
    rw [State.commit_eq]
    rfl

end Sys2Proof.Machine
end

section
/-! PROOF. O23 and O24: GO-ONLINE, and GO-OFFLINE at an outsider. -/

namespace Sys2Proof.Machine

/-! ### A command at its instant of evaluation (R159) -/

/-- R159: in a transaction the port takes a command's effect and answers it. -/
theorem State.evaluate_command {s : State} (h : s.host.spi = .command) (n : Nat) (f : State → State × Status × List Byte) :
    s.evaluate n f = (f s).1.answered n (f s).2.1 (f s).2.2 := by
  rw [State.evaluate, if_pos h]
  rfl

/-! ### GO-ONLINE (R71, R139, R164) -/

/-- R22: a sender's waiting disconnection is cancelled, and any other link goes to WAIT_FREE. -/
theorem State.connect_eq (s : State) (r : Option LinkRate) : s.connect r = { s with
    link := if s.link.state = .transmitting then { s.link with disconnect := .cancelled, fairWait := false, rate := r }
      else { linkReset with state := .waitFree, rate := r } } := by
  rw [State.connect]
  by_cases hl : s.link.state = .transmitting
  · rw [if_pos (s.sending_iff.2 hl), if_pos hl]
  · rw [if_neg (mt s.sending_iff.1 hl), if_neg hl]

/-- R139: only a STOPPED raster is started. -/
theorem State.startRaster_eq (s : State) : s.startRaster = { s with
    raster := if s.raster.sync = .stopped then { s.raster with
        timing := s.raster.config, sync := .following, phase := some .front, holding := false, pulled := false, riseRead := false
        waiting := false, holdEnding := false }
      else s.raster } := by
  rw [State.startRaster]
  split <;> rfl

/-- Settles O23: the two refusals of R164, and LISTENING entered with the link connected and the raster started. -/
theorem goOnlineCommand : Obligations.GoOnlineCommand := by
  intro s hspi
  have hexec : exec .goOnline s = .next (s.goOnline.1.answered 0 s.goOnline.2.1 s.goOnline.2.2) :=
    congrArg _ (State.evaluate_command hspi 0 State.goOnline)
  refine ⟨fun hm => ?_, fun hm hc => ?_, fun f hm hc => ?_⟩
  · have hrefused : s.goOnline = s.answer .notOffline [] := if_pos hm
    rw [hexec, hrefused]
    rfl
  · have hrefused : s.goOnline = s.answer .notConfigured [] := by rw [State.goOnline, if_neg (not_not.2 hm), hc]
    rw [hexec, hrefused]
    rfl
  · have hgoes : s.goOnline = ((s.enterListening.connect (some f.linkRate)).startRaster, .ok, []) := by
      rw [State.goOnline, if_neg (not_not.2 hm), hc]
    rw [hexec, hgoes, State.startRaster_eq, State.connect_eq, ← hc]
    rfl

/-! ### GO-OFFLINE at an outsider (R40, R72) -/

/-- R22: a sender finishes its attempt before it disconnects. -/
theorem State.disconnect_sending {s : State} (h : s.link.state = .transmitting) :
    s.disconnect = { s with link := { s.link with disconnect := .wanted, fairWait := false } } :=
  if_pos (s.sending_iff.2 h)

/-- R22: any other station disconnects at once. -/
theorem State.disconnect_now {s : State} (h : s.link.state ≠ .transmitting) : s.disconnect = s.disconnectNow :=
  if_neg (mt s.sending_iff.1 h)

/-- R40, R72: an outsider purged and its Membership Unit cleared; a joiner's shared state is cleared as well (R94). -/
def State.outsiderCleared (s : State) : State :=
  { (if s.isJoiner then s.purge.clearShared.unlock else s.purge) with mb := membershipCleared .offline }

theorem State.outsiderOffline_eq (s : State) : s.outsiderOffline = s.outsiderCleared.disconnect.revote := rfl

/-- R94: what a joiner that leaves JOINING clears. -/
theorem State.outsiderCleared_joiner {s : State} (h : s.mb.state = .joining) :
    s.outsiderCleared = { s.purge.clearShared.unlock with mb := membershipCleared .offline } := by
  rw [State.outsiderCleared, if_pos (by simp [State.isJoiner, h])]

/-- R40: any other outsider keeps its shared state. -/
theorem State.outsiderCleared_other {s : State} (h : s.mb.state ≠ .joining) :
    s.outsiderCleared = { s.purge with mb := membershipCleared .offline } := by
  rw [State.outsiderCleared, if_neg (by simp [State.isJoiner, h])]

theorem State.outsiderCleared_keeps (s : State) :
    let u := s.outsiderCleared
    u.stationId = s.stationId ∧ u.link = s.link ∧ u.tx = s.purge.tx ∧ u.mb = membershipCleared .offline ∧ u.host = s.host
      ∧ u.freeCount = s.freeCount ∧ u.pending = s.pending ∧ u.pins.irqnLow = s.pins.irqnLow := by
  by_cases hj : s.mb.state = .joining
  · rw [State.outsiderCleared_joiner hj]; exact ⟨rfl, rfl, rfl, rfl, rfl, rfl, rfl, rfl⟩
  · rw [State.outsiderCleared_other hj]; exact ⟨rfl, rfl, rfl, rfl, rfl, rfl, rfl, rfl⟩

theorem State.goOffline_offline {s : State} (h : s.mb.state = .offline) : s.goOffline = s.answer .ok [] := by
  rw [State.goOffline, h]

theorem State.goOffline_outsider {s : State} (ho : s.mb.state ≠ .offline) (hm : s.mb.state ≠ .member) :
    s.goOffline = (s.outsiderOffline, .ok, []) := by
  rw [State.goOffline]
  split
  next h => exact absurd h ho
  next h => exact absurd h hm
  next => rfl

/-- Settles O24: the station is cleared first, and its link disconnected then, at once or after its attempt. -/
theorem goOfflineOutsider : Obligations.GoOfflineOutsider := by
  intro s hspi
  have hexec : exec .goOffline s = .next (s.goOffline.1.answered 0 s.goOffline.2.1 s.goOffline.2.2) :=
    congrArg _ (State.evaluate_command hspi 0 State.goOffline)
  refine ⟨fun ho => ?_, fun ho hm => ?_⟩
  · rw [hexec, State.goOffline_offline ho]
    rfl
  obtain ⟨hid, hlink, htx, hmb, hhost, hfree, hpend, hirq⟩ := s.outsiderCleared_keeps
  have hout : s.outsiderCleared.disconnect.mb.state ≠ .member := by simp [hmb, membershipCleared]
  have hnow (hl : s.link.state ≠ .transmitting) : s.outsiderCleared.disconnect = s.outsiderCleared.disconnectNow :=
    State.disconnect_now (by rwa [hlink])
  have hafter (hl : s.link.state = .transmitting) := State.disconnect_sending (s := s.outsiderCleared) (by rwa [hlink])
  refine ⟨s.outsiderCleared.disconnect.revote.answered 0 .ok [], ?exec, ?mb, ?queue, ?retracts, ?denials, ?joinDone, ?batches,
    fun hl => ?now, fun hl => ?after, fun hj => ?shared, fun hj => ?raster, fun hj => ?kept, State.voteLow_outsider hout, ?irq, ?host,
    ?id, ?free, ?pending⟩
  case exec => rw [hexec, State.goOffline_outsider ho hm, State.outsiderOffline_eq]
  case now => simp [State.answered, hnow hl, hlink, State.disconnectNow, State.releaseLink]
  case after => simp [State.answered, hafter hl, hlink]
  case shared => simp [State.answered, State.outsiderCleared_joiner hj, State.unlock, State.clearShared]
  case raster =>
    have hraster : s.outsiderCleared.disconnect.raster = s.outsiderCleared.raster := by simp
    refine ⟨by simp [State.answered, State.outsiderCleared_joiner hj, State.unlock], hraster.trans ?_⟩
    rw [State.outsiderCleared_joiner hj]
    rfl
  case kept => simp [State.answered, State.outsiderCleared_other hj, State.purge]
  all_goals simp [State.answered, hid, htx, hmb, hhost, hfree, hpend, hirq, State.purge, transmitterEmpty]

end Sys2Proof.Machine
end

section
/-! PROOF. O40 and O41: a JOIN and a JOIN-DONE delivered at a receiver and at their sender. -/

namespace Sys2Proof.Machine

/-! ### A JOIN (R78, R80, R81) -/

theorem readJoin_bytes (d : Half) (l : Byte) : readJoin (halfBytes d ++ [l]) = some (d, l) := by
  simp [readJoin, halfBytes, halfOf_bytes]

/-- R80: the reasons of a denial, each with the checks before it passed. -/
def State.deniedFor (s : State) (i : StationId) (d : Half) (l : Byte) (r : DenyReason) : Prop :=
  (r = .duplicateId ∧ idIn i s.mb.roster = true)
  ∨ (r = .font ∧ idIn i s.mb.roster = false ∧ d ≠ s.raster.fontDigest)
  ∨ (r = .level ∧ idIn i s.mb.roster = false ∧ d = s.raster.fontDigest ∧ l ≠ 1)

section
variable {s : State} {i : StationId} {d : Half} {l : Byte}

theorem State.joinOutcome_denied {r : DenyReason} (h : s.deniedFor i d l r) : s.joinOutcome i d l = .denied r := by
  rcases h with ⟨rfl, hi⟩ | ⟨rfl, hi, hd⟩ | ⟨rfl, hi, hd, hl⟩
  · simp [State.joinOutcome, hi]
  · simp [State.joinOutcome, hi, hd]
  · have hlevel : l ≠ Config.protocolLevel := hl
    simp [State.joinOutcome, hi, hd, hlevel]

theorem State.joinOutcome_passed (hi : idIn i s.mb.roster = false) (hd : d = s.raster.fontDigest) (hl : l = 1) :
    s.joinOutcome i d l = if i ∈ s.mb.joinQueue then .queued else .appended := by
  simp [State.joinOutcome, hi, hd, Config.protocolLevel, hl]

theorem State.deliverJoin_denied {r : DenyReason} (h : s.deniedFor i d l r) :
    s.deliverJoin i (halfBytes d ++ [l]) = s.raiseDenial i r := by
  simp only [State.deliverJoin, readJoin_bytes, State.joinOutcome_denied h]

theorem State.deliverJoin_queued (hi : idIn i s.mb.roster = false) (hd : d = s.raster.fontDigest) (hl : l = 1)
    (hq : i ∈ s.mb.joinQueue) : s.deliverJoin i (halfBytes d ++ [l]) = s := by
  simp only [State.deliverJoin, readJoin_bytes, State.joinOutcome_passed hi hd hl, if_pos hq]

theorem State.deliverJoin_appended (hi : idIn i s.mb.roster = false) (hd : d = s.raster.fontDigest) (hl : l = 1)
    (hq : i ∉ s.mb.joinQueue) :
    s.deliverJoin i (halfBytes d ++ [l]) = { s with mb := { s.mb with joinQueue := s.mb.joinQueue ++ [i] } } := by
  simp only [State.deliverJoin, readJoin_bytes, State.joinOutcome_passed hi hd hl, if_neg hq]

/-- R31, R81: the lowest-id member raises a JOIN-DENY in room for 16. -/
theorem State.raiseDenial_raises (hlow : s.isLowest = true) (hroom : s.tx.denials.length < 16) (r : DenyReason) :
    s.raiseDenial i r = { s with tx := { s.tx with denials := s.tx.denials ++ [⟨i, r, 0⟩] } } :=
  if_pos ⟨hlow, hroom⟩

theorem State.raiseDenial_none (h : s.isLowest = false ∨ 16 ≤ s.tx.denials.length) (r : DenyReason) : s.raiseDenial i r = s := by
  refine if_neg fun ⟨hlow, hroom⟩ => ?_
  have hroom : s.tx.denials.length < 16 := hroom
  rcases h with h | h
  · simp [h] at hlow
  · omega

end

/-! ### A station's own JOIN and JOIN-DENY (R15, R31, R35) -/

/-- R15: a packet an observer takes from itself goes to its Membership Unit, and its attempt is reported taken. -/
theorem exec_taken_ownObserved {s : State} (hl : s.link.state = .transmitting) (hr : s.link.role = some .observer)
    (hs : s.link.slot = .pending) (hd : s.link.decision = none) (k : Kind) (i : StationId) (p : List Byte) :
    exec (k.taken i p) s = .next (s.slotPassed.observe k i p).reported := by
  have hv : ¬ s.slotPassed.delivers = true := by simp [State.delivers, State.slotPassed, hr]
  have ho : s.slotPassed.link.role = some .observer := hr
  rw [exec_taken, State.take, State.taking_sender (State.slotMayPass_observer (.inl hl) hs hr hd) (s.sending_iff.2 hl), if_neg hv,
    if_pos ho]

/-- R14, R15: the slot read at a sender that observes its own JOIN: the packet in its buffer tells it nothing. -/
theorem exec_observerReceipt_ownJoin {s : State} (hl : s.link.state = .transmitting) (hr : s.link.role = some .observer)
    (hs : s.link.slot = .pending) (hd : s.link.decision = none) {c : Candidate} {pkt : Packet}
    (ha : s.tx.attempt = some ⟨c, pkt, true⟩) (hk : (pkt.cls, pkt.kind) = Kind.join.code) {rx : RxPacket}
    (hrx : (rx.computed ≠ rx.check ∨ 33 ≤ rx.length.toNat) ∨ rx.kind? = some .join) :
    exec (.observerReceipt true rx) s = .next (s.slotPassed.buffers rx).reported := by
  have hfound : (s.sending && decide (s.tx.attempt.map (fun a => (a.packet.cls, a.packet.kind)) = some Kind.found.code)) = false := by
    simp only [ha, Option.map_some, hk]
    simp [Kind.code]
  rw [exec, execObserverReceipt, if_pos hr, if_pos rfl, State.observeReceipt, hfound,
    State.taking_sender (State.slotMayPass_observer (.inl hl) hs hr hd) (s.sending_iff.2 hl)]
  refine congrArg (fun t : State => Host.Outcome.next t.reported) ?_
  dsimp only
  by_cases hgood : rx.checkOk = true ∧ rx.lengthOk = true
  · rw [if_pos hgood, hrx.resolve_left fun h => RxPacket.not_good h hgood]
    rfl
  · rw [if_neg hgood]
    rfl

/-- R31, R35: a JOIN-DENY reported taken clears the oldest denial. -/
theorem State.reported_joinDeny {s : State} {p : Packet} (ha : s.tx.attempt = some ⟨.joinDeny, p, true⟩) (hd : s.link.disconnect = .no) :
    s.reported = ({ s with tx := { s.tx with denials := s.tx.denials.tail } } : State).reportedTaken := by
  have hl : s.reportTaken.link.disconnect = .no := by simpa using hd
  rw [State.reported, hl, State.reportTaken, ha]
  rfl

/-- Settles O40: the sender's two reports, and each outcome of R80 by its own equation. -/
theorem joinDelivery : Obligations.JoinDelivery := by
  refine ⟨fun s i p pkt hl hr hs hd hdisc ha hk => ⟨?_, fun rx hrx => ?_⟩, fun s d rest p hs hm hden => ?_,
    fun s i d l hadm hm => ?_⟩
  · refine (exec_taken_ownObserved hl hr hs hd .join i p).trans (congrArg _ ?_)
    exact State.reported_head (s := s.slotPassed) ha hdisc
  · refine (exec_observerReceipt_ownJoin hl hr hs hd ha hk (or_assoc.2 hrx)).trans (congrArg _ ?_)
    exact State.reported_head (s := s.slotPassed.buffers rx) ha hdisc
  · obtain ⟨pkt, hatt⟩ := hs.attempt
    refine (exec_taken_sendingOwn hs hm .joinDeny s.stationId p).trans (congrArg _ ?_)
    refine (State.reported_joinDeny (s := s.slotPassed) hatt hs.disconnect).trans ?_
    have htail : s.slotPassed.tx.denials.tail = rest := by rw [State.slotPassed, hden]; rfl
    rw [htail]
    rfl
  intro p why
  have delivered {t : State} (h : s.slotPassed.deliverJoin i p = t) : exec (.joinTaken i p) s = .next t :=
    (exec_taken_admitted hadm hm .join i p).trans (congrArg _ h)
  refine ⟨?_, fun r hr hlow hroom => ?_, fun r hr h => ?_, fun hi hd hl hq => ?_, fun hi hd hl hq => ?_, fun j q => ?_⟩
  · rw [delivered rfl]
    refine (exec_taken_admitted hadm hm .found i p).trans (congrArg _ (if_neg ?_))
    simp [State.admitted_sentHere hadm]
  · exact delivered ((State.deliverJoin_denied (s := s.slotPassed) hr).trans (State.raiseDenial_raises (s := s.slotPassed) hlow hroom r))
  · exact delivered ((State.deliverJoin_denied (s := s.slotPassed) hr).trans (State.raiseDenial_none (s := s.slotPassed) h r))
  · exact delivered (State.deliverJoin_queued (s := s.slotPassed) hi hd hl hq)
  · exact delivered (State.deliverJoin_appended (s := s.slotPassed) hi hd hl hq)
  · exact exec_taken_admitted hadm hm .joinDeny j q

end Sys2Proof.Machine
end

section
/-! PROOF. O41: a JOIN-DONE delivered at a receiver and at its sender. -/

namespace Sys2Proof.Machine

/-! ### A taken packet at any evaluator (R12, R14) -/

/-- R14: an evaluator that is neither a member nor in JOINING any more hands another station's packet to nobody. -/
theorem exec_taken_received {s : State} (h : s.admitted) (k : Kind) (i : StationId) (p : List Byte) :
    exec (k.taken i p) s = .next (if s.slotPassed.delivers then k.deliver i p s.slotPassed else s.slotPassed) := by
  obtain ⟨hl, hr, hs, d, hd, href⟩ := h
  have ho : ¬ s.slotPassed.link.role = some .observer := by simp [State.slotPassed, hr]
  rw [exec_taken, State.take,
    State.taking_receiver (State.slotMayPass_evaluator (.inr hl) hs hd href) (by simp [State.sending, hl]), if_neg ho]

/-- R14, R35: nor its own, which it reports taken. -/
theorem exec_taken_sent {s : State} (hl : s.link.state = .transmitting) (hr : s.link.role = some .evaluator)
    (hs : s.link.slot = .pending) {d : Admission} (hd : s.link.decision = some d) (href : d.refuse = false) (k : Kind) (i : StationId)
    (p : List Byte) :
    exec (k.taken i p) s = .next (if s.slotPassed.delivers then k.deliver i p s.slotPassed else s.slotPassed).reported := by
  have ho : ¬ s.slotPassed.link.role = some .observer := by simp [State.slotPassed, hr]
  rw [exec_taken, State.take, State.taking_sender (State.slotMayPass_evaluator (.inl hl) hs hd href) (s.sending_iff.2 hl), if_neg ho]

/-- R14: another station's packet whose delivery has no effect. -/
theorem exec_taken_ignored {s : State} (h : s.admitted) {k : Kind} {i : StationId} {p : List Byte}
    (hd : k.deliver i p s.slotPassed = s.slotPassed) : exec (k.taken i p) s = .next s.slotPassed := by
  rw [exec_taken_received h, hd, ite_self]

/-- R14, R35: an own packet at a member or the joiner. -/
theorem exec_taken_own {s : State} {c : Candidate} (h : s.sendingOwn c) (hm : s.mb.state = .member ∨ s.mb.state = .joining) (k : Kind)
    (i : StationId) (p : List Byte) : exec (k.taken i p) s = .next (k.deliver i p s.slotPassed).reported := by
  obtain ⟨hl, hr, hs, -, ⟨d, hd, href⟩, -⟩ := h
  rw [exec_taken_sent hl hr hs hd href, if_pos (State.slotPassed_delivers hr hm)]

/-- R40: what a report changes where the Transmitter no longer holds the packet. -/
theorem State.reported_gone {s : State} (h : s.tx.attempt.all (fun a => !a.live) = true) : s.reported = { s with
    tx := { s.reportedTaken.tx with attempt := none }
    link := { s.link with fairWait := decide (s.link.disconnect = .no) } } := by
  have hl : s.reportTaken.link = s.link := by simp
  rw [State.reported, hl, State.reportTaken]
  cases ha : s.tx.attempt with
  | none => rfl
  | some a =>
    have hlive : a.live = false := by simpa [ha] using h
    simp only [hlive]
    rfl

/-! ### A JOIN-DONE (R89, R180) -/

theorem readJoinDone_ok (e : Half) : readJoinDone (halfBytes e ++ [0]) = some (e, true) := by
  simp [readJoinDone, halfBytes, halfOf_bytes]

theorem readJoinDone_fail (e : Half) : readJoinDone (halfBytes e ++ [1]) = some (e, false) := by
  simp [readJoinDone, halfBytes, halfOf_bytes]

/-- R180: a status byte above 1 names no status. -/
theorem readJoinDone_void (e : Half) {b : Byte} (h : 2 ≤ b.toNat) : readJoinDone (halfBytes e ++ [b]) = none := by
  have h0 : b ≠ 0 := by rintro rfl; exact absurd h (by decide)
  have h1 : b ≠ 1 := by rintro rfl; exact absurd h (by decide)
  simp only [readJoinDone, halfBytes, List.cons_append, List.nil_append, if_neg h0, if_neg h1]

theorem State.joinDoneValid_iff (s : State) (i : StationId) (e : Half) : s.joinDoneValid i e = true ↔
    ∃ tr, s.mb.transfer = some tr ∧ tr.joiner = i ∧ tr.headTaken = true ∧ e = s.ep.openNum := by
  rw [State.joinDoneValid]
  cases s.mb.transfer <;> simp [and_assoc]

/-- R89: a JOIN-DONE that fails a check, or names no status, has no effect. -/
theorem State.deliverJoinDone_void {s : State} {i : StationId} {p : List Byte}
    (h : ∀ e b, readJoinDone p = some (e, b) → s.joinDoneValid i e = false) : s.deliverJoinDone i p = s := by
  rw [State.deliverJoinDone]
  cases hp : readJoinDone p with
  | none => rfl
  | some x => simp [h x.1 x.2 hp]

/-- Section 10.1: whatever its status, a JOIN-DONE carries the epoch formed. -/
theorem readJoinDone_epoch {e e' : Half} {b : Byte} {good : Bool} (h : readJoinDone (halfBytes e ++ [b]) = some (e', good)) : e' = e := by
  simp only [readJoinDone, halfBytes, List.cons_append, List.nil_append, halfOf_bytes] at h
  split at h
  · cases h; rfl
  split at h
  · cases h; rfl
  · cases h

/-- R180: a status that names no value makes it void. -/
theorem State.deliverJoinDone_noStatus (s : State) (i : StationId) (e : Half) {b : Byte} (h : 2 ≤ b.toNat) :
    s.deliverJoinDone i (halfBytes e ++ [b]) = s := by
  simp only [State.deliverJoinDone, readJoinDone_void e h]

section
variable {s : State} {i : StationId} {e : Half}

theorem State.deliverJoinDone_ok (h : s.joinDoneValid i e = true) : s.deliverJoinDone i (halfBytes e ++ [0]) = s.admitJoiner i := by
  simp only [State.deliverJoinDone, readJoinDone_ok, h]
  rfl

theorem State.deliverJoinDone_fail (h : s.joinDoneValid i e = true) : s.deliverJoinDone i (halfBytes e ++ [1])
    = if s.isJoiner then s.removeSelf .transferAbandoned 0 false else s.endTransfer.revote := by
  simp only [State.deliverJoinDone, readJoinDone_fail, h]
  rfl

end

/-- R83, R89: the transfer ended with its joiner in the roster. -/
def State.joins (s : State) (i : StationId) : State :=
  { s.endTransfer with mb := { s.endTransfer.mb with roster := idAdd i s.mb.roster } }

/-- R81: a member that is not the lowest of its roster drops its denials. -/
theorem State.dropDenials_member {s : State} (hm : s.mb.state = .member) : s.dropDenials
    = { s with tx := { s.tx with denials := if lowestId s.mb.roster = some s.stationId then s.tx.denials else [] } } := by
  have hlow : s.isLowest = decide (lowestId s.mb.roster = some s.stationId) := by simp [State.isLowest, State.isMember, hm]
  rw [State.dropDenials, hlow]
  by_cases h : lowestId s.mb.roster = some s.stationId <;> simp [h]

/-- R89: at a member the transfer ends, the joiner's id joins the roster, and MEMBER_JOINED is posted. -/
theorem State.admitJoiner_member {s : State} (hm : s.mb.state = .member) (hroom : s.host.events.length < 32) (i : StationId) :
    s.admitJoiner i
      = (let u : State := { s.joins i with
          tx := { s.tx with denials := if lowestId (idAdd i s.mb.roster) = some s.stationId then s.tx.denials else [] } }
         ({ u with pins := { u.pins with tlvLow := u.voteLow } } : State).withEvent .memberJoined (idByte i) 0 0) := by
  have hj : s.isJoiner = false := by simp [State.isJoiner, hm]
  have hposted : (s.joins i).post .memberJoined (idByte i) 0 0 = (s.joins i).withEvent .memberJoined (idByte i) 0 0 :=
    State.post_of_room (by exact hroom) _ _ _ _
  have hdropped := State.dropDenials_member (s := (s.joins i).withEvent .memberJoined (idByte i) 0 0) hm
  calc s.admitJoiner i = ((s.joins i).post .memberJoined (idByte i) 0 0).dropDenials.revote := by rw [State.admitJoiner, hj]; rfl
    _ = _ := by rw [hposted, hdropped]; rfl

/-- R89: the joiner's own part of it: it is a member, with no assembly. -/
def State.entersGroup (s : State) (i : StationId) : State :=
  { s.joins i with mb := { (s.joins i).mb with state := .member, assembly := none } }

/-- R89: at the joiner MEMBER is entered and JOINED posted. -/
theorem State.admitJoiner_joiner {s : State} (hm : s.mb.state = .joining) (hroom : s.host.events.length < 32) (i : StationId) :
    s.admitJoiner i = ({ s.entersGroup i with
      pins := { (s.entersGroup i).pins with tlvLow := (s.entersGroup i).voteLow } } : State).withEvent .joined 0 0 0 := by
  have hj : s.isJoiner = true := by simp [State.isJoiner, hm]
  have hposted : (s.entersGroup i).post .joined 0 0 0 = (s.entersGroup i).withEvent .joined 0 0 0 :=
    State.post_of_room (by exact hroom) _ _ _ _
  calc s.admitJoiner i = ((s.entersGroup i).post .joined 0 0 0).revote := by rw [State.admitJoiner, hj]; rfl
    _ = _ := by rw [hposted]; rfl

/-- R35, R88: a JOIN-DONE reported taken is cleared. -/
theorem State.reported_joinDone {s : State} {p : Packet} (ha : s.tx.attempt = some ⟨.joinDone, p, true⟩) (hd : s.link.disconnect = .no) :
    s.reported = ({ s with tx := { s.tx with joinDone := none } } : State).reportedTaken := by
  have hl : s.reportTaken.link.disconnect = .no := by simpa using hd
  rw [State.reported, hl, State.reportTaken, ha]
  rfl

/-! ### A station's own removal while it sends (R40, R94) -/

/-- R40: a removal leaves the attempt in progress, no longer held. -/
theorem State.removeSelf_attempt (s : State) (cause : EventKind) (arg : Byte) (o : Bool) :
    (s.removeSelf cause arg o).tx.attempt = s.tx.attempt.map fun a => { a with live := false } := by
  simp only [State.removeSelf]
  cases o <;> cases s.isMember <;> simp [State.purge, Transmitter.dropAttempt]

/-- R94: the report of that attempt changes nothing of what the removal left. -/
theorem State.leftGroup.reported {s t : State} {cause : EventKind} {arg : Byte} {next : MemberState} (h : s.leftGroup t cause arg next)
    (ha : t.tx.attempt.all (fun a => !a.live) = true) : s.leftGroup t.reported cause arg next := by
  obtain ⟨hmb, ⟨hq, hr, hden, hjd, hb, hco, hcn, hsn⟩, hrest⟩ := h
  rw [State.reported_gone ha]
  exact ⟨hmb, ⟨hq, hr, hden, hjd, by simp [State.reportedTaken, hb], hco, hcn, hsn⟩, hrest⟩

theorem State.removeSelf_gone (s : State) (cause : EventKind) (arg : Byte) (o : Bool) :
    (s.removeSelf cause arg o).tx.attempt.all (fun a => !a.live) = true := by
  rw [State.removeSelf_attempt]
  cases s.tx.attempt <;> rfl

/-- Settles O41: a JOIN-DONE that passes R89 by its status and the station's membership; any other has no effect. -/
theorem joinDoneDelivery : Obligations.JoinDoneDelivery := by
  refine ⟨fun s i p ha ht => ?_, fun s i p a hl hr hs ⟨d, hd, href⟩ hm hj hatt hlive => ?_, fun s i e b hb => ⟨fun ha => ?_, fun hs => ?_⟩,
    fun s i e tr ht => ?_⟩
  · refine exec_taken_ignored ha (k := .joinDone) (State.deliverJoinDone_void fun e b _ => ?_)
    simp [State.joinDoneValid, State.slotPassed, ht]
  · have hv : s.slotPassed.delivers = false := by
      simp [State.delivers, State.slotPassed, State.evaluates, State.isMember, State.isJoiner, hm, hj]
    have hgone : s.slotPassed.tx.attempt.all (fun a => !a.live) = true := by simp [State.slotPassed, hatt, hlive]
    refine ⟨_, exec_taken_sent hl hr hs hd href .joinDone i p, ?_⟩
    rw [hv, if_neg Bool.false_ne_true, State.reported_gone hgone]
    exact ⟨rfl, rfl, rfl, rfl, rfl, rfl, rfl⟩
  · exact exec_taken_ignored ha (k := .joinDone) (State.deliverJoinDone_noStatus _ i e hb)
  · obtain ⟨pkt, hatt⟩ := hs.attempt
    obtain ⟨hl, hr, hslot, hdisc, ⟨d, hd, href⟩, -⟩ := hs
    refine (exec_taken_sent hl hr hslot hd href .joinDone i _).trans (congrArg _ ?_)
    rw [Kind.deliver, State.deliverJoinDone_noStatus _ i e hb, ite_self]
    exact State.reported_joinDone (s := s.slotPassed) hatt hdisc
  intro ends
  have valid (hi : tr.joiner = i) (hh : tr.headTaken = true) (he : e = s.ep.openNum) : s.slotPassed.joinDoneValid i e = true :=
    (State.joinDoneValid_iff _ i e).2 ⟨tr, ht, hi, hh, he⟩
  refine ⟨fun ha hm hv b => ?_, fun ha hm hi hh he => ⟨fun hroom => ?_, ?_⟩, fun hs hm hown hi hh he hroom => ?_⟩
  · refine exec_taken_ignored ha (k := .joinDone) (State.deliverJoinDone_void fun e' good hp => ?_)
    rw [readJoinDone_epoch hp, ← Bool.not_eq_true, State.joinDoneValid_iff]
    rintro ⟨tr', ht', hi, hh, he⟩
    cases ht.symm.trans ht'
    rcases hv with hv | hv | hv
    · exact hv hi
    · simp [hh] at hv
    · exact hv he
  · refine (exec_taken_admitted ha (.inl hm) .joinDone i _).trans (congrArg _ ?_)
    exact (State.deliverJoinDone_ok (valid hi hh he)).trans (State.admitJoiner_member (s := s.slotPassed) hm hroom i)
  · have hj : s.slotPassed.isJoiner = false := by simp [State.isJoiner, State.slotPassed, hm]
    refine (exec_taken_admitted ha (.inl hm) .joinDone i _).trans (congrArg _ ?_)
    rw [Kind.deliver, State.deliverJoinDone_fail (valid hi hh he), hj]
    rfl
  · obtain ⟨pkt, hatt⟩ := hs.attempt
    have hj : s.slotPassed.isJoiner = true := by simp [State.isJoiner, State.slotPassed, hm]
    have hexec (b : Byte) := exec_taken_own hs (.inr hm) .joinDone i (halfBytes e ++ [b])
    refine ⟨(hexec 0).trans (congrArg _ ?_), _, hexec 1, ?_⟩
    · rw [Kind.deliver, State.deliverJoinDone_ok (valid hi hh he), State.admitJoiner_joiner (s := s.slotPassed) hm hroom]
      exact State.reported_joinDone (by exact hatt) (by exact hs.disconnect)
    · rw [Kind.deliver, State.deliverJoinDone_fail (valid hi hh he), if_pos hj]
      have hgone := s.slotPassed.removeSelf_gone .transferAbandoned 0 false
      refine ⟨(s.slotPassed.removeSelf_leftGroup .transferAbandoned 0 false).reported hgone, ?_⟩
      rw [State.reported_gone hgone, State.removeSelf_link_listening]
      simp [State.slotPassed, hs.disconnect]

end Sys2Proof.Machine
end

section
/-! PROOF. O42: a LEAVE delivered at the other members and at its sender. -/

namespace Sys2Proof.Machine

/-! ### A member's removal (R93, R109) -/

/-- R93, R109: one member removed from the staging queue: its entries in OPEN and NEXT go. -/
theorem State.without_one_staging (s : State) (i : StationId) : (s.without (idSet i)).ep.staging
    = s.ep.staging.filter fun x => !(decide (x.cls ≠ .applying) && decide (x.sender = i)) := by
  simp only [State.without, idIn_idSet]
  rfl

/-- R109: the RELEASE entry of a pane that goes with one member. -/
theorem Epochs.loses_one (e : Epochs) (i : StationId) (k : Fin 32) : e.loses (idSet i) k = true ↔
    ∃ y ∈ e.staging, y.cls ≠ .applying ∧ y.sender = i ∧ ∃ b, y.op = .release b ∧ paneIx b = k := by
  simp [Epochs.loses, Entry.gathering, Entry.releases_iff, and_assoc]

/-- R92, R93: another member's LEAVE, with room for its record. -/
theorem State.deliverLeave_other {s : State} {i : StationId} (hm : s.mb.state = .member) (hi : idIn i s.mb.roster = true)
    (hne : i ≠ s.stationId) (hroom : s.host.events.length < 32) :
    s.deliverLeave i = ((s.without (idSet i)).withEvent .memberLeft (idByte i) 0 0).revote := by
  rw [State.deliverLeave, if_neg (by simp [hi]), if_neg fun h => hne h.2, State.removeOther_eq (by simp [State.isMember, hm]),
    State.post_of_room (by exact hroom)]

/-- R92, R94: a station's own LEAVE. -/
theorem State.deliverLeave_own {s : State} (hm : s.mb.state = .member) (hi : idIn s.stationId s.mb.roster = true) :
    s.deliverLeave s.stationId = s.removeSelf .memberLeft (idByte s.stationId) true := by
  rw [State.deliverLeave, if_neg (by simp [hi]), if_pos ⟨by simp [State.isMember, hm], rfl⟩]

/-- R22, R94: a removal to OFFLINE while the station sends leaves the disconnection waiting. -/
theorem State.removeSelf_link_waiting {s : State} (h : s.link.state = .transmitting) (cause : EventKind) (arg : Byte) :
    (s.removeSelf cause arg true).link = { s.link with disconnect := .wanted, fairWait := false } := by
  obtain ⟨-, hlink, -⟩ := s.removalPosted_keeps cause arg
  have hcleared : (s.removalPosted cause arg).cleared.link = s.link := hlink
  rw [State.removeSelf_posted, if_pos rfl, State.revote_link, State.disconnect, if_pos ((State.sending_iff _).2 (by rwa [hcleared])),
    hcleared]

/-- Settles O42: at the others the removal of one member, at the sender its own removal, and then its report. -/
theorem leaveDelivery : Obligations.LeaveDelivery := by
  intro s i
  refine ⟨fun ha hm hi hne hroom => ?_, fun hs hm hown hi => ?_⟩
  · have hexec := exec_taken_admitted ha (.inl hm) .leave i []
    rw [Kind.deliver, State.deliverLeave_other (s := s.slotPassed) hm hi hne hroom] at hexec
    let t := ((s.slotPassed.without (idSet i)).withEvent .memberLeft (idByte i) 0 0).revote
    have hpane (k : Fin 32) : t.pane k
        = { s.pane k with control := (s.pane k).control.without (fun j => idIn j (idSet i)) (s.ep.loses (idSet i) k) } :=
      s.slotPassed.without_pane (idSet i) k
    refine ⟨t, hexec, rfl, ?_, fun k => ?_, fun k o x hc => ?_, fun k x hc => ?_, fun k hc => ?_, rfl, rfl, rfl, rfl, rfl, rfl, rfl, rfl⟩
    · exact congrArg (fun l => ({ (s.without (idSet i)).ep with staging := l } : Epochs)) (s.without_one_staging i)
    · rw [hpane]
    · simp [hpane, hc, Control.without]
    · rw [hpane, hc]
      exact if_congr (s.ep.loses_one i k) rfl rfl
    · rw [hpane]
      obtain hc | ⟨x, hc⟩ := hc <;> rw [hc] <;> rfl
  · subst hown
    obtain ⟨hl, -⟩ := id hs
    have hgone := s.slotPassed.removeSelf_gone .memberLeft (idByte s.stationId) true
    have hown : s.slotPassed.deliverLeave s.stationId = s.slotPassed.removeSelf .memberLeft (idByte s.stationId) true :=
      State.deliverLeave_own (s := s.slotPassed) hm hi
    refine ⟨_, exec_taken_sendingOwn hs hm .leave s.stationId [], ?_⟩
    rw [Kind.deliver, hown]
    refine ⟨(s.slotPassed.removeSelf_leftGroup .memberLeft (idByte s.stationId) true).reported hgone, ?_⟩
    rw [State.reported_gone hgone, State.removeSelf_link_waiting (s := s.slotPassed) hl]
    exact ⟨rfl, rfl⟩

end Sys2Proof.Machine
end

section
/-! PROOF. O48: the snapshot packets at their source, at the other members and at the joiner. -/

namespace Sys2Proof.Machine

/-! ### The source's own packets (R85) -/

/-- R85: the number of SNAP-FREE packets. -/
theorem chunkCount_eq (fl : List Extent) : chunkCount fl = if fl = [] then 1 else (fl.length + 6) / 7 := by
  cases fl <;> rfl

/-- R35, R85: a snapshot packet reported taken moves the snapshot position on. -/
theorem State.reported_snapshot {s : State} {p : Packet} (ha : s.tx.attempt = some ⟨.snapshot, p, true⟩) (hd : s.link.disconnect = .no)
    {pos : SnapPos} (hp : s.mb.snapPos = some pos) : s.reported = ({ s with
      mb := { s.mb with snapPos := pos.advance s.store.freeList }, tx := { s.tx with snapRefusals := 0 } } : State).reportedTaken := by
  have hl : s.reportTaken.link.disconnect = .no := by simpa using hd
  rw [State.reported, hl, State.reportTaken, ha]
  simp only [hp]
  rfl

/-! ### A snapshot packet at a member (R86, R87) -/

section
variable {s : State} {i : StationId} {p : List Byte}

/-- R86: a SNAP-HEAD that passes sets the head-taken flag and the age. -/
theorem State.deliverHead_passes (hm : s.mb.state = .member) {tr : Transfer} {h : SnapHead} (ht : s.mb.transfer = some tr)
    (hp : readSnapHead p = some h) (hsrc : tr.source = i) (hnew : tr.headTaken = false) (hj : h.joiner = idByte tr.joiner)
    (hn : h.openNum = s.ep.openNum) :
    s.deliverHead i p = { s with mb := { s.mb with transfer := some { tr with headTaken := true, age := 0 } } } := by
  simp [State.deliverHead, State.isJoiner, State.isMember, hm, ht, hp, hsrc, hnew, hj, hn]

theorem State.deliverHead_void (hm : s.mb.state = .member)
    (hv : ∀ tr h, s.mb.transfer = some tr → readSnapHead p = some h →
      tr.source ≠ i ∨ tr.headTaken = true ∨ h.joiner ≠ idByte tr.joiner ∨ h.openNum ≠ s.ep.openNum) : s.deliverHead i p = s := by
  have hj : ¬ s.isJoiner = true := by simp [State.isJoiner, hm]
  rw [State.deliverHead, if_neg hj]
  split
  next h tr hp ht =>
    refine if_neg ?_
    rintro ⟨-, hsrc, hnew, hjoin, hn⟩
    have := hv tr h ht hp
    simp_all
  next => rfl

theorem State.assemble_member {α : Type} (hm : s.mb.state = .member) (c : Option α) (write : State → α → State) :
    s.assemble i c write = s := by
  simp [State.assemble, State.isJoiner, hm]

theorem State.deliverEnd_member (hm : s.mb.state = .member) : s.deliverEnd i p = s := by
  simp [State.deliverEnd, State.isJoiner, hm]

/-- R87, R88: to a member the snapshot packets behind the SNAP-HEAD are nothing. -/
theorem Kind.deliver_snapshot_member (hm : s.mb.state = .member) {k : Kind}
    (hk : k ∈ [Kind.snapPane, .snapFree, .snapPalette, .snapCells, .snapEnd]) : k.deliver i p s = s := by
  simp only [List.mem_cons, List.not_mem_nil, or_false] at hk
  rcases hk with rfl | rfl | rfl | rfl | rfl
  case inr.inr.inr.inr => exact State.deliverEnd_member hm
  all_goals
    dsimp only [Kind.deliver]
    exact State.assemble_member hm _ _

end

/-! ### A snapshot packet at the joiner (R87, R88) -/

/-- The joiner's assembly replaced. -/
def State.books (s : State) (a : Assembly) : State := { s with mb := { s.mb with assembly := some a } }

section
variable {s : State} {i : StationId} {p : List Byte} {tr : Transfer} {a : Assembly}

theorem State.assemblyFault_eq (ha : s.mb.assembly = some a) : s.assemblyFault = s.books { a with fault := true } := by
  simp [State.assemblyFault, State.books, ha]

theorem State.countPacket_eq (ha : s.mb.assembly = some a) : s.countPacket = s.books { a with packets := a.packets + 1 } := by
  simp [State.countPacket, State.books, ha]

theorem State.fromSource_eq (ht : s.mb.transfer = some tr) : s.fromSource i = decide (tr.source = i) := by
  simp [State.fromSource, ht]

theorem State.assemble_fault {α : Type} (hm : s.mb.state = .joining) (ht : s.mb.transfer = some tr) (ha : s.mb.assembly = some a)
    {c : Option α} (h : tr.source ≠ i ∨ c = none) (write : State → α → State) :
    s.assemble i c write = s.books { a with fault := true } := by
  have hj : s.isJoiner = true := by simp [State.isJoiner, hm]
  simp only [State.assemble, hj, if_true, State.fromSource_eq ht, State.assemblyFault_eq ha]
  split
  next x hsrc => exact absurd hsrc (by simpa using h)
  next => rfl

theorem State.assemble_writes {α : Type} (hm : s.mb.state = .joining) (ht : s.mb.transfer = some tr) (ha : s.mb.assembly = some a)
    (hsrc : tr.source = i) {o : Option α} {c : α} (hc : o = some c) (write : State → α → State) :
    s.assemble i o write = write (s.books { a with packets := a.packets + 1 }) c := by
  have hj : s.isJoiner = true := by simp [State.isJoiner, hm]
  simp only [State.assemble, hj, if_true, State.fromSource_eq ht, decide_eq_true hsrc, hc, State.countPacket_eq ha]

theorem State.deliverHead_joiner (hm : s.mb.state = .joining) (ha : s.mb.assembly = some a) :
    s.deliverHead i p = if lengthAllowed .snapHead p then s else s.books { a with fault := true } := by
  rw [State.deliverHead, if_pos (by simp [State.isJoiner, hm]), State.assemblyFault_eq ha]

theorem State.deliverEnd_none (hm : s.mb.state = .joining) (ha : s.mb.assembly = some a) (hp : readSnapEnd p = none) :
    s.deliverEnd i p = s.books { a with fault := true } := by
  rw [State.deliverEnd, if_pos (by simp [State.isJoiner, hm]), hp]
  exact State.assemblyFault_eq ha

theorem State.deliverEnd_some (hm : s.mb.state = .joining) (ht : s.mb.transfer = some tr) (ha : s.mb.assembly = some a) {n d : Half}
    (hp : readSnapEnd p = some (n, d)) : s.deliverEnd i p = if tr.source = i then { s with tx := { s.tx with
      joinDone := some ⟨s.ep.openNum, !a.fault && decide (a.packets = n.toNat) && decide (cellDigest s.store.cells = d), 0⟩ } } else s := by
  rw [State.deliverEnd, if_pos (by simp [State.isJoiner, hm]), hp]
  simp [State.fromSource_eq ht, State.snapshotGood, ha]

end

/-- R87: a SNAP-FREE's extents appended in room, or the fault. -/
theorem State.appendFree_books (s : State) (a : Assembly) (x : Byte) (es : List Extent) : (s.books a).appendFree x es
    = if x.toNat = a.chunks ∧ s.store.freeList.length + es.length ≤ 256 then
        { s.books { a with chunks := a.chunks + 1 } with store := { s.store with freeList := s.store.freeList ++ es } }
      else s.books { a with fault := true } := rfl

/-! ### What the joiner writes (R87, R111, R135) -/

theorem coloursOf_length (t : List Byte) : (coloursOf t).length = t.length / 3 := by
  induction t using coloursOf.induct with
  | case1 r g b t ih => simp only [coloursOf, List.length_cons, ih]; omega
  | case2 t h =>
    rcases t with _ | ⟨r, _ | ⟨g, _ | ⟨b, t⟩⟩⟩
    case cons.cons.cons => exact absurd rfl (h r g b t)
    all_goals simp [coloursOf]

/-- R87: a SNAP-PALETTE in range names a bank and carries eight colours. -/
theorem readSnapPalette_some {p : List Byte} {b f : Byte} {cs : List Colour} (h : readSnapPalette p = some (b, f, cs)) :
    1 ≤ b.toNat ∧ b.toNat ≤ 3 ∧ cs.length = 8 := by
  rcases p with _ | ⟨b', _ | ⟨f', t⟩⟩
  case cons.cons =>
    rw [readSnapPalette] at h
    split at h
    next hr =>
      obtain ⟨hlen, hlow, hhigh, -⟩ := hr
      cases h
      exact ⟨hlow, hhigh, by rw [coloursOf_length, hlen]⟩
    next => cases h
  all_goals cases h

/-- R87: eight colours written into a bank from an entry upward. -/
theorem State.writePalette_colour (s : State) {b : Byte} (hlow : 1 ≤ b.toNat) (hhigh : b.toNat ≤ 3) (f : Nat) {cs : List Colour}
    (hlen : cs.length = 8) (j : Fin 3) (e : Fin 16) : (s.writePalette b f cs).palettes[j][e]
      = if j.val + 1 = b.toNat ∧ f ≤ e.val ∧ e.val < f + 8 then cs.getD (e.val - f) 0 else s.palettes[j][e] := by
  have hcolour (bank : Vector Colour 16) : (writeColours bank f cs)[e]
      = if f ≤ e.val ∧ e.val < f + 8 then cs.getD (e.val - f) 0 else bank[e] := by
    simp only [writeColours, Fin.getElem_fin, Vector.getElem_ofFn]
    by_cases hf : f ≤ e.val
    · by_cases he : e.val < f + 8
      · rw [if_pos hf, if_pos ⟨hf, he⟩, List.getD_eq_getElem _ _ (by omega), List.getD_eq_getElem _ _ (by omega)]
      · rw [if_pos hf, if_neg (by omega), List.getD_eq_default _ _ (by omega)]
    · rw [if_neg hf, if_neg (by omega)]
  change (s.palettes.set ((b.toNat + 2) % 3) (writeColours s.palettes[(b.toNat + 2) % 3] f cs) (Nat.mod_lt _ (by decide)))[j.val][e.val] = _
  by_cases hj : (b.toNat + 2) % 3 = j.val
  · have hnamed : j.val + 1 = b.toNat := by omega
    simp only [hj, Vector.getElem_set_self, hnamed, true_and]
    exact hcolour _
  · have hother : ¬ j.val + 1 = b.toNat := by omega
    simp only [Vector.getElem_set_ne _ _ hj, hother, false_and, if_false]
    rfl

/-- R87: cells written from an offset upward, and no other. -/
theorem readCell_run {m : Memory} (h : m.cellsWf = true) (o : Nat) (cs : List Cell) :
    (∀ n (hn : n < cs.length), readCell (writeCells m o cs) (o + n) = cs[n])
    ∧ ∀ b, (b < o ∨ o + cs.length ≤ b) → readCell (writeCells m o cs) b = readCell m b := by
  have hr := Memory.rising_of_cellsWf m h
  refine ⟨fun n hn => ?_, fun b hb => ?_⟩
  · rw [readCell_writeCells cs m o _ hr, if_pos (by omega), Nat.add_sub_cancel_left, List.getD_eq_getElem _ _ hn]
  · rw [readCell_writeCells cs m o _ hr, if_neg (by omega)]

/-- Settles O48: at the source and at a member by the SNAP-HEAD's checks; at the joiner the fault, the count and the write of each kind. -/
theorem snapshotDelivery : Obligations.SnapshotDelivery := by
  refine ⟨fun s pos p hs hm hpos => ?_, fun s i p ha => ⟨fun hm => ⟨fun tr h ht hp hsrc hnew hj hn => ?_, fun hv => ?_, ?_⟩,
    fun tr a hm ht has => ?_⟩⟩
  · intro chunks next moved
    obtain ⟨pkt, hatt⟩ := hs.attempt
    have hnext : pos.advance s.store.freeList = next := by
      cases pos <;> simp only [SnapPos.advance, apply_ite some, chunkCount_eq] <;> rfl
    clear_value next
    subst hnext
    have reports {t : State} (htx : t.tx = s.tx) (hl : t.link = s.slotPassed.link) (hmb : t.mb.snapPos = s.mb.snapPos) :=
      State.reported_snapshot (s := t) (by rw [htx]; exact hatt) (by rw [hl]; exact hs.disconnect) (hmb.trans hpos)
    refine ⟨fun k hk => (exec_taken_sendingOwn hs hm k s.stationId p).trans (congrArg _ ?_), fun tr h ht hp hsrc hnew hj hn =>
      (exec_taken_sendingOwn hs hm .snapHead s.stationId p).trans (congrArg _ ?_)⟩
    · rw [Kind.deliver_snapshot_member (s := s.slotPassed) hm hk]
      exact reports rfl rfl rfl
    · rw [Kind.deliver, State.deliverHead_passes (s := s.slotPassed) hm ht hp hsrc hnew hj hn]
      exact reports rfl rfl rfl
  · exact (exec_taken_admitted ha (.inl hm) .snapHead i p).trans
      (congrArg _ (State.deliverHead_passes (s := s.slotPassed) hm ht hp hsrc hnew hj hn))
  · exact (exec_taken_admitted ha (.inl hm) .snapHead i p).trans (congrArg _ (State.deliverHead_void (s := s.slotPassed) hm hv))
  · have ignored (k : Kind) (hk : k ∈ [Kind.snapPane, .snapFree, .snapPalette, .snapCells, .snapEnd]) :
        exec (k.taken i p) s = .next s.slotPassed :=
      (exec_taken_admitted ha (.inl hm) k i p).trans (congrArg _ (Kind.deliver_snapshot_member (s := s.slotPassed) hm hk))
    exact ⟨ignored .snapPane (by simp), ignored .snapFree (by simp), ignored .snapPalette (by simp), ignored .snapCells (by simp),
      ignored .snapEnd (by simp)⟩
  intro book bad ok
  have delivered (k : Kind) : exec (k.taken i p) s = .next (k.deliver i p s.slotPassed) := exec_taken_admitted ha (.inr hm) k i p
  have pane : exec (.snapPaneTaken i p) s = .next (s.slotPassed.assemble i (readPaneRecord p) fun s r => s.setPane r.1 r.2) :=
    delivered .snapPane
  have free : exec (.snapFreeTaken i p) s = .next (s.slotPassed.assemble i (readSnapFree p) fun s r => s.appendFree r.1 r.2) :=
    delivered .snapFree
  have palette : exec (.snapPaletteTaken i p) s
      = .next (s.slotPassed.assemble i (readSnapPalette p) fun s r => s.writePalette r.1 r.2.1.toNat r.2.2) := delivered .snapPalette
  have cells : exec (.snapCellsTaken i p) s = .next (s.slotPassed.assemble i (readSnapCells p) fun s r =>
      { s with store := { s.store with cells := writeCells s.store.cells r.1 r.2 } }) := delivered .snapCells
  have head := (delivered .snapHead).trans (congrArg _ (State.deliverHead_joiner (s := s.slotPassed) hm has))
  have tail {n d : Half} (hp : readSnapEnd p = some (n, d)) :=
    (delivered .snapEnd).trans (congrArg _ (State.deliverEnd_some (s := s.slotPassed) hm ht has hp))
  have faulty {α : Type} {c : Option α} {write : State → α → State} (h : tr.source ≠ i ∨ c = none) :
      .next (s.slotPassed.assemble i c write) = (.next bad : Result) :=
    congrArg _ (State.assemble_fault (s := s.slotPassed) hm ht has h write)
  refine ⟨fun hl => head.trans (congrArg _ (if_neg (by simp [hl]))), fun hl => head.trans (congrArg _ (if_pos hl)),
    fun hp => (delivered .snapEnd).trans (congrArg _ (State.deliverEnd_none (s := s.slotPassed) hm has hp)),
    fun hsrc => ⟨pane.trans (faulty (.inl hsrc)), free.trans (faulty (.inl hsrc)), palette.trans (faulty (.inl hsrc)),
      cells.trans (faulty (.inl hsrc)), fun n d hp => (tail hp).trans (congrArg _ (if_neg hsrc))⟩, fun hsrc => ?_⟩
  have written {α : Type} {o : Option α} {c : α} {write : State → α → State} (hc : o = some c) :
      .next (s.slotPassed.assemble i o write) = (.next (write ok c) : Result) :=
    congrArg _ (State.assemble_writes (s := s.slotPassed) hm ht has hsrc hc write)
  refine ⟨fun hp => pane.trans (faulty (.inr hp)), fun k r hp => pane.trans (written hp), fun hp => free.trans (faulty (.inr hp)),
    fun x es hp hx => (free.trans (written hp)).trans (congrArg _ ?_), fun x es hp hx hlen => (free.trans (written hp)).trans (congrArg _ ?_),
    fun hp => palette.trans (faulty (.inr hp)), fun b f cs hp => ?_, fun hp => cells.trans (faulty (.inr hp)), fun o cs hp hwf => ?_,
    fun n d hp => (tail hp).trans (congrArg _ (if_pos hsrc))⟩
  · refine (s.slotPassed.appendFree_books _ x es).trans (if_neg ?_)
    rintro ⟨hc, hroom⟩
    have hroom : s.store.freeList.length + es.length ≤ 256 := hroom
    exact hx.elim (fun h => h hc) fun h => absurd hroom (by omega)
  · exact (s.slotPassed.appendFree_books _ x es).trans (if_pos ⟨hx, hlen⟩)
  · obtain ⟨hlow, hhigh, hlen⟩ := readSnapPalette_some hp
    exact ⟨_, palette.trans (written hp), ok.writePalette_colour hlow hhigh f.toNat hlen⟩
  · exact ⟨_, cells.trans (written hp), readCell_run hwf o cs⟩

end Sys2Proof.Machine
end

section
/-! PROOF. O16: each snapshot packet read back as its source formed it. -/

namespace Sys2Proof.Machine

/-! ### SNAP-HEAD -/

theorem idOfByte_idByte (i : StationId) : idOfByte (idByte i) = some i := by
  revert i
  decide

theorem idsOf_idBytes (q : List StationId) : idsOf (q.map idByte) = some q := by
  induction q with
  | nil => rfl
  | cons i t ih => simp [idsOf, idOfByte_idByte, ih]

/-- R85, R86: the control state of a SNAP-HEAD. -/
theorem State.readSnapHead_head {s : State} {tr : Transfer} (ht : s.mb.transfer = some tr) (hq : s.mb.joinQueue.length ≤ 15) :
    readSnapHead (s.snapPacket .head).payload = some ⟨idByte tr.joiner, s.ep.openNum, s.mb.roster, s.ep.openClose, s.mb.joinQueue⟩ := by
  have hn : (byte s.mb.joinQueue.length).toNat = s.mb.joinQueue.length := byte_toNat (by omega)
  simp [State.snapPacket, State.packet, ht, readSnapHead, halfBytes, halfOf_bytes, hn, hq, idsOf_idBytes]

/-! ### Extents (R119) -/

/-- R119: an extent in range is carried whole by its two fields. -/
theorem Extent.half_toNat {e : Extent} (h : e.inRange = true) : (half e.base).toNat = e.base ∧ (half e.size).toNat = e.size := by
  obtain ⟨hbase, -, hend⟩ := e.inRange_iff.1 h
  simp only [half, BitVec.toNat_ofNat]
  omega

/-- Section 10.3: an absent extent, or one in range, is read as it was formed. -/
theorem readExtent_bytes {x : Option Extent} (h : ∀ e, x = some e → e.inRange = true) :
    ∃ b1 b0 s1 s0, extentBytes x = [b1, b0, s1, s0] ∧ readExtent b1 b0 s1 s0 = some x := by
  cases x with
  | none => exact ⟨0, 0, 0, 0, rfl, rfl⟩
  | some e =>
    obtain ⟨hbase, hsize⟩ := Extent.half_toNat (h e rfl)
    obtain ⟨-, hone, -⟩ := e.inRange_iff.1 (h e rfl)
    have hpresent : ¬ (e.base = 0 ∧ e.size = 0) := by omega
    refine ⟨_, _, _, _, rfl, ?_⟩
    simp only [readExtent, halfOf_bytes, hbase, hsize, hpresent, if_false, h e rfl, if_true]

theorem extentsOf_cons {e : Extent} (h : e.inRange = true) (r : List Byte) :
    extentsOf (extentBytes (some e) ++ r) = (extentsOf r).map fun es => e :: es := by
  obtain ⟨hbase, hsize⟩ := Extent.half_toNat h
  simp only [extentBytes, halfBytes, List.cons_append, List.nil_append, extentsOf, halfOf_bytes, hbase, hsize, h, if_true]

/-- R87: the extents of a SNAP-FREE. -/
theorem extentsOf_bytes {es : List Extent} (h : ∀ e ∈ es, e.inRange = true) :
    extentsOf (es.flatMap fun e => extentBytes (some e)) = some es := by
  induction es with
  | nil => rfl
  | cons e t ih =>
    rw [List.flatMap_cons, extentsOf_cons (h e (by simp)), ih fun x hx => h x (by simp [hx])]
    rfl

/-! ### A pane record (R87, R111, section 10.3) -/

/-- R98: the control fields are read as they stood. -/
theorem controlOf_bytes (c : Control) : controlOf c.stateByte c.ownerByte c.extent? = some c := by
  cases c with
  | free => rfl
  | owned o e => simp [controlOf, Control.stateByte, Control.ownerByte, Control.extent?, idOfByte_idByte]
  | orphan e => simp [controlOf, Control.stateByte, Control.ownerByte, Control.extent?]
  | releasing e => simp [controlOf, Control.stateByte, Control.ownerByte, Control.extent?]

/-- Section 10.2: the code of each display field is read as that field. -/
theorem fontOf_code (f : Font) : fontOf f.code = f := by cases f <;> rfl

theorem modeOf_code (m : AttrMode) : modeOf m.code = m := by cases m <;> rfl

theorem cursorOf_raw (c : Cursor) : cursorOf (rawCursorOf c) = c := by
  have hscan : ∀ top bottom : BitVec 4,
      (top ++ bottom).extractLsb' 4 4 = top ∧ (top ++ bottom).extractLsb' 0 4 = bottom := by decide
  obtain ⟨htop, hbottom⟩ := hscan c.top c.bottom
  simp [cursorOf, rawCursorOf, htop, hbottom]

/-- R99: every display field is written from its own bytes. -/
theorem applyFields_full (p : Byte) (d e : Display) : { applyFields (fullFields p d) e with ext := d.ext } = d := by
  have hvisible : ∀ b : Bool, decide (flagByte b = 1#8) = b := by decide
  have hbank : ∀ b : BitVec 2, (b.setWidth 8).setWidth 2 = b := by decide
  have hunderline : ∀ u : BitVec 4, (u.setWidth 8).setWidth 4 = u := by decide
  simp [applyFields, fullFields, fontOf_code, modeOf_code, cursorOf_raw, hvisible, hbank, hunderline]

theorem fullFields_mask (p : Byte) (d : Display) : (fullFields p d).mask = fullMask := by
  simp only [SetPaneArgs.mask, fullFields, Option.isSome_some]
  decide

/-- Section 10.3: a pane record with its fields in range is read as the pane it was formed from. -/
theorem readPaneRecord_record {i : Fin 32} {p : Pane} (hf : (fullFields (byte i.val) p.display).inRange = true)
    (hc : ∀ e, p.control.extent? = some e → e.inRange = true) (hd : ∀ e, p.display.ext = some e → e.inRange = true) :
    readPaneRecord (paneRecord i p) = some (i, p) := by
  obtain ⟨c1, c0, l1, l0, hctl, hreadc⟩ := readExtent_bytes hc
  obtain ⟨d1, d0, z1, z0, hdsp, hreadd⟩ := readExtent_bytes hd
  have hlen : (fullFields (byte i.val) p.display).fieldBytes.length = 19 := fullFields_length _ _
  have hfields : setPaneOf (byte i.val) fullMask (fullFields (byte i.val) p.display).fieldBytes
      = some (fullFields (byte i.val) p.display) := by
    rw [← fullFields_mask (byte i.val) p.display]
    exact setPaneOf_fieldBytes (fullFields (byte i.val) p.display)
  have hdrop := List.drop_left' (l₂ := [d1, d0, z1, z0]) hlen
  have htake := List.take_left' (l₂ := [d1, d0, z1, z0]) hlen
  have hrecord : paneRecord i p = byte i.val :: p.control.stateByte :: p.control.ownerByte :: c1 :: c0 :: l1 :: l0
      :: ((fullFields (byte i.val) p.display).fieldBytes ++ [d1, d0, z1, z0]) := by
    rw [paneRecord, hctl, hdsp]
    rfl
  simp only [hrecord, readPaneRecord, hdrop, htake, hreadc, hreadd, controlOf_bytes, hfields, hf, paneIx_byte, applyFields_full,
    Option.bind_eq_bind, Option.bind_some, if_true]

/-! ### SNAP-PALETTE and SNAP-CELLS (R111, R135) -/

/-- R87: eight colours of a bank 1–3 from an entry up to 8. -/
theorem readSnapPalette_bytes {b f : Byte} {cs : List Colour} (hlow : 1 ≤ b.toNat) (hhigh : b.toNat ≤ 3) (hf : f.toNat ≤ 8)
    (hlen : cs.length = 8) : readSnapPalette ([b, f] ++ cs.flatMap colourBytes) = some (b, f, cs) := by
  have hbytes : (cs.flatMap colourBytes).length = 24 := by rw [length_flatMap_items colourBytes_length, hlen]
  simp only [List.cons_append, List.nil_append, readSnapPalette, hbytes, hlow, hhigh, hf, and_self, if_true, coloursOf_colourBytes]

/-- R85, R87: the colours of each half of a bank. -/
theorem State.readSnapPalette_palette (s : State) {j : Nat} (hj : j < 6) : readSnapPalette (s.snapPacket (.palette j)).payload
    = some (byte (j / 2 + 1), byte (8 * (j % 2)),
        ((s.bankColours ⟨j / 2 % 3, Nat.mod_lt _ (by decide)⟩).toList.drop (8 * (j % 2))).take 8) := by
  have hbank : (byte (j / 2 + 1)).toNat = j / 2 + 1 := byte_toNat (by omega)
  have hfirst : (byte (8 * (j % 2))).toNat = 8 * (j % 2) := byte_toNat (by omega)
  have hmod : j / 2 % 3 = j / 2 := Nat.mod_eq_of_lt (by omega)
  simp only [State.snapPacket, State.packet, hmod]
  refine readSnapPalette_bytes (by omega) (by omega) (by omega) ?_
  simp only [List.length_take, List.length_drop, Vector.length_toList]
  omega

/-- R87: one to fifteen cells within the store. -/
theorem readSnapCells_bytes {o : Nat} {cs : List Cell} (hone : 1 ≤ cs.length) (hmax : cs.length ≤ 15) (hend : o + cs.length ≤ 8192) :
    readSnapCells (halfBytes (half o) ++ cs.flatMap cellBytes) = some (o, cs) := by
  have hbytes : (cs.flatMap cellBytes).length = 2 * cs.length := length_flatMap_items cellBytes_length cs
  have hoffset : (half o).toNat = o := by simp only [half, BitVec.toNat_ofNat]; omega
  have hrange : 2 * cs.length % 2 = 0 ∧ 2 ≤ 2 * cs.length ∧ 2 * cs.length ≤ 30 ∧ o + 2 * cs.length / 2 ≤ Config.cells := by
    simp only [Config.cells]
    omega
  simp only [halfBytes, List.cons_append, List.nil_append, readSnapCells, halfOf_bytes, hoffset, hbytes, if_pos hrange, cellsOf_cellBytes]

/-- Settles O16: each kind by its own reader. -/
theorem snapshotReadsBack : Obligations.SnapshotReadsBack := by
  intro s
  refine ⟨fun tr ht hq => State.readSnapHead_head ht hq, fun i hf hc hd => ?_, fun c hc hr => ?_, fun j hj => ?_, fun k hk => ?_, ?_⟩
  · rw [State.snapPacket, paneIx_byte]
    exact readPaneRecord_record hf hc hd
  · have hin : ∀ e ∈ (s.store.freeList.drop (7 * c)).take 7, e.inRange = true := fun e he => hr e (List.mem_of_mem_drop (List.mem_of_mem_take he))
    have hbytes : (((s.store.freeList.drop (7 * c)).take 7).flatMap fun e => extentBytes (some e)).length ≤ 28 := by
      rw [length_flatMap_items (fun e => extentBytes_length (some e)), List.length_take]
      omega
    simp only [State.snapPacket, State.packet, List.cons_append, List.nil_append, readSnapFree, if_pos hbytes, extentsOf_bytes hin]
    rfl
  · exact s.readSnapPalette_palette hj
  · have hlen : (readCellRun s.store.cells (15 * k) (min 15 (Config.cells - 15 * k))).length = min 15 (8192 - 15 * k) := by
      simp [readCellRun, Config.cells]
    exact readSnapCells_bytes (by omega) (by omega) (by omega)
  · simp [State.snapPacket, State.packet, readSnapEnd, halfBytes, halfOf_bytes]

end Sys2Proof.Machine
end


section
/-! PROOF. O12, its relation: what a change keeps of the roster and of the join queue; and the shared operations, each once. -/

namespace Sys2Proof.Machine

/-! ### What a change keeps -/

/-- R83, R84, R86: the roster and the join queue are sound, the latter at a member, which alone has one of its own: a joiner holds the one
that its SNAP-HEAD gave. -/
def State.queueSound (s : State) : Prop := s.isMember = true → s.joinQueueSound

/-- `t` after `s`: a member stays in its roster and a joiner the joiner of its transfer, and, where `q` holds of the station as its command
began, a member's join queue stays sound. -/
structure State.Enrolls (q : Prop) (s t : State) : Prop where
  roster : s.rosterSound → t.rosterSound
  queue : q → s.queueSound → t.queueSound

/-- What the relation reads of a station: its id and state, the roster, the join queue and the joiner of its transfer. -/
def State.enrolView (s : State) : StationId × MemberState × IdSet × List StationId × Option StationId :=
  (s.stationId, s.mb.state, s.mb.roster, s.mb.joinQueue, s.mb.transfer.map Transfer.joiner)

theorem State.rosterSound_iff (s : State) : s.rosterSound ↔
    (s.mb.state = .member → idIn s.stationId s.mb.roster = true)
    ∧ (s.mb.state = .joining → s.mb.transfer.map Transfer.joiner = some s.stationId) := by
  simp [State.rosterSound, State.isMember, State.isJoiner]

theorem State.queueSound_iff (s : State) : s.queueSound ↔ (s.mb.state = .member → s.mb.joinQueue.Nodup
    ∧ (∀ i ∈ s.mb.joinQueue, idIn i s.mb.roster = false)
    ∧ ∀ j, s.mb.transfer.map Transfer.joiner = some j → s.mb.joinQueue.head? = some j) := by
  simp [State.queueSound, State.joinQueueSound, State.isMember]

namespace State.Enrolls

variable {q : Prop} {s t u : State}

theorem refl : s.Enrolls q s := ⟨id, fun _ => id⟩

theorem trans (h : s.Enrolls q t) (h' : t.Enrolls q u) : s.Enrolls q u :=
  ⟨h'.roster ∘ h.roster, fun hq => h'.queue hq ∘ h.queue hq⟩

theorem ite {c : Prop} [Decidable c] (ht : c → s.Enrolls q t) (hu : ¬ c → s.Enrolls q u) : s.Enrolls q (if c then t else u) := by
  split
  next h => exact ht h
  next h => exact hu h

theorem foldl {α : Type} (f : State → α → State) (h : ∀ u a, State.Enrolls q u (f u a)) (l : List α) (s : State) :
    s.Enrolls q (l.foldl f s) := by
  induction l generalizing s with
  | nil => exact refl
  | cons a l ih => exact (h s a).trans (ih _)

/-- A change that leaves alone what the relation reads. -/
theorem of_view (h : t.enrolView = s.enrolView) : s.Enrolls q t := by
  simp only [State.enrolView, Prod.mk.injEq] at h
  obtain ⟨hid, hstate, hroster, hqueue, hjoiner⟩ := h
  refine ⟨?_, fun _ => ?_⟩
  · rw [State.rosterSound_iff, State.rosterSound_iff, hid, hstate, hroster, hjoiner]; exact id
  · rw [State.queueSound_iff, State.queueSound_iff, hstate, hroster, hqueue, hjoiner]; exact id

/-- A change of other blocks than the Membership Unit. -/
theorem of_mb (hid : t.stationId = s.stationId) (hmb : t.mb = s.mb) : s.Enrolls q t := of_view (by simp [State.enrolView, hid, hmb])

/-- A station outside the group has no roster and no join queue of its own. -/
theorem of_outsider (hm : t.mb.state ≠ .member) (hj : t.mb.state ≠ .joining) : s.Enrolls q t :=
  ⟨fun _ => t.rosterSound_iff.2 ⟨fun h => absurd h hm, fun h => absurd h hj⟩, fun _ _ => t.queueSound_iff.2 fun h => absurd h hm⟩

end State.Enrolls

section

variable {q : Prop}

/-! ### Events, batches and reports -/

theorem State.post_enrolls (s : State) (k : EventKind) (a : Byte) (b c : Half) : s.Enrolls q (s.post k a b c) := .of_mb (by simp) (by simp)

theorem State.breakBatch_enrolls (s : State) (g : Byte) : s.Enrolls q (s.breakBatch g) := .of_mb (by simp) (by simp)

/-- R85: of the Membership Unit a report moves the snapshot position alone. -/
theorem State.reportTaken_enrolls (s : State) : s.Enrolls q s.reportTaken := by
  have reported (u : State) : u.Enrolls q u.tidyBatches.endAttempt := .of_view rfl
  refine State.Enrolls.trans ?_ (reported _)
  (repeat' split) <;> exact .of_view rfl

/-! ### Membership entered and left -/

/-- R94: a removal leaves the group for OFFLINE or LISTENING. -/
theorem State.removeSelf_enrolls (s : State) (cause : EventKind) (arg : Byte) (o : Bool) : s.Enrolls q (s.removeSelf cause arg o) := by
  obtain hstate | hstate : (s.removeSelf cause arg o).mb.state = .offline ∨ (s.removeSelf cause arg o).mb.state = .listening := by
    rw [State.removeSelf_posted]
    cases o
    · exact .inr rfl
    · exact .inl (by simp [State.cleared, membershipCleared])
  all_goals exact .of_outsider (by simp [hstate]) (by simp [hstate])

/-- R93: of the Membership Unit another member's removal takes its id from the roster. -/
theorem State.removeOther_mb (s : State) (i : StationId) (k : EventKind) :
    (s.removeOther i k).mb = { s.mb with roster := idDrop i s.mb.roster } := by
  simp only [State.removeOther]
  split <;> simp

/-- R93: a member that removes another stays in its roster. -/
theorem State.removeOther_enrolls {s : State} {i : StationId} (hi : s.isMember = true → i ≠ s.stationId) (k : EventKind) :
    s.Enrolls q (s.removeOther i k) := by
  simp only [State.isMember, decide_eq_true_eq] at hi
  refine ⟨fun hs => ?_, fun _ hs => ?_⟩
  · obtain ⟨hmember, hjoiner⟩ := s.rosterSound_iff.1 hs
    rw [State.rosterSound_iff, State.removeOther_mb, (s.removeOther_keeps i k).1]
    exact ⟨fun hm => by simp [hmember hm, (hi hm).symm], hjoiner⟩
  · rw [State.queueSound_iff] at hs
    rw [State.queueSound_iff, State.removeOther_mb]
    intro hm
    obtain ⟨hnodup, hout, hhead⟩ := hs hm
    exact ⟨hnodup, fun j hj => by simp [hout j hj], hhead⟩

/-- R62: so does one that removes several others. -/
theorem State.foldl_removeOther_enrolls {l : List StationId} (k : EventKind) {s : State} (hl : s.stationId ∉ l) :
    s.Enrolls q (l.foldl (fun s i => s.removeOther i k) s) := by
  induction l generalizing s with
  | nil => exact .refl
  | cons i l ih =>
    obtain ⟨hi, hrest⟩ := not_or.1 (List.mem_cons.not.1 hl)
    exact (State.removeOther_enrolls (fun _ => Ne.symm hi) k).trans (ih (by simpa using hrest))

/-- R83, R90: a transfer's end takes its joiner from the head of the join queue; a joiner leaves JOINING with it. -/
theorem State.endTransfer_enrolls {s : State} (hj : s.isJoiner = false) : s.Enrolls q s.endTransfer := by
  have hj : s.mb.state ≠ .joining := by simpa [State.isJoiner] using hj
  refine ⟨fun hs => ?_, fun _ hs => ?_⟩
  · obtain ⟨hmember, -⟩ := s.rosterSound_iff.1 hs
    exact (State.rosterSound_iff _).2 ⟨hmember, fun h => absurd h hj⟩
  · refine (State.queueSound_iff _).2 fun hm => ?_
    obtain ⟨hnodup, hout, -⟩ := s.queueSound_iff.1 hs hm
    exact ⟨hnodup.tail, fun i hi => hout i (List.mem_of_mem_tail hi), fun _ h => by simp at h⟩

/-! ### What an observer hears (R15) -/

/-- R74, R75: evidence moves a station to REQUESTING alone. -/
theorem State.evidence_enrolls (s : State) (rise : Bool) : s.Enrolls q (s.evidence rise) := by
  simp only [State.evidence]
  split
  next hm => exact .of_outsider (by simp) (by simp)
  next hm => exact .ite (fun _ => .of_view (by simp [State.enrolView])) fun _ => .of_outsider (by simp) (by simp)
  next hm => exact .ite (fun _ => .of_view rfl) fun _ => .of_view rfl
  next => exact .refl

/-- R77: the founder is alone in its roster, with nobody in its join queue. -/
theorem State.foundGroup_enrolls (s : State) : s.Enrolls q s.foundGroup := by
  have hmb : s.foundGroup.mb = { membershipCleared .member with roster := idSet s.stationId } := by simp [State.foundGroup]
  refine ⟨fun _ => ?_, fun _ _ => ?_⟩
  · rw [State.rosterSound_iff, hmb]
    simp [membershipCleared]
  · rw [State.queueSound_iff, hmb]
    simp [membershipCleared]

theorem State.ownFound_enrolls (s : State) : s.Enrolls q s.ownFound :=
  .ite (fun _ => .ite (fun _ => .of_outsider (by simp) (by simp)) fun _ => s.foundGroup_enrolls) fun _ => .refl

theorem State.ownFoundLost_enrolls (s : State) : s.Enrolls q s.ownFoundLost :=
  .ite (fun _ => .of_outsider (by simp) (by simp)) fun _ => .refl

theorem State.hearDenial_enrolls (s : State) (p : List Byte) : s.Enrolls q (s.hearDenial p) := by
  simp only [State.hearDenial]
  split
  · exact .ite (fun _ => .of_outsider (by simp) (by simp)) fun _ => .refl
  · exact .refl

/-- R86: a SNAP-HEAD that names a station makes it the joiner of the transfer. -/
theorem State.hearHead_enrolls (s : State) (i : StationId) (p : List Byte) : s.Enrolls q (s.hearHead i p) := by
  simp only [State.hearHead]
  split
  · refine .ite (fun _ => ⟨fun _ => ?_, fun _ _ => ?_⟩) fun _ => .refl
    · simp [State.rosterSound_iff, membershipCleared]
    · simp [State.queueSound_iff, membershipCleared]
  · exact .refl

theorem State.observe_enrolls (s : State) (k : Kind) (i : StationId) (p : List Byte) : s.Enrolls q (s.observe k i p) := by
  simp only [State.observe]
  split
  · exact .ite (fun _ => s.ownFound_enrolls) fun _ => s.evidence_enrolls false
  · exact s.evidence_enrolls false
  · exact s.hearDenial_enrolls p
  · exact s.hearHead_enrolls i p
  · exact .refl

/-! ### A packet delivered (R26, R47) -/

/-- R96: a foreign report moves its count alone. -/
theorem State.foreign_enrolls (s : State) (i : StationId) (k : Kind) : s.Enrolls q (s.foreign i k) :=
  .ite (fun _ => (s.post_enrolls _ _ _ _).trans (.of_view rfl)) fun _ => .refl

/-- R80: an id appended stands in no roster and not yet in the queue, whose head stays. -/
theorem State.deliverJoin_enrolls (s : State) (i : StationId) (p : List Byte) : s.Enrolls q (s.deliverJoin i p) := by
  simp only [State.deliverJoin]
  split
  · exact .refl
  next digest level _ =>
    split
    · exact .of_mb (by simp) (by simp)
    · exact .refl
    next hout =>
      have ⟨hroster, hqueue⟩ : idIn i s.mb.roster = false ∧ i ∉ s.mb.joinQueue := by
        simp only [State.joinOutcome] at hout
        (repeat' split at hout) <;> simp_all
      refine ⟨fun hs => (State.rosterSound_iff _).2 (s.rosterSound_iff.1 hs), fun _ hs => (State.queueSound_iff _).2 fun hm => ?_⟩
      obtain ⟨hnodup, houtside, hhead⟩ := s.queueSound_iff.1 hs hm
      refine ⟨hnodup.append (List.nodup_singleton i) (by simpa using hqueue), fun j hj => ?_, fun j hj => ?_⟩
      · obtain hj | rfl := (List.mem_append.1 hj).imp_right List.mem_singleton.1
        · exact houtside j hj
        · exact hroster
      · exact (List.head?_append_of_ne_nil _ fun h => by simp [h] at hhead; exact absurd hj (by simp [hhead])).trans (hhead j hj)

/-- R89: an admission at a station, in what the relation reads. -/
theorem State.admitJoiner_view (s : State) (i : StationId) : (s.admitJoiner i).enrolView =
    (s.stationId, if s.isJoiner then .member else s.mb.state, idAdd i s.mb.roster, s.mb.joinQueue.tail, none) := by
  have hstate : s.endTransfer.mb.state = s.mb.state := rfl
  simp only [State.admitJoiner]
  split <;> simp [State.enrolView, hstate]

/-- R89: the transfer's joiner, which leaves the head of the join queue, joins the roster; the joiner itself is in it as it enters MEMBER.
Of the queue that a joiner was given, nothing is said. -/
theorem State.admitJoiner_enrolls {s : State} {i : StationId} (hq : q → s.isJoiner = false)
    (hi : s.mb.transfer.map Transfer.joiner = some i) : s.Enrolls q (s.admitJoiner i) := by
  have hview := s.admitJoiner_view i
  simp only [State.enrolView, Prod.mk.injEq, Option.map_eq_none_iff] at hview
  obtain ⟨hid, hstate, hroster, hqueue, hnone⟩ := hview
  refine ⟨fun hs => ?_, fun h hs => ?_⟩
  · obtain ⟨hmember, hjoiner⟩ := s.rosterSound_iff.1 hs
    rw [State.rosterSound_iff, hid, hstate, hroster, idIn_idAdd]
    by_cases hj : s.mb.state = .joining
    · have : s.stationId = i := Option.some.inj ((hjoiner hj).symm.trans hi)
      simp [State.isJoiner, hj, this]
    · simp +contextual [State.isJoiner, hj, hmember]
  · rw [State.queueSound_iff, hstate, hroster, hqueue, hnone, hq h]
    intro hm
    obtain ⟨hnodup, hout, hhead⟩ := s.queueSound_iff.1 hs hm
    obtain ⟨rest, hrest⟩ := List.head?_eq_some_iff.1 (hhead i hi)
    rw [hrest] at hnodup hout ⊢
    obtain ⟨hnot, hnodup⟩ := List.nodup_cons.1 hnodup
    refine ⟨hnodup, fun j hj => ?_, fun _ h => by simp at h⟩
    have hne : j ≠ i := fun h => hnot (h ▸ hj)
    simp [hout j (List.mem_cons_of_mem _ hj), hne]

theorem State.deliverJoinDone_enrolls {s : State} (hq : q → s.isJoiner = false) (i : StationId) (p : List Byte) :
    s.Enrolls q (s.deliverJoinDone i p) := by
  simp only [State.deliverJoinDone]
  split
  · exact .refl
  next epoch good _ =>
    refine .ite (fun _ => .refl) fun hv => .ite (fun _ => ?_) fun _ => .ite (fun _ => s.removeSelf_enrolls _ _ _) fun hj => ?_
    · obtain ⟨tr, ht, hi, -, -⟩ := (s.joinDoneValid_iff i epoch).1 (by simpa using hv)
      exact State.admitJoiner_enrolls hq (by simp [ht, hi])
    · exact (State.endTransfer_enrolls (by simpa using hj)).trans (.of_view rfl)

/-- R92: a member's own LEAVE is its removal; another's removes another. -/
theorem State.deliverLeave_enrolls (s : State) (i : StationId) : s.Enrolls q (s.deliverLeave i) :=
  .ite (fun _ => s.foreign_enrolls i _) fun _ => .ite (fun _ => s.removeSelf_enrolls _ _ _) fun h =>
    State.removeOther_enrolls (fun hm hi => h ⟨hm, hi⟩) _

/-- R86: a head taken leaves the transfer its joiner. -/
theorem State.deliverHead_enrolls (s : State) (i : StationId) (p : List Byte) : s.Enrolls q (s.deliverHead i p) := by
  simp only [State.deliverHead]
  refine .ite (fun _ => .ite (fun _ => .refl) fun _ => .of_view rfl) fun _ => ?_
  split
  next ht => exact .ite (fun _ => .of_view (by simp [State.enrolView, ht])) fun _ => .refl
  · exact .refl

/-- R87: of the Membership Unit the snapshot's packets move the assembly alone. -/
theorem State.assemble_enrolls {α : Type} (s : State) (i : StationId) (c : Option α) {write : State → α → State}
    (h : ∀ u a, State.Enrolls q u (write u a)) : s.Enrolls q (s.assemble i c write) := by
  have counts : s.Enrolls q s.countPacket := .of_view rfl
  refine .ite (fun _ => ?_) fun _ => .refl
  split
  · exact counts.trans (h _ _)
  · exact .of_view rfl

theorem State.appendFree_enrolls (s : State) (b : Byte) (es : List Extent) : s.Enrolls q (s.appendFree b es) := by
  simp only [State.appendFree]
  split
  · exact .ite (fun _ => .of_view rfl) fun _ => .of_view rfl
  · exact .refl

theorem State.deliverEnd_enrolls (s : State) (i : StationId) (p : List Byte) : s.Enrolls q (s.deliverEnd i p) := by
  refine .ite (fun _ => ?_) fun _ => .refl
  split
  · exact .of_view rfl
  · exact .ite (fun _ => .of_view rfl) fun _ => .refl

/-- R26: a packet delivered that is a foreign report or leaves the Membership Unit alone. -/
theorem State.Enrolls.of_foreign_or_mb {s t : State} {i : StationId} {k : Kind} (hid : t.stationId = s.stationId)
    (h : t = s.foreign i k ∨ t.mb = s.mb) : s.Enrolls q t := by
  obtain rfl | hmb := h
  · exact s.foreign_enrolls i k
  · exact .of_mb hid hmb

theorem State.deliverUpdate_enrolls (s : State) (k : Kind) (i : StationId) (p : List Byte) : s.Enrolls q (s.deliverUpdate k i p) :=
  .of_foreign_or_mb (i := i) (k := k) (by simp) (by simp only [State.deliverUpdate]; (repeat' split) <;> simp)

theorem State.deliverClaim_enrolls (s : State) (i : StationId) (p : List Byte) : s.Enrolls q (s.deliverClaim i p) :=
  .of_foreign_or_mb (i := i) (k := .claim) (by simp) (by simp only [State.deliverClaim]; (repeat' split) <;> simp)

theorem State.deliverHandover_enrolls (s : State) (i : StationId) (p : List Byte) : s.Enrolls q (s.deliverHandover i p) :=
  .of_foreign_or_mb (i := i) (k := .handover) (by simp) (by simp only [State.deliverHandover]; (repeat' split) <;> simp)

theorem State.deliverRelease_enrolls (s : State) (i : StationId) (p : List Byte) : s.Enrolls q (s.deliverRelease i p) :=
  .of_foreign_or_mb (i := i) (k := .release) (by simp) (by simp only [State.deliverRelease]; (repeat' split) <;> simp)

theorem State.deliverRetract_enrolls (s : State) (i : StationId) (p : List Byte) : s.Enrolls q (s.deliverRetract i p) :=
  .of_foreign_or_mb (i := i) (k := .retract) (by simp) (by simp only [State.deliverRetract]; (repeat' split) <;> simp)

theorem State.deliverClose_enrolls (s : State) (i : StationId) (p : List Byte) : s.Enrolls q (s.deliverClose i p) :=
  .of_foreign_or_mb (i := i) (k := .close) (by simp) (by simp only [State.deliverClose]; (repeat' split) <;> simp)

theorem Kind.deliver_enrolls {s : State} (hq : q → s.isJoiner = false) (k : Kind) (i : StationId) (p : List Byte) :
    s.Enrolls q (k.deliver i p s) := by
  cases k with
  | found => exact .ite (fun _ => .refl) fun _ => s.deliverJoin_enrolls i p
  | join => exact s.deliverJoin_enrolls i p
  | joinDeny => exact .refl
  | joinDone => exact State.deliverJoinDone_enrolls hq i p
  | leave => exact s.deliverLeave_enrolls i
  | claim => exact s.deliverClaim_enrolls i p
  | handover => exact s.deliverHandover_enrolls i p
  | release => exact s.deliverRelease_enrolls i p
  | retract => exact s.deliverRetract_enrolls i p
  | close => exact s.deliverClose_enrolls i p
  | putCells | fill | copy | setPane | setPalette => exact s.deliverUpdate_enrolls _ i p
  | snapHead => exact s.deliverHead_enrolls i p
  | snapPane | snapPalette | snapCells => dsimp only [Kind.deliver]; exact s.assemble_enrolls i _ fun _ _ => .of_view rfl
  | snapFree => dsimp only [Kind.deliver]; exact s.assemble_enrolls i _ fun u _ => u.appendFree_enrolls _ _
  | snapEnd => exact s.deliverEnd_enrolls i p

/-! ### A packet taken (R14, R15, R35) -/

theorem State.taking_enrolls {s : State} {deliver : State → State} (h : s.slotPassed.Enrolls q (deliver s.slotPassed)) :
    s.Enrolls q (s.taking deliver) := by
  have hpassed : s.Enrolls q s.slotPassed := .of_view rfl
  have hdelivered := hpassed.trans h
  exact .ite (fun _ => .ite (fun _ => (hdelivered.trans (State.reportTaken_enrolls _)).trans (.of_view rfl)) fun _ => hdelivered)
    fun _ => .refl

theorem State.take_enrolls {s : State} (hq : q → s.isJoiner = false) (k : Kind) (i : StationId) (p : List Byte) :
    s.Enrolls q (s.take k i p (k.deliver i p)) :=
  State.taking_enrolls (.ite (fun _ => Kind.deliver_enrolls (s := s.slotPassed) hq k i p) fun _ =>
    .ite (fun _ => State.observe_enrolls _ k i p) fun _ => .refl)

theorem State.observeReceipt_enrolls (s : State) (rx : RxPacket) : s.Enrolls q (s.observeReceipt rx) := by
  simp only [State.observeReceipt]
  refine State.taking_enrolls ?_
  have buffered (u : State) : u.Enrolls q { u with link := { u.link with rx := some rx.buffered } } := .of_view rfl
  refine (buffered _).trans (.ite (fun _ => ?_) fun _ => .ite (fun _ => State.ownFoundLost_enrolls _) fun _ => .refl)
  split
  · exact State.observe_enrolls _ _ _ _
  · exact .refl

end

end Sys2Proof.Machine
end


section
/-! PROOF. O12: the roster and the join queue through every command. -/

namespace Sys2Proof.Machine

section

variable {q : Prop}

/-! ### A rise's effects (R58, R84, R90) -/

/-- R84: the joiner of a transfer that starts is the head of the join queue; a member starts it. -/
theorem State.startTransfer_enrolls {s : State} (hm : s.mb.state = .member) : s.Enrolls q s.startTransfer := by
  simp only [State.startTransfer]
  split
  next j rest src hqueue _ =>
    refine .ite (fun _ => ⟨fun hs => ?_, fun _ hs => (State.queueSound_iff _).2 fun _ => ?_⟩) fun _ => .refl
    · obtain ⟨hmember, -⟩ := s.rosterSound_iff.1 hs
      exact (State.rosterSound_iff _).2 ⟨hmember, fun hj => absurd (hm.symm.trans hj) (by decide)⟩
    · obtain ⟨hnodup, hout, -⟩ := s.queueSound_iff.1 hs hm
      exact ⟨hnodup, hout, fun k hk => by simpa [hqueue] using hk⟩
  · exact .refl

/-- R58: of a commit decision the relation reads the transfer's start alone. -/
theorem State.commit_enrolls {s : State} (hm : s.mb.state = .member) : s.Enrolls q s.commit := by
  obtain ⟨hid, -, -, hmb, -⟩ := s.decided_keeps
  have decides : s.Enrolls q s.decided := .of_view (by rw [State.enrolView, hid, hmb]; rfl)
  rw [State.commit_eq]
  exact (decides.trans (State.startTransfer_enrolls (by rw [hmb]; exact hm))).trans (.of_view rfl)

/-- R90: an older transfer has its joiner still. -/
theorem State.ageStep_enrolls (s : State) : s.Enrolls q s.ageStep := by
  simp only [State.ageStep]
  split
  next ht => exact .of_view (by simp [State.enrolView, ht])
  · exact .refl

theorem State.memberRise_enrolls {s : State} (hm : s.mb.state = .member) (b : Bool) : s.Enrolls q (s.memberRise b) := by
  have hstate : s.ageStep.mb.state = .member := by
    simp only [State.ageStep]
    split <;> exact hm
  simp only [State.memberRise]
  refine State.Enrolls.trans ?_ (.foldl _ State.breakBatch_enrolls _ _)
  exact s.ageStep_enrolls.trans (.ite (fun _ => State.commit_enrolls hstate) fun _ => .of_mb (by simp) (by simp))

theorem exec_tlfRiseEffects_enrolls {s t : State} (h : exec .tlfRiseEffects s = .next t) : s.Enrolls q t := by
  rw [← next_eq h]
  have taken : s.Enrolls q { s with link := { s.link with riseSample := none } } := .of_view rfl
  split
  · refine .ite (fun _ => .refl) fun _ => ?_
    dsimp only
    split
    next hm => exact taken.trans (State.memberRise_enrolls (by exact hm) _)
    · exact taken.trans (State.ageStep_enrolls _)
    · exact taken.trans (State.evidence_enrolls _ true)
  · exact .refl

/-! ### The Host Port's commands -/

/-- R159: what the port adds to a command's effect is its own. -/
theorem State.evaluate_enrolls {s : State} {n : Nat} {f : State → State × Status × List Byte} (h : s.Enrolls q (f s).1) :
    s.Enrolls q (s.evaluate n f) :=
  .ite (fun _ => h.trans (.of_view rfl)) fun _ => .refl

/-- R71: a station goes online to LISTENING. -/
theorem State.goOnline_enrolls (s : State) : s.Enrolls q s.goOnline.1 := by
  simp only [State.goOnline]
  split
  · exact .refl
  split
  · exact .refl
  · exact .of_outsider (by simp) (by simp)

/-- R72: a member that goes offline leaves the group later, by its LEAVE; any other station is OFFLINE at once. -/
theorem State.goOffline_enrolls (s : State) : s.Enrolls q s.goOffline.1 := by
  have discards : s.Enrolls q s.discardBatch := .of_mb (by simp) (by simp)
  have hoffline : s.outsiderOffline.mb.state = .offline := by
    simp only [State.outsiderOffline]
    split <;> simp [membershipCleared]
  simp only [State.goOffline]
  split
  · exact .refl
  · split
    · exact .refl
    split
    · exact .refl
    · exact discards.trans (.of_view rfl)
  · exact .of_outsider (by simp [hoffline]) (by simp [hoffline])

/-! The commands that read or fill the host's own blocks leave the Membership Unit alone. -/

theorem State.configure_enrolls (s : State) (f : TileFields) : s.Enrolls q (s.configure f).1 := by
  simp only [State.configure]
  (repeat' split) <;> exact .of_view rfl

theorem State.loadFont_enrolls (s : State) (b : Byte) (rows : Vector Byte 16) : s.Enrolls q (s.loadFont b rows).1 := by
  simp only [State.loadFont]
  split <;> exact .of_view rfl

theorem State.beginBatch_enrolls (s : State) : s.Enrolls q s.beginBatch.1 := by
  simp only [State.beginBatch]
  (repeat' split) <;> exact .of_view rfl

theorem State.endBatch_enrolls (s : State) : s.Enrolls q s.endBatch.1 := by
  simp only [State.endBatch]
  (repeat' split) <;> exact .of_view rfl

theorem State.submit_enrolls (s : State) (u : Update) : s.Enrolls q (s.submit u).1 := by
  simp only [State.submit]
  (repeat' split) <;> exact .of_view rfl

theorem State.request_enrolls (s : State) (b : Bool) (r : Request) : s.Enrolls q (s.request b r).1 := by
  simp only [State.request]
  (repeat' split) <;> exact .of_view rfl

theorem State.readEvent_enrolls (s : State) : s.Enrolls q s.readEvent.1 := by
  simp only [State.readEvent]
  split <;> exact .of_view rfl

/-! ### The resets (R176, R177) -/

theorem exec_powerOnReset_enrolls {i : StationId} {s t : State} (h : exec (.powerOnReset i) s = .next t) : s.Enrolls q t := by
  rw [← next_eq h]
  exact .of_outsider (by simp [State.reset, membershipCleared]) (by simp [State.reset, membershipCleared])

theorem exec_softReset_enrolls {i : StationId} {s t : State} (h : exec (.softReset i) s = .next t) : s.Enrolls q t := by
  rw [← next_eq h]
  exact .ite (fun _ => .of_outsider (by simp [State.reset, membershipCleared]) (by simp [State.reset, membershipCleared])) fun _ => .refl

/-! ### The Link Controller's commands -/

theorem exec_startCondition_enrolls {n : Nat} {s t : State} (h : exec (.startCondition n) s = .next t) : s.Enrolls q t := by
  rw [← next_eq h]
  split
  · exact .ite (fun _ => .of_view rfl) fun _ => .refl
  · exact .refl

theorem exec_lostInArbitration_enrolls {n : Nat} {s t : State} (h : exec (.lostInArbitration n) s = .next t) : s.Enrolls q t := by
  rw [← next_eq h]
  split
  · refine .ite (fun _ => ?_) fun _ => .refl
    dsimp only
    split
    · exact .of_mb (by simp) (by simp)
    · exact .of_view rfl
  · exact .refl

theorem exec_holdPoint_enrolls {rx : RxPacket} {s t : State} (h : exec (.holdPoint rx) s = .next t) : s.Enrolls q t := by
  rw [← next_eq h]
  refine .ite (fun _ => ?_) fun _ => .refl
  split
  · exact .ite (fun _ => .of_view rfl) fun _ => .refl
  · exact .of_view rfl
  · exact .refl

theorem State.refused_enrolls (s : State) : s.Enrolls q s.refused := .of_mb (by simp) (by simp)

theorem State.endPacket_enrolls (s : State) (n : Nat) : s.Enrolls q (s.endPacket n) := .of_mb (by simp) (by simp)

theorem exec_linkTimeout_enrolls {s t : State} (h : exec .linkTimeout s = .next t) : s.Enrolls q t := by
  rw [← next_eq h]
  exact .ite (fun _ => (s.endPacket_enrolls 0).trans (.ite (fun _ => .refl) fun _ => .of_mb (by simp) (by simp))) fun _ => .refl

/-! ### Limits and timers -/

/-- R62: a station in the list of evictees takes its own removal alone. -/
theorem exec_stallLimit_enrolls {s t : State} (h : exec .stallLimit s = .next t) : s.Enrolls q t := by
  rw [← next_eq h]
  have restarts : s.Enrolls q { s with ep := { s.ep with stall := 0 } } := .of_view rfl
  exact .ite (fun _ => .ite (fun _ => s.removeSelf_enrolls _ _ _) fun hself =>
    restarts.trans (State.foldl_removeOther_enrolls .memberEvicted (by simpa using hself))) fun _ => .refl

theorem exec_transferLimit_enrolls {s t : State} (h : exec .transferLimit s = .next t) : s.Enrolls q t := by
  rw [← next_eq h]
  split
  · exact .ite (fun _ => .ite (fun _ => s.removeSelf_enrolls _ _ _) fun hj =>
      .ite (fun _ => (State.endTransfer_enrolls (by simpa using hj)).trans (.of_view rfl)) fun _ => .refl) fun _ => .refl
  · exact .refl

theorem exec_exhaustedUpdate_enrolls {s t : State} (h : exec .exhaustedUpdate s = .next t) : s.Enrolls q t := by
  rw [← next_eq h]
  (repeat' split)
  case isTrue => exact s.breakBatch_enrolls _
  all_goals exact .refl

theorem exec_exhaustedRequest_enrolls {s t : State} (h : exec .exhaustedRequest s = .next t) : s.Enrolls q t := by
  rw [← next_eq h]
  have hd : s.Enrolls q s.dropHead := .of_view rfl
  split
  · refine .ite (fun _ => ?_) fun _ => .refl
    split
    case h_1 => exact .refl
    case h_2 | h_3 | h_4 => exact hd.trans (State.post_enrolls _ _ _ _ _)
    case h_5 | h_6 => exact .ite (fun _ => .of_outsider (by simp) (by simp)) fun _ => hd
    case h_7 => exact .ite (fun _ => hd.trans (State.removeSelf_enrolls _ _ _ _)) fun _ => hd
  · exact .refl

/-- R38: of the Membership Unit a drop moves the snapshot position alone. -/
theorem State.dropExhausted_enrolls (s : State) : s.Enrolls q s.dropExhausted := by
  simp only [State.dropExhausted]
  split <;> exact .of_view rfl

theorem exec_listenIntervalExpiry_enrolls {s t : State} (h : exec .listenIntervalExpiry s = .next t) : s.Enrolls q t := by
  rw [← next_eq h]
  exact .ite (fun _ => .of_outsider (by simp) (by simp)) fun _ => .refl

theorem exec_requestTimerExpiry_enrolls {s t : State} (h : exec .requestTimerExpiry s = .next t) : s.Enrolls q t := by
  rw [← next_eq h]
  refine .ite (fun hm => ?_) fun _ => .refl
  have withdraws : s.Enrolls q s.withdrawJoin := .of_mb (by simp) (by simp)
  exact withdraws.trans (.ite (fun _ => .of_view rfl) fun _ => .of_outsider (by simp) (by simp))

/-! ### The raster and the apply pass -/

theorem exec_tlfRise_enrolls {b : Bool} {s t : State} (h : exec (.tlfRise b) s = .next t) : s.Enrolls q t := by
  rw [← next_eq h]
  dsimp only
  (repeat' split) <;> exact .of_mb (by simp) (by simp)

theorem exec_enterFront_enrolls {s t : State} (h : exec .enterFront s = .next t) : s.Enrolls q t := by
  rw [← next_eq h]
  exact .ite (fun _ => .of_mb (by simp) (by simp)) fun _ => .refl

theorem exec_frameHoldLimit_enrolls {s t : State} (h : exec .frameHoldLimit s = .next t) : s.Enrolls q t := by
  rw [← next_eq h]
  exact .ite (fun _ => .of_mb (by simp) (by simp)) fun _ => .refl

theorem exec_spanListBuild_enrolls {row : Nat} {s t : State} (h : exec (.spanListBuild row) s = .next t) : s.Enrolls q t := by
  rw [← next_eq h]
  split
  · exact .ite (fun _ => .ite (fun _ => .of_mb (by simp) (by simp)) fun _ => .of_view rfl) fun _ => .refl
  · exact .refl

theorem State.cellEntry_enrolls {s t : State} {p : Byte} {w : Memory → Extent → Nat → Memory} (h : s.cellEntry p w = .next t) :
    s.Enrolls q t := by
  simp only [State.cellEntry] at h
  (repeat' split at h) <;> cases h
  all_goals exact .of_view rfl

/-- R64: no row of the apply pass moves the Membership Unit. -/
theorem exec_apply_enrolls {c : Instr} {s t : State}
    (hc : c ∈ [.applyClear, .applyPutCells, .applyFill, .applyCopy, .applySetPane, .applySetPalette, .applyRelease])
    (h : exec c s = .next t) : s.Enrolls q t := by
  simp only [List.mem_cons, List.not_mem_nil, or_false] at hc
  rcases hc with rfl | rfl | rfl | rfl | rfl | rfl | rfl
  case inr.inl | inr.inr.inl | inr.inr.inr.inl =>
    simp only [exec, execApplyPutCells, execApplyFill, execApplyCopy] at h
    split at h
    · exact State.cellEntry_enrolls h
    · cases h; exact .refl
  all_goals
    simp only [exec, execApplyClear, execApplySetPane, execApplySetPalette, execApplyRelease] at h
    (repeat' split at h) <;> cases h
    all_goals exact .of_view rfl

/-! ### Every command -/

/-- A command keeps a member in its roster, a joiner the joiner of its transfer, and the join queue sound where it began at no joiner. -/
theorem exec_enrolls {c : Instr} {s t : State} (h : exec c s = .next t) : s.Enrolls (s.isJoiner = false) t := by
  have taken (k : Kind) (i : StationId) (p : List Byte) (hc : c = k.taken i p) : s.Enrolls (s.isJoiner = false) t := by
    rw [hc, exec_taken] at h
    rw [← next_eq h]
    exact State.take_enrolls id k i p
  cases c with
  | powerOnReset => exact exec_powerOnReset_enrolls h
  | softReset => exact exec_softReset_enrolls h
  | transactionStart | framingError | transactionEnd | eventRecordRemoval =>
    rw [← next_eq h]
    exact .ite (fun _ => .of_view rfl) fun _ => .refl
  | badCommand => rw [← next_eq h]; exact .ite (fun _ => State.evaluate_enrolls .refl) fun _ => .refl
  | configure => rw [← next_eq h]; exact State.evaluate_enrolls (s.configure_enrolls _)
  | loadFontB => rw [← next_eq h]; exact State.evaluate_enrolls (s.loadFont_enrolls _ _)
  | goOnline => rw [← next_eq h]; exact State.evaluate_enrolls s.goOnline_enrolls
  | goOffline => rw [← next_eq h]; exact State.evaluate_enrolls s.goOffline_enrolls
  | reset => rw [← next_eq h]; exact State.evaluate_enrolls (.of_view rfl)
  | beginBatch => rw [← next_eq h]; exact State.evaluate_enrolls s.beginBatch_enrolls
  | endBatch => rw [← next_eq h]; exact State.evaluate_enrolls s.endBatch_enrolls
  | putCells | fill | copy | setPane | setPalette => rw [← next_eq h]; exact State.evaluate_enrolls (s.submit_enrolls _)
  | claim | handover | release => rw [← next_eq h]; exact State.evaluate_enrolls (s.request_enrolls _ _)
  | readEvent => rw [← next_eq h]; exact State.evaluate_enrolls s.readEvent_enrolls
  | readStatus => rw [← next_eq h]; exact State.evaluate_enrolls (.ite (fun _ => .of_view rfl) fun _ => .refl)
  | readPane | readCells => rw [← next_eq h]; exact State.evaluate_enrolls (by split <;> exact .refl)
  | readRoster => rw [← next_eq h]; exact State.evaluate_enrolls .refl
  | startCondition => exact exec_startCondition_enrolls h
  | startSeen => rw [← next_eq h]; exact .ite (fun _ => .of_view rfl) fun _ => .refl
  | lostInArbitration => exact exec_lostInArbitration_enrolls h
  | holdPoint => exact exec_holdPoint_enrolls h
  | packetRefused => rw [← next_eq h]; exact s.refused_enrolls
  | observerReceipt =>
    rw [← next_eq h]
    exact .ite (fun _ => .ite (fun _ => s.observeReceipt_enrolls _) fun _ => s.refused_enrolls) fun _ => .refl
  | foundTaken i p => exact taken .found i p rfl
  | joinTaken i p => exact taken .join i p rfl
  | joinDenyTaken i p => exact taken .joinDeny i p rfl
  | joinDoneTaken i p => exact taken .joinDone i p rfl
  | leaveTaken i p => exact taken .leave i p rfl
  | claimTaken i p => exact taken .claim i p rfl
  | handoverTaken i p => exact taken .handover i p rfl
  | releaseTaken i p => exact taken .release i p rfl
  | retractTaken i p => exact taken .retract i p rfl
  | closeTaken i p => exact taken .close i p rfl
  | putCellsTaken i p => exact taken .putCells i p rfl
  | fillTaken i p => exact taken .fill i p rfl
  | copyTaken i p => exact taken .copy i p rfl
  | setPaneTaken i p => exact taken .setPane i p rfl
  | setPaletteTaken i p => exact taken .setPalette i p rfl
  | snapHeadTaken i p => exact taken .snapHead i p rfl
  | snapPaneTaken i p => exact taken .snapPane i p rfl
  | snapFreeTaken i p => exact taken .snapFree i p rfl
  | snapPaletteTaken i p => exact taken .snapPalette i p rfl
  | snapCellsTaken i p => exact taken .snapCells i p rfl
  | snapEndTaken i p => exact taken .snapEnd i p rfl
  | stopCondition | packetBreak | packetAbandoned =>
    rw [← next_eq h]
    exact .ite (fun _ => s.endPacket_enrolls _) fun _ => .refl
  | linkTimeout => exact exec_linkTimeout_enrolls h
  | busFreeInterval | irregularTlcFall =>
    rw [← next_eq h]
    dsimp only
    (repeat' split) <;> exact .of_view rfl
  | recoveryBusFree => rw [← next_eq h]; exact .ite (fun _ => .of_view rfl) fun _ => .refl
  | tlfRise => exact exec_tlfRise_enrolls h
  | tlfRiseEffects => exact exec_tlfRiseEffects_enrolls h
  | stallLimit => exact exec_stallLimit_enrolls h
  | transferLimit => exact exec_transferLimit_enrolls h
  | exhaustedUpdate => exact exec_exhaustedUpdate_enrolls h
  | exhaustedRequest => exact exec_exhaustedRequest_enrolls h
  | selfDemotion => rw [← next_eq h]; exact .ite (fun _ => s.removeSelf_enrolls _ _ _) fun _ => s.dropExhausted_enrolls
  | listenIntervalExpiry => exact exec_listenIntervalExpiry_enrolls h
  | requestTimerExpiry => exact exec_requestTimerExpiry_enrolls h
  | enterFront => exact exec_enterFront_enrolls h
  | applyClear | applyPutCells | applyFill | applyCopy | applySetPane | applySetPalette | applyRelease =>
    exact exec_apply_enrolls (by simp) h
  | applyPassEnd | frontEnd | syncEnd | followingWaitLimit | backEnd | tlfRelease =>
    rw [← next_eq h]
    exact .ite (fun _ => .of_view rfl) fun _ => .refl
  | holdLineEnd =>
    rw [← next_eq h]
    dsimp only
    (repeat' split) <;> exact .of_view rfl
  | frameHoldLimit => exact exec_frameHoldLimit_enrolls h
  | spanListBuild => exact exec_spanListBuild_enrolls h

end

/-- A step is no command, or a command on the rest of the queue. -/
theorem step_enrolls {s t : State} (h : step s = .next t) : s.Enrolls (s.isJoiner = false) t := by
  rw [step] at h
  split at h
  · cases h; exact .refl
  next c rest _ =>
    have unqueued : s.Enrolls (s.isJoiner = false) { s with pending := rest } := .of_view rfl
    exact unqueued.trans (exec_enrolls h)

/-- Settles O12: a station that is a member as the step begins is no joiner, and so the join queue stays sound with the roster. -/
theorem stepKeepsRosterAndJoinQueue : Obligations.StepKeepsRosterAndJoinQueue := by
  refine ⟨fun s t hs h => (step_enrolls h).roster hs, fun s t hm hs h ht => ?_⟩
  have hmember : s.mb.state = .member := by simpa [State.isMember] using hm
  exact (step_enrolls h).queue (by simp [State.isJoiner, hmember]) (fun _ => hs) ht

end Sys2Proof.Machine
end


section
/-! PROOF. O15: a pane record. -/

namespace Sys2Proof.Machine

/-- Settles O15, by the record's length and its reader. -/
theorem paneRecordReadsBack : Obligations.PaneRecordReadsBack :=
  fun i p hf hc hd => ⟨paneRecord_length i p, readPaneRecord_record hf hc hd⟩

end Sys2Proof.Machine
end

section
/-! PROOF. O11, its ranges: the display fields, the extents and the records that a station reads. -/

namespace Sys2Proof.Machine

/-! ### Display fields (R99, R113) -/

/-- R99: the display fields whose ranges are smaller than what their bits hold. -/
structure Display.InRange (d : Display) : Prop where
  col : d.col.toNat ≤ 4095
  row : d.row.toNat ≤ 4095
  width : d.width ≠ 0
  height : d.height ≠ 0
  depth : d.depth.toNat ≤ 63
  pitch : d.pitch ≠ 0
  scrollRow : d.scrollRow.toNat ≤ 8191
  scrollCol : d.scrollCol.toNat ≤ 254
  cursor : (rawCursorOf d.cursor).inRange = true

/-- R99, R112: the other fields' codes are in range whatever the fields hold. -/
theorem fullFields_inRange_iff (p : Byte) (d : Display) : (fullFields p d).inRange = true ↔ paneInRange p = true ∧ d.InRange := by
  have hfont : d.font.code.toNat ≤ 1 := by cases d.font <;> decide
  have hmode : d.mode.code.toNat ≤ 2 := by cases d.mode <;> decide
  have hvisible : (flagByte d.visible).toNat ≤ 1 := by cases d.visible <;> decide
  have hbank : (d.bank.setWidth 8).toNat ≤ 3 := by rw [BitVec.toNat_setWidth]; omega
  have hunderline : (d.underline.setWidth 8).toNat ≤ 15 := by rw [BitVec.toNat_setWidth]; omega
  simp only [SetPaneArgs.inRange, fullFields, absentOr, Bool.and_eq_true, decide_eq_true_eq, hfont, hmode, hvisible, hbank, hunderline,
    and_true]
  constructor
  · rintro ⟨⟨⟨⟨⟨⟨⟨⟨⟨hp, hcol⟩, hrow⟩, hwidth⟩, hheight⟩, hdepth⟩, hpitch⟩, hscrollRow⟩, hscrollCol⟩, hcursor⟩
    exact ⟨hp, hcol, hrow, hwidth, hheight, hdepth, hpitch, hscrollRow, hscrollCol, hcursor⟩
  · rintro ⟨hp, hcol, hrow, hwidth, hheight, hdepth, hpitch, hscrollRow, hscrollCol, hcursor⟩
    exact ⟨⟨⟨⟨⟨⟨⟨⟨⟨hp, hcol⟩, hrow⟩, hwidth⟩, hheight⟩, hdepth⟩, hpitch⟩, hscrollRow⟩, hscrollCol⟩, hcursor⟩

theorem paneInRange_byte (i : Fin 32) : paneInRange (byte i.val) = true := by
  simp [paneInRange, byte]
  omega

/-- R100: the pane defaults. -/
theorem displayDefaults_ranged : displayDefaults.InRange := by
  constructor <;> decide

/-- R112: the display extent is none of these fields. -/
theorem Display.InRange.withExt {d : Display} (h : d.InRange) (x : Option Extent) : ({ d with ext := x } : Display).InRange :=
  ⟨h.col, h.row, h.width, h.height, h.depth, h.pitch, h.scrollRow, h.scrollCol, h.cursor⟩

/-- R113: a field written with a value in range, or kept. -/
theorem getD_of_absentOr {α : Type} {P : α → Prop} [DecidablePred P] {x : Option α} {a : α}
    (hx : absentOr (fun v => decide (P v)) x = true) (ha : P a) : P (x.getD a) := by
  cases x with
  | none => exact ha
  | some b => exact of_decide_eq_true hx

/-- R112, R113: a SET-PANE in range keeps the display fields in range. -/
theorem applyFields_inRange {a : SetPaneArgs} {d : Display} (ha : a.inRange = true) (hd : d.InRange) : (applyFields a d).InRange := by
  simp only [SetPaneArgs.inRange, Bool.and_eq_true] at ha
  obtain ⟨⟨⟨⟨⟨⟨⟨⟨⟨⟨⟨⟨⟨⟨⟨-, -⟩, hcol⟩, hrow⟩, hwidth⟩, hheight⟩, hdepth⟩, hpitch⟩, hscrollRow⟩, hscrollCol⟩, -⟩, -⟩, -⟩, -⟩, hcursor⟩, -⟩ := ha
  refine ⟨(getD_of_absentOr hcol hd.col :), (getD_of_absentOr hrow hd.row :), (getD_of_absentOr hwidth hd.width :),
    (getD_of_absentOr hheight hd.height :), (getD_of_absentOr hdepth hd.depth :), (getD_of_absentOr hpitch hd.pitch :),
    (getD_of_absentOr hscrollRow hd.scrollRow :), (getD_of_absentOr hscrollCol hd.scrollCol :), ?_⟩
  cases hc : a.cursor with
  | none => simpa [applyFields, hc] using hd.cursor
  | some c => simpa [applyFields, hc, absentOr, RawCursor.inRange, cursorOf, rawCursorOf] using hcursor

/-! ### Extents (R119, R122, R123) -/

theorem Extent.inStore_of_inRange {e : Extent} (h : e.inRange = true) : e.inStore = true :=
  decide_eq_true (e.inRange_iff.1 h).2.2

/-- R122: an extent given, and what is left of the free extent that gave it. -/
theorem firstFit_inRange {n b : Nat} {l l' : List Extent} (hn : n ≠ 0) (hl : ∀ e ∈ l, e.inRange = true)
    (h : firstFit n l = some (b, l')) : (⟨b, n⟩ : Extent).inRange = true ∧ ∀ e ∈ l', e.inRange = true := by
  induction l generalizing l' with
  | nil => cases h
  | cons x t ih =>
    rw [List.forall_mem_cons] at hl
    obtain ⟨hx, ht⟩ := hl
    have ⟨hbase, hsize, hend⟩ := x.inRange_iff.1 hx
    rw [firstFit] at h
    split at h
    next hfits =>
      cases h
      refine ⟨(Extent.inRange_iff _).2 ⟨hbase, by dsimp only; omega, by dsimp only; omega⟩, ?_⟩
      split
      · exact ht
      · refine List.forall_mem_cons.2 ⟨(Extent.inRange_iff _).2 ?_, ht⟩
        dsimp only
        omega
    next =>
      obtain ⟨⟨c, rest⟩, hrest, heq⟩ := Option.map_eq_some_iff.1 h
      cases heq
      obtain ⟨hgiven, hleft⟩ := ih ht hrest
      exact ⟨hgiven, List.forall_mem_cons.2 ⟨hx, hleft⟩⟩

/-- R123: two extents that touch make one in range. -/
theorem Extent.merge_inRange {e f : Extent} (he : e.inRange = true) (hf : f.inRange = true) (h : e.base + e.size = f.base) :
    (⟨e.base, e.size + f.size⟩ : Extent).inRange = true := by
  rw [Extent.inRange_iff] at *
  dsimp only
  omega

theorem mergeAfter_inRange {e : Extent} {l : List Extent} (he : e.inRange = true) (hl : ∀ x ∈ l, x.inRange = true) :
    ∀ x ∈ mergeAfter e l, x.inRange = true := by
  cases l with
  | nil => simpa [mergeAfter] using he
  | cons f t =>
    have ⟨hf, ht⟩ := List.forall_mem_cons.1 hl
    rw [mergeAfter]
    split
    next htouch => exact List.forall_mem_cons.2 ⟨Extent.merge_inRange he hf htouch.symm, ht⟩
    next => exact List.forall_mem_cons.2 ⟨he, hl⟩

/-- R123: an extent returned. -/
theorem returnExtent_inRange {e : Extent} {l : List Extent} (he : e.inRange = true) (hl : ∀ x ∈ l, x.inRange = true) :
    ∀ x ∈ returnExtent e l, x.inRange = true := by
  induction l with
  | nil => simpa [returnExtent] using he
  | cons f t ih =>
    have ⟨hf, ht⟩ := List.forall_mem_cons.1 hl
    rw [returnExtent]
    split
    · exact mergeAfter_inRange he hl
    split
    next htouch => exact mergeAfter_inRange (Extent.merge_inRange hf he htouch) ht
    next => exact List.forall_mem_cons.2 ⟨hf, ih ht⟩

/-- R102, R122: a CLAIM of free granules takes the first fit. -/
theorem claimOutcome_firstFit {p : Pane} {fl fl' : List Extent} {n b : Nat} (h : claimOutcome p fl n = .claimed b fl') :
    firstFit n fl = some (b, fl') := by
  have hn := claimOutcome_claimed h
  rw [claimOutcome, if_neg hn] at h
  split at h
  · split at h
    next hfit => cases h; exact hfit
    next => cases h
  · cases h

/-- R102: a CLAIM of count 0 adopts the extent of an orphan. -/
theorem claimOutcome_orphan {p : Pane} {fl : List Extent} {n : Nat} {e : Extent} (h : claimOutcome p fl n = .adopted e) :
    p.control = .orphan e := by
  rw [claimOutcome] at h
  split at h
  · cases hc : p.control <;> simp_all
  · split at h
    · split at h <;> cases h
    · cases h

/-! ### What a joiner reads (R87) -/

theorem readExtent_inRange {b1 b0 s1 s0 : Byte} {x : Option Extent} {e : Extent} (h : readExtent b1 b0 s1 s0 = some x)
    (he : x = some e) : e.inRange = true := by
  subst he
  dsimp only [readExtent] at h
  split at h
  · cases h
  · split at h
    next hr => cases h; exact hr
    next => cases h

/-- R98: a pane holds the extent read for it, if any. -/
theorem controlOf_extent {st owner : Byte} {x : Option Extent} {c : Control} {e : Extent} (h : controlOf st owner x = some c)
    (he : c.extent? = some e) : x = some e := by
  rw [controlOf.eq_def] at h
  split at h
  · cases h; cases he
  split at h
  · split at h
    · cases h; exact he
    · cases h
  split at h
  · obtain ⟨f, hf, rfl⟩ := Option.map_eq_some_iff.1 h
    exact hf.trans he
  split at h
  · obtain ⟨f, hf, rfl⟩ := Option.map_eq_some_iff.1 h
    exact hf.trans he
  · cases h

/-- R87: the extents of a SNAP-FREE. -/
theorem extentsOf_inRange {bs : List Byte} {es : List Extent} (h : extentsOf bs = some es) : ∀ e ∈ es, e.inRange = true := by
  induction bs using extentsOf.induct generalizing es with
  | case1 => cases h; exact fun _ he => absurd he List.not_mem_nil
  | case2 b1 b0 s1 s0 t e hr =>
    rename_i ih
    rw [extentsOf, if_pos hr] at h
    obtain ⟨r, hrest, rfl⟩ := Option.map_eq_some_iff.1 h
    exact List.forall_mem_cons.2 ⟨hr, ih hrest⟩
  | case3 b1 b0 s1 s0 t e => rw [extentsOf, if_neg ‹_›] at h; cases h
  | case4 bs hnil hcons =>
    rw [extentsOf] at h
    · cases h
    all_goals assumption

theorem readSnapFree_inRange {bs : List Byte} {b : Byte} {es : List Extent} (h : readSnapFree bs = some (b, es)) :
    ∀ e ∈ es, e.inRange = true := by
  cases bs with
  | nil => cases h
  | cons i t =>
    rw [readSnapFree] at h
    split at h
    · obtain ⟨r, hr, heq⟩ := Option.map_eq_some_iff.1 h
      cases heq
      exact extentsOf_inRange hr
    · cases h

/-- A pane's display fields, its extent and its display extent in range (R99, R119). -/
structure Pane.InRange (p : Pane) : Prop where
  display : p.display.InRange
  held : ∀ e, p.control.extent? = some e → e.inRange = true
  shown : ∀ e, p.display.ext = some e → e.inStore = true

/-- R100: a pane after clearing. -/
theorem paneCleared_inRange : paneCleared.InRange :=
  ⟨displayDefaults_ranged, fun _ h => (nomatch h), fun _ h => (nomatch h)⟩

/-- R87: the pane of a SNAP-PANE. -/
theorem readPaneRecord_inRange {bs : List Byte} {i : Fin 32} {p : Pane} (h : readPaneRecord bs = some (i, p)) : p.InRange := by
  rw [readPaneRecord.eq_def] at h
  split at h
  · split at h
    · simp only [Option.bind_eq_bind, Option.bind_eq_some_iff] at h
      obtain ⟨ctl, hctl, dsp, hdsp, control, hcontrol, fields, -, h⟩ := h
      split at h
      next hr =>
        cases h
        exact ⟨(applyFields_inRange hr displayDefaults_ranged).withExt dsp, fun e he => readExtent_inRange hctl (controlOf_extent hcontrol he),
          fun e he => Extent.inStore_of_inRange (readExtent_inRange hdsp he)⟩
      next => cases h
    · cases h
  · cases h

end Sys2Proof.Machine
end

section
/-! PROOF. O11, its invariant: what a station holds in range; and the shared operations, each once. -/

namespace Sys2Proof.Machine

/-! ### The fields in range -/

/-- R168, R170: what the packets of the transmit queue ask for. -/
def State.requests (s : State) : List Request := s.tx.queue.map Queued.request

/-- `State.fieldsSound`, part by part. -/
structure State.InRange (s : State) : Prop where
  panes : ∀ i, (s.pane i).InRange
  free : ∀ e ∈ s.store.freeList, e.inRange = true
  staging : ∀ x ∈ s.ep.staging, x.op.inRange = true
  queue : ∀ r ∈ s.requests, r.inRange = true
  config : ∀ f, s.raster.config = some f → f.inRange = true
  timing : ∀ f, s.raster.timing = some f → f.inRange = true
  snapPos : ∀ k, s.mb.snapPos = some k → k.inRange = true

/-- R119: a CLEAR entry in range writes within the Cell Store. -/
theorem EntryOp.clear_inRange {p : Byte} {e : Extent} (h : (EntryOp.clear p e).inRange = true) : e.inStore = true :=
  (Bool.and_eq_true_iff.1 h).2

theorem State.fieldsSound_iff (s : State) : s.fieldsSound ↔ s.InRange := by
  constructor
  · rintro ⟨hdisplay, hextents, ⟨hshown, -⟩, hstaging, hqueue, hconfig, htiming, hsnap⟩
    refine ⟨fun i => ⟨((fullFields_inRange_iff _ _).1 (hdisplay i)).2, fun e he => hextents e ?_, hshown i⟩,
      fun e he => hextents e (List.mem_append_right _ he), hstaging, List.forall_mem_map.2 hqueue, hconfig, htiming, hsnap⟩
    exact List.mem_append_left _ (List.mem_filterMap.2 ⟨i, List.mem_finRange i, he⟩)
  · rintro ⟨hpanes, hfree, hstaging, hqueue, hconfig, htiming, hsnap⟩
    refine ⟨fun i => (fullFields_inRange_iff _ _).2 ⟨paneInRange_byte i, (hpanes i).display⟩, fun e he => ?_,
      ⟨fun i => (hpanes i).shown, fun x hx p e hop => ?_⟩, hstaging, List.forall_mem_map.1 hqueue, hconfig, htiming, hsnap⟩
    · obtain he | he := List.mem_append.1 he
      · obtain ⟨i, -, hi⟩ := List.mem_filterMap.1 he
        exact (hpanes i).held e hi
      · exact hfree e he
    · exact EntryOp.clear_inRange (hop ▸ hstaging x hx)

/-- What `State.InRange` reads of a station. -/
def State.rangeView (s : State) :
    Vector Pane 32 × List Extent × List Entry × List Request × Option TileFields × Option TileFields × Option SnapPos :=
  (s.panes, s.store.freeList, s.ep.staging, s.requests, s.raster.config, s.raster.timing, s.mb.snapPos)

theorem State.setPane_pane (s : State) (i k : Fin 32) (p : Pane) : (s.setPane i p).pane k = if k = i then p else s.pane k := by
  by_cases h : k = i
  · subst h
    simp [State.setPane, State.pane]
  · have : i.val ≠ k.val := fun hv => h (Fin.ext hv.symm)
    simp [State.setPane, State.pane, h, this]

theorem reset_inRange : State.reset.InRange := State.reset.fieldsSound_iff.1 reset_fieldsSound

theorem State.enqueue_requests (s : State) (r : Request) : (s.enqueue r).requests = s.requests ++ [r] := by
  simp [State.requests, State.enqueue]

theorem State.removeQueued_requests (s : State) (p : Queued → Bool) : (s.removeQueued p).requests ⊆ s.requests := by
  have hqueue : (s.removeQueued p).tx.queue = s.tx.queue.filter fun q => !p q := by
    simp only [State.removeQueued]
    split <;> rfl
  rw [State.requests, hqueue]
  exact List.map_subset _ (List.filter_subset_self _)

/-- R35: a counted refusal changes no request. -/
theorem State.countRefusal_requests (s : State) : s.countRefusal.requests = s.requests := by
  simp only [State.countRefusal, State.requests]
  (repeat' split) <;> simp [*]

/-- R35: a report of a packet taken removes the head of the queue at most. -/
theorem State.reportTaken_requests (s : State) : s.reportTaken.requests ⊆ s.requests := by
  have hqueue : s.reportTaken.tx.queue ⊆ s.tx.queue := by
    simp only [State.reportTaken]
    (repeat' split) <;> simp [State.dropRecord, State.tidyBatches, State.endAttempt, List.tail_subset]
  exact List.map_subset _ hqueue

/-- R85: the next position of a snapshot. -/
theorem SnapPos.advance_inRange {fl : List Extent} {k k' : SnapPos} (h : k.advance fl = some k') : k'.inRange = true := by
  cases k with
  | head => cases h; rfl
  | pane i =>
    simp only [SnapPos.advance, Option.some.injEq] at h
    subst h
    split
    next hi => exact decide_eq_true (Nat.succ_le_of_lt hi)
    next => rfl
  | free c => simp only [SnapPos.advance, Option.some.injEq] at h; subst h; split <;> rfl
  | palette j =>
    simp only [SnapPos.advance, Option.some.injEq] at h
    subst h
    split
    next hj => exact decide_eq_true (Nat.succ_le_of_lt hj)
    next => rfl
  | cells i =>
    simp only [SnapPos.advance, Option.some.injEq] at h
    subst h
    split
    next hi => exact decide_eq_true (Nat.succ_le_of_lt hi)
    next => rfl
  | tail => cases h

namespace State.InRange

variable {s t : State}

theorem ite {c : Prop} [Decidable c] (hs : c → s.InRange) (ht : ¬ c → t.InRange) : State.InRange (if c then s else t) := by
  split
  next h => exact hs h
  next h => exact ht h

theorem foldl {α : Type} {f : State → α → State} (hf : ∀ u a, State.InRange u → (f u a).InRange) (l : List α) (h : s.InRange) :
    (l.foldl f s).InRange := by
  induction l generalizing s with
  | nil => exact h
  | cons a l ih => exact ih (hf s a h)

/-- Entries and packets may go, and the snapshot position too. -/
theorem mono (h : s.InRange) (hpanes : t.panes = s.panes) (hfree : t.store.freeList = s.store.freeList)
    (hstaging : t.ep.staging ⊆ s.ep.staging) (hqueue : t.requests ⊆ s.requests) (hconfig : t.raster.config = s.raster.config)
    (htiming : t.raster.timing = s.raster.timing) (hsnap : t.mb.snapPos = none ∨ t.mb.snapPos = s.mb.snapPos) : t.InRange := by
  refine ⟨fun i => ?_, ?_, fun x hx => h.staging x (hstaging hx), fun r hr => h.queue r (hqueue hr), ?_, ?_, fun k hk => ?_⟩
  · rw [State.pane, hpanes]; exact h.panes i
  · rw [hfree]; exact h.free
  · rw [hconfig]; exact h.config
  · rw [htiming]; exact h.timing
  · obtain hsnap | hsnap := hsnap
    · cases hsnap.symm.trans hk
    · exact h.snapPos k (hsnap ▸ hk)

/-- A change that leaves alone what the ranges read. -/
theorem of_view (h : s.InRange) (hv : t.rangeView = s.rangeView) : t.InRange := by
  simp only [State.rangeView, Prod.mk.injEq] at hv
  obtain ⟨hpanes, hfree, hstaging, hqueue, hconfig, htiming, hsnap⟩ := hv
  exact h.mono hpanes hfree (hstaging ▸ List.Subset.refl _) (hqueue ▸ List.Subset.refl _) hconfig htiming (.inr hsnap)

/-- A change of none of the blocks that the ranges read. -/
theorem of_blocks (h : s.InRange) (hp : t.panes = s.panes) (hs : t.store = s.store) (he : t.ep = s.ep) (hx : t.tx = s.tx)
    (hr : t.raster = s.raster) (hm : t.mb = s.mb) : t.InRange :=
  h.of_view (by simp [State.rangeView, State.requests, *])

/-! ### Events, panes, entries and packets -/

theorem postAt (h : s.InRange) (e : Half) (k : EventKind) (a : Byte) (b c : Half) : (s.postAt e k a b c).InRange :=
  h.of_blocks (by simp) (by simp) (by simp) (by simp) (by simp) (by simp)

theorem post (h : s.InRange) (k : EventKind) (a : Byte) (b c : Half) : (s.post k a b c).InRange := h.postAt _ k a b c

theorem postEach (h : s.InRange) (e : Half) (k : EventKind) (l : List Byte) : (s.postEach e k l).InRange :=
  foldl (fun _ a hu => hu.postAt e k a 0 0) l h

theorem revote (h : s.InRange) : s.revote.InRange := h.of_view rfl

theorem setPane (h : s.InRange) (i : Fin 32) {p : Pane} (hp : p.InRange) : (s.setPane i p).InRange := by
  refine ⟨fun k => ?_, h.free, h.staging, h.queue, h.config, h.timing, h.snapPos⟩
  rw [State.setPane_pane]
  split
  · exact hp
  · exact h.panes k

theorem setControl (h : s.InRange) (i : Fin 32) {c : Control} (hc : ∀ e, c.extent? = some e → e.inRange = true) :
    (s.setControl i c).InRange :=
  h.setPane i ⟨(h.panes i).display, hc, (h.panes i).shown⟩

theorem setDisplay (h : s.InRange) (i : Fin 32) {d : Display} (hd : d.InRange) (he : ∀ e, d.ext = some e → e.inStore = true) :
    (s.setDisplay i d).InRange :=
  h.setPane i ⟨hd, (h.panes i).held, he⟩

/-- R102, R123: the free-extent list replaced. -/
theorem setFree (h : s.InRange) {fl : List Extent} (hfl : ∀ e ∈ fl, e.inRange = true) :
    State.InRange { s with store := { s.store with freeList := fl } } :=
  ⟨h.panes, hfl, h.staging, h.queue, h.config, h.timing, h.snapPos⟩

/-- R47: an entry staged. -/
theorem stage (h : s.InRange) (c : EpochClass) (i : StationId) (g : Option Byte) {o : EntryOp} (ho : o.inRange = true) :
    (s.stage c i g o).InRange :=
  ⟨h.panes, h.free, List.forall_mem_append.2 ⟨h.staging, List.forall_mem_singleton.2 ho⟩, h.queue, h.config, h.timing, h.snapPos⟩

/-- R29: a request appended. -/
theorem enqueue (h : s.InRange) {r : Request} (hr : r.inRange = true) : (s.enqueue r).InRange := by
  refine ⟨h.panes, h.free, h.staging, ?_, h.config, h.timing, h.snapPos⟩
  rw [State.enqueue_requests]
  exact List.forall_mem_append.2 ⟨h.queue, List.forall_mem_singleton.2 hr⟩

theorem removeQueued (h : s.InRange) (p : Queued → Bool) : (s.removeQueued p).InRange :=
  h.mono (by simp) (by simp) (by simp) (s.removeQueued_requests p) (by simp) (by simp) (.inr (by simp))

theorem withdrawJoin (h : s.InRange) : s.withdrawJoin.InRange := h.removeQueued _

theorem withdrawFound (h : s.InRange) : s.withdrawFound.InRange := h.removeQueued _

theorem dropHead (h : s.InRange) : s.dropHead.InRange :=
  h.mono rfl rfl (List.Subset.refl _) (List.map_subset _ (List.tail_subset _)) rfl rfl (.inr rfl)

/-- R36: a batch broken loses its packets. -/
theorem breakBatch (h : s.InRange) (g : Byte) : (s.breakBatch g).InRange := by
  have hqueued := h.removeQueued fun q => decide (q.request.tag? = some g)
  simp only [State.breakBatch]
  split
  · exact ((hqueued.of_view rfl : State.InRange (State.raiseRetract _ g)).post .batchBroken g 0 0).of_view rfl
  · exact ((hqueued.of_view rfl : State.InRange (State.dropRecord _ g)).post .batchBroken g 0 0).of_view rfl

theorem noteTaken (h : s.InRange) (g : Byte) : (s.noteTaken g).InRange := by
  simp only [State.noteTaken]
  split <;> exact h.of_view rfl

/-! ### The link's packet -/

theorem countRefusal (h : s.InRange) : s.countRefusal.InRange :=
  h.of_view (by simp [State.rangeView, State.countRefusal_requests])

/-- R85: a taken snapshot packet advances the position. -/
theorem reportTaken (h : s.InRange) : s.reportTaken.InRange := by
  have hsnap (k : SnapPos) (hk : s.reportTaken.mb.snapPos = some k) : k.inRange = true := by
    simp only [State.reportTaken] at hk
    (repeat' split at hk)
    case h_6 =>
      obtain ⟨k', -, hadvance⟩ := Option.bind_eq_some_iff.1 hk
      exact SnapPos.advance_inRange hadvance
    all_goals exact h.snapPos k hk
  refine ⟨fun i => ?_, ?_, ?_, fun r hr => h.queue r (s.reportTaken_requests hr), ?_, ?_, hsnap⟩
  · simpa [State.pane] using h.panes i
  · simpa using h.free
  · simpa using h.staging
  · simpa using h.config
  · simpa using h.timing

theorem reportRefused (h : s.InRange) : s.reportRefused.InRange :=
  State.InRange.of_view (.ite (fun _ => h) fun _ => h.countRefusal) rfl

theorem disconnect (h : s.InRange) : s.disconnect.InRange :=
  h.of_blocks (by simp) (by simp) (by simp) (by simp) (by simp) (by simp)

theorem endPacket (h : s.InRange) (n : Nat) : (s.endPacket n).InRange := by
  have hcount : State.InRange (if s.sending && decide (s.link.slot = .pending) then s.countRefusal else s) :=
    .ite (fun _ => h.countRefusal) fun _ => h
  simp only [State.endPacket]
  generalize (if s.sending && decide (s.link.slot = .pending) then s.countRefusal else s) = u at hcount
  split <;> exact hcount.of_view rfl

theorem refused (h : s.InRange) : s.refused.InRange := by
  have hreport : State.InRange (if s.sending then s.reportRefused else s) := .ite (fun _ => h.reportRefused) fun _ => h
  refine .ite (fun _ => ?_) fun _ => h
  generalize (if s.sending then s.reportRefused else s) = u at *
  have hreleased : State.InRange (if s.link.role = some .observer then u.releaseLink else u) :=
    .ite (fun _ => hreport.of_view rfl) fun _ => hreport
  exact hreleased.of_view rfl

/-! ### Membership entered and left -/

theorem enterListening (h : s.InRange) : s.enterListening.InRange := h.of_view rfl

theorem enterRequesting (h : s.InRange) : s.enterRequesting.InRange := h.of_view rfl

/-- R39: a purge leaves no packet. -/
theorem purge (h : s.InRange) : s.purge.InRange :=
  h.mono rfl rfl (List.Subset.refl _) (List.nil_subset _) rfl rfl (.inr rfl)

/-- R44, R100, R121: the shared state cleared holds no entry and no extent. -/
theorem clearShared (h : s.InRange) : s.clearShared.InRange := by
  refine ⟨fun i => ?_, fun _ he => absurd he List.not_mem_nil, fun _ hx => absurd hx List.not_mem_nil, h.queue, h.config, h.timing,
    h.snapPos⟩
  have : s.clearShared.pane i = paneCleared := by simp [State.pane, panesCleared]
  rw [this]
  exact paneCleared_inRange

theorem unlock (h : s.InRange) : s.unlock.InRange := h.of_view rfl

/-- R70: a Membership Unit cleared holds no snapshot position. -/
theorem setMembership (h : s.InRange) {m : Membership} (hm : m.snapPos = none) : State.InRange { s with mb := m } :=
  h.mono rfl rfl (List.Subset.refl _) (List.Subset.refl _) rfl rfl (.inl hm)

theorem cleared (h : s.InRange) : s.cleared.InRange :=
  (h.purge.clearShared.unlock.setMembership (m := membershipCleared .offline) rfl).of_view rfl

theorem removeSelf (h : s.InRange) (cause : EventKind) (arg : Byte) (o : Bool) : (s.removeSelf cause arg o).InRange := by
  have hposted : (s.removalPosted cause arg).InRange :=
    .ite (fun _ => ((h.postAt _ _ _ _ _).postEach _ _ _).postEach _ _ _) fun _ => h.postAt _ _ _ _ _
  rw [State.removeSelf_posted]
  exact State.InRange.revote (.ite (fun _ => hposted.cleared.disconnect) fun _ => hposted.cleared.enterListening)

/-- R93, R109: entries go, and an orphan keeps its extent. -/
theorem removeOther (h : s.InRange) (i : StationId) (k : EventKind) : (s.removeOther i k).InRange := by
  have posts {u : State} (hu : u.InRange) : State.InRange (if u.isMember then u.post k (idByte i) 0 0 else u) :=
    .ite (fun _ => hu.post _ _ _ _) fun _ => hu
  simp only [State.removeOther]
  refine State.InRange.revote (posts ?_)
  refine ⟨fun j => ?_, h.free, fun x hx => h.staging x (List.mem_filter.1 hx).1, h.queue, h.config, h.timing, h.snapPos⟩
  have hpane := h.panes j
  simp only [State.pane, Vector.getElem_ofFn] at *
  have orphaned {e : Extent} (he : s.panes[j.val].control.extent? = some e) : Pane.InRange { s.panes[j.val] with control := .orphan e } :=
    ⟨hpane.display, fun _ heq => hpane.held _ (he.trans heq), hpane.shown⟩
  split
  next o e hc => split; exacts [orphaned (by rw [hc]; rfl), hpane]
  next e hc => split; exacts [orphaned (by rw [hc]; rfl), hpane]
  next => exact hpane

end State.InRange

end Sys2Proof.Machine
end

section
/-! PROOF. O11: the ranges through an observer's hearing, a delivery, a rise and every command. -/

namespace Sys2Proof.Machine

/-- R26: an update that passes the delivery checks is in range. -/
theorem State.updateCheck_inRange {s : State} {i : StationId} {u : TaggedUpdate} {c : EpochClass} (h : s.updateCheck i u = .ok c) :
    u.update.inRange = true := by
  simp only [State.updateCheck] at h
  split at h
  · cases h
  split at h
  · cases h
  split at h
  · cases h
  next hr => simpa using hr

namespace State.InRange

variable {s t : State}

/-! ### What an observer hears (R15) -/

/-- R74, R75: a JOIN asked has no field to bound. -/
theorem evidence (h : s.InRange) (rise : Bool) : (s.evidence rise).InRange := by
  have seen {u : State} (hu : u.InRange) : State.InRange { u with mb := { u.mb with groupSeen := true } } := hu.of_view rfl
  have asks {u : State} (hu : u.InRange) : (u.enqueue .join).enterRequesting.InRange := (hu.enqueue rfl).enterRequesting
  simp only [State.evidence]
  split
  · exact asks (seen h)
  · exact .ite (fun _ => seen h) fun _ => asks (seen h.withdrawFound)
  · exact .ite (fun _ => (seen h).of_view rfl) fun _ => seen h
  · exact h

/-- R77, R121: a founder's free-extent list is the whole Cell Store. -/
theorem foundGroup (h : s.InRange) : s.foundGroup.InRange := by
  have hcleared := h.clearShared.setMembership (m := { membershipCleared .member with roster := idSet s.stationId }) rfl
  have hstore : State.InRange { s.clearShared with
      link := { s.link with riseSample := if s.link.riseSample = some true then none else s.link.riseSample }
      mb := { membershipCleared .member with roster := idSet s.stationId }
      store := ⟨[], [⟨0, Config.granules⟩]⟩ } :=
    (hcleared.setFree (fl := [⟨0, Config.granules⟩]) (by decide)).of_view rfl
  exact (hstore.post .founded 0 0 0).revote

theorem ownFound (h : s.InRange) : s.ownFound.InRange :=
  .ite (fun _ => .ite (fun _ => h.enterRequesting) fun _ => h.foundGroup) fun _ => h

theorem ownFoundLost (h : s.InRange) : s.ownFoundLost.InRange := .ite (fun _ => h.enterListening) fun _ => h

theorem hearDenial (h : s.InRange) (p : List Byte) : (s.hearDenial p).InRange := by
  simp only [State.hearDenial]
  split
  · refine .ite (fun _ => State.InRange.post ?_ _ _ _ _) fun _ => h
    exact h.of_view rfl
  · exact h

/-- R86: a joiner begins with no entry and no snapshot position. -/
theorem hearHead (h : s.InRange) (i : StationId) (p : List Byte) : (s.hearHead i p).InRange := by
  simp only [State.hearHead]
  split
  · exact .ite (fun _ => h.withdrawJoin.mono rfl rfl (List.nil_subset _) (List.Subset.refl _) rfl rfl (.inl rfl)) fun _ => h
  · exact h

theorem observe (h : s.InRange) (k : Kind) (i : StationId) (p : List Byte) : (s.observe k i p).InRange := by
  simp only [State.observe]
  split
  · exact .ite (fun _ => h.ownFound) fun _ => h.evidence false
  · exact h.evidence false
  · exact h.hearDenial p
  · exact h.hearHead i p
  · exact h

/-! ### A packet delivered (R26, R47) -/

theorem foreign (h : s.InRange) (i : StationId) (k : Kind) : (s.foreign i k).InRange :=
  .ite (fun _ => (h.post _ _ _ _).of_view rfl) fun _ => h

theorem voidEvent (h : s.InRange) (i : StationId) (e : EventKind) (r : Reason) (a b : Half) : (s.voidEvent i e r a b).InRange :=
  .ite (fun _ => h.post _ _ _ _) fun _ => h

/-- R47: an update is staged as it passed its checks. -/
theorem deliverUpdate (h : s.InRange) (k : Kind) (i : StationId) (p : List Byte) : (s.deliverUpdate k i p).InRange := by
  simp only [State.deliverUpdate]
  split
  · exact h
  next u _ =>
    split
    · exact h.foreign i k
    · exact h.voidEvent i _ _ _ _
    next c hc =>
      have hstaged : (s.stage c i (some u.batchTag) (.update u.update)).InRange := h.stage c i _ (State.updateCheck_inRange hc)
      exact .ite (fun _ => hstaged.noteTaken _) fun _ => hstaged

/-- R102 to R104: the extent claimed is the first fit's, and the extent adopted the orphan's. -/
theorem deliverClaim (h : s.InRange) (i : StationId) (p : List Byte) : (s.deliverClaim i p).InRange := by
  have wins {u : State} (hu : u.InRange) (c : Prop) [Decidable c] (a : Byte) (b d : Half) :
      State.InRange (if c then u.post .claimWon a b d else u) :=
    .ite (fun _ => hu.post _ _ _ _) fun _ => hu
  simp only [State.deliverClaim]
  split
  · exact h
  next g n _ =>
    refine .ite (fun _ => h.foreign i _) fun _ => ?_
    split
    · exact h.voidEvent i _ _ _ _
    refine .ite (fun _ => h.voidEvent i _ _ _ _) fun hlegal => ?_
    rw [Bool.not_eq_true', Bool.not_eq_false, Bool.and_eq_true] at hlegal
    split
    · exact h.voidEvent i _ _ _ _
    next b fl hclaim =>
      obtain ⟨hgiven, hleft⟩ := firstFit_inRange (claimOutcome_claimed hclaim) h.free (claimOutcome_firstFit hclaim)
      refine wins (((h.setFree hleft).setControl (paneIx g) fun e he => ?_).stage _ _ _ ?_) _ _ _ _
      · cases he; exact hgiven
      · exact Bool.and_eq_true_iff.2 ⟨hlegal.1, Extent.inStore_of_inRange hgiven⟩
    next hadopt =>
      refine wins (h.setControl _ fun e he => ?_) _ _ _ _
      cases he
      exact (h.panes _).held _ (by rw [claimOutcome_orphan hadopt]; rfl)

/-- R105: a HANDOVER moves an extent from owner to owner. -/
theorem deliverHandover (h : s.InRange) (i : StationId) (p : List Byte) : (s.deliverHandover i p).InRange := by
  have posts {u : State} (hu : u.InRange) (c : Prop) [Decidable c] (e : EventKind) (a : Byte) (b : Half) :
      State.InRange (if c then u.post e a b 0 else u) :=
    .ite (fun _ => hu.post _ _ _ _) fun _ => hu
  simp only [State.deliverHandover]
  split
  · exact h
  refine .ite (fun _ => h.foreign i _) fun _ => ?_
  split
  · split
    next hc =>
      refine .ite (fun _ => h.voidEvent i _ _ _ _) fun _ => .ite (fun _ => h.voidEvent i _ _ _ _) fun _ => ?_
      refine posts (posts (h.setControl _ fun e he => ?_) _ _ _ _) _ _ _ _
      cases he
      exact (h.panes _).held _ (by rw [hc]; rfl)
    · exact h.voidEvent i _ _ _ _
  · exact h.voidEvent i _ _ _ _

/-- R107: a pane released holds its extent still. -/
theorem deliverRelease (h : s.InRange) (i : StationId) (p : List Byte) : (s.deliverRelease i p).InRange := by
  simp only [State.deliverRelease]
  split
  · exact h
  refine .ite (fun _ => h.foreign i _) fun _ => ?_
  split
  · exact h.voidEvent i _ _ _ _
  split
  next hpane hc =>
    refine .ite (fun _ => ?_) fun _ => h.voidEvent i _ _ _ _
    refine State.InRange.stage (h.setControl _ fun e he => ?_) _ _ _ hpane
    cases he
    exact (h.panes _).held _ (by rw [hc]; rfl)
  · exact h.voidEvent i _ _ _ _

/-- R53: a RETRACT takes entries away. -/
theorem deliverRetract (h : s.InRange) (i : StationId) (p : List Byte) : (s.deliverRetract i p).InRange := by
  simp only [State.deliverRetract]
  split
  · exact h
  refine .ite (fun _ => h.foreign i _) fun _ => ?_
  split
  · exact h
  · exact h.mono rfl rfl (List.filter_subset_self _) (List.Subset.refl _) rfl rfl (.inr rfl)

theorem deliverClose (h : s.InRange) (i : StationId) (p : List Byte) : (s.deliverClose i p).InRange := by
  simp only [State.deliverClose]
  split
  · exact h
  refine .ite (fun _ => h.foreign i _) fun _ => .ite (fun _ => .ite (fun _ => ?_) fun _ => h) fun _ => .ite (fun _ => ?_) fun _ => h
  all_goals exact h.of_view rfl

theorem deliverJoin (h : s.InRange) (i : StationId) (p : List Byte) : (s.deliverJoin i p).InRange := by
  have raises (j : StationId) (r : DenyReason) : (s.raiseDenial j r).InRange := .ite (fun _ => h.of_view rfl) fun _ => h
  simp only [State.deliverJoin]
  split
  · exact h
  split
  · exact raises _ _
  · exact h
  · exact h.of_view rfl

/-- R83: a transfer's end drops the snapshot position. -/
theorem endTransfer (h : s.InRange) : s.endTransfer.InRange := h.setMembership rfl

theorem admitJoiner (h : s.InRange) (i : StationId) : (s.admitJoiner i).InRange := by
  have joins : State.InRange { s.endTransfer with mb := { s.endTransfer.mb with roster := idAdd i s.endTransfer.mb.roster } } :=
    h.endTransfer.of_view rfl
  have drops {u : State} (hu : u.InRange) : u.dropDenials.InRange := .ite (fun _ => hu) fun _ => hu.of_view rfl
  simp only [State.admitJoiner]
  refine State.InRange.revote (.ite (fun _ => State.InRange.post ?_ _ _ _ _) fun _ => drops (joins.post _ _ _ _))
  exact joins.of_view rfl

theorem deliverJoinDone (h : s.InRange) (i : StationId) (p : List Byte) : (s.deliverJoinDone i p).InRange := by
  simp only [State.deliverJoinDone]
  split
  · exact h
  exact .ite (fun _ => h) fun _ => .ite (fun _ => h.admitJoiner i) fun _ => .ite (fun _ => h.removeSelf _ _ _) fun _ => h.endTransfer.revote

theorem deliverLeave (h : s.InRange) (i : StationId) : (s.deliverLeave i).InRange :=
  .ite (fun _ => h.foreign i _) fun _ => .ite (fun _ => h.removeSelf _ _ _) fun _ => h.removeOther i _

theorem deliverHead (h : s.InRange) (i : StationId) (p : List Byte) : (s.deliverHead i p).InRange := by
  simp only [State.deliverHead]
  refine .ite (fun _ => .ite (fun _ => h) fun _ => h.of_view rfl) fun _ => ?_
  split
  · exact .ite (fun _ => h.of_view rfl) fun _ => h
  · exact h

/-- R87: a snapshot packet is in range where its reader answers. -/
theorem assemble {α : Type} (h : s.InRange) (i : StationId) {c : Option α} {write : State → α → State}
    (hw : ∀ (u : State) (a : α), u.InRange → c = some a → (write u a).InRange) : (s.assemble i c write).InRange := by
  have counts : s.countPacket.InRange := h.of_view rfl
  refine .ite (fun _ => ?_) fun _ => h
  split
  · exact hw _ _ counts rfl
  · exact h.of_view rfl

theorem appendFree (h : s.InRange) (b : Byte) {es : List Extent} (hes : ∀ e ∈ es, e.inRange = true) : (s.appendFree b es).InRange := by
  simp only [State.appendFree]
  split
  · refine .ite (fun _ => ?_) fun _ => h.of_view rfl
    exact (h.setFree (List.forall_mem_append.2 ⟨h.free, hes⟩)).of_view rfl
  · exact h

theorem deliverEnd (h : s.InRange) (i : StationId) (p : List Byte) : (s.deliverEnd i p).InRange := by
  refine .ite (fun _ => ?_) fun _ => h
  split
  · exact h.of_view rfl
  · exact .ite (fun _ => h.of_view rfl) fun _ => h

theorem deliver (h : s.InRange) (k : Kind) (i : StationId) (p : List Byte) : (k.deliver i p s).InRange := by
  cases k with
  | found => exact .ite (fun _ => h) fun _ => h.deliverJoin i p
  | join => exact h.deliverJoin i p
  | joinDeny => exact h
  | joinDone => exact h.deliverJoinDone i p
  | leave => exact h.deliverLeave i
  | claim => exact h.deliverClaim i p
  | handover => exact h.deliverHandover i p
  | release => exact h.deliverRelease i p
  | retract => exact h.deliverRetract i p
  | close => exact h.deliverClose i p
  | putCells | fill | copy | setPane | setPalette => exact h.deliverUpdate _ i p
  | snapHead => exact h.deliverHead i p
  | snapPane => dsimp only [Kind.deliver]; exact h.assemble i fun u r hu hr => hu.setPane _ (readPaneRecord_inRange hr)
  | snapFree => dsimp only [Kind.deliver]; exact h.assemble i fun u r hu hr => hu.appendFree _ (readSnapFree_inRange hr)
  | snapPalette | snapCells => dsimp only [Kind.deliver]; exact h.assemble i fun u r hu _ => hu.of_view rfl
  | snapEnd => exact h.deliverEnd i p

/-! ### A packet taken (R14, R15, R35) -/

theorem taking (h : s.InRange) {deliver : State → State} (hd : ∀ u, State.InRange u → (deliver u).InRange) : (s.taking deliver).InRange := by
  have hdelivered : (deliver s.slotPassed).InRange := hd _ (h.of_view rfl)
  refine .ite (fun _ => .ite (fun _ => ?_) fun _ => hdelivered) fun _ => h
  exact hdelivered.reportTaken.of_view rfl

theorem take (h : s.InRange) (k : Kind) (i : StationId) (p : List Byte) : (s.take k i p (k.deliver i p)).InRange :=
  h.taking fun _ hu => .ite (fun _ => hu.deliver k i p) fun _ => .ite (fun _ => hu.observe k i p) fun _ => hu

theorem observeReceipt (h : s.InRange) (rx : RxPacket) : (s.observeReceipt rx).InRange := by
  simp only [State.observeReceipt]
  refine h.taking fun u hu => ?_
  have hbuffered : State.InRange { u with link := { u.link with rx := some rx.buffered } } := hu.of_view rfl
  refine .ite (fun _ => ?_) fun _ => .ite (fun _ => hbuffered.ownFoundLost) fun _ => hbuffered
  split
  · exact hbuffered.observe _ _ _
  · exact hbuffered

/-! ### A rise's effects (R54, R57, R58, R61, R90) -/

/-- R58, step 5: a pane freed returns its extent. -/
theorem freePane (h : s.InRange) (i : Fin 32) : (s.freePane i).InRange := by
  rw [State.freePane_eq]
  split
  next e he =>
    have hheld : e.inRange = true := (h.panes i).held e (by rw [Control.releasing?_iff.1 he]; rfl)
    exact (h.setControl i (c := .free) fun _ hf => nomatch hf).setFree (returnExtent_inRange hheld h.free)
  · exact h

/-- R58, steps 1 and 2: an entry promoted is the same entry in another epoch. -/
theorem commitEpochs (h : s.InRange) : s.commitEpochs.InRange := by
  refine ⟨h.panes, h.free, List.forall_mem_map.2 fun x hx => ?_, h.queue, h.config, h.timing, h.snapPos⟩
  have hop : x.promote.op = x.op := by
    rw [Entry.promote]
    split <;> rfl
  rw [hop]
  exact h.staging x hx

/-- R84: a transfer starts at SNAP-HEAD. -/
theorem startTransfer (h : s.InRange) : s.startTransfer.InRange := by
  simp only [State.startTransfer]
  split
  · refine .ite (fun _ => ⟨h.panes, h.free, h.staging, h.queue, h.config, h.timing, fun k hk => ?_⟩) fun _ => h
    dsimp only at hk
    split at hk
    · cases hk; rfl
    · exact h.snapPos k hk
  · exact h

theorem commit (h : s.InRange) : s.commit.InRange := by
  have hfreed : (s.commitEpochs.freePanes s.releasedPanes).InRange := foldl (fun _ i hu => hu.freePane i) _ h.commitEpochs
  have hdropped {u : State} (hu : u.InRange) (l : List Byte) : (u.dropRecords l).InRange :=
    foldl (f := State.dropRecord) (fun _ _ hv => hv.of_view rfl) l hu
  have hdecided : s.decided.InRange := (hdropped (hfreed.postEach _ .batchCommitted _) _).postEach _ .releaseDone _
  rw [State.commit_eq]
  exact hdecided.startTransfer.revote

theorem ageStep (h : s.InRange) : s.ageStep.InRange := by
  simp only [State.ageStep]
  split
  · exact h.of_view rfl
  · exact h

theorem stallStep (h : s.InRange) : s.stallStep.InRange := .ite (fun _ => h.of_view rfl) fun _ => h

theorem memberRise (h : s.InRange) (b : Bool) : (s.memberRise b).InRange :=
  foldl (fun _ g hu => hu.breakBatch g) _ (.ite (fun _ => h.ageStep.commit) fun _ => h.ageStep.stallStep)

end State.InRange

end Sys2Proof.Machine
end

section
/-! PROOF. O11: the ranges through every command. -/

namespace Sys2Proof.Machine

/-- R64: the entry that an apply pass takes next stands in the staging queue. -/
theorem State.nextOp_inRange {s : State} (h : s.InRange) {o : EntryOp} (ho : s.nextOp = some o) : o.inRange = true := by
  obtain ⟨x, hx, rfl⟩ := Option.map_eq_some_iff.1 ho
  rw [Epochs.nextToApply] at hx
  split at hx
  · exact h.staging x (List.mem_filter.1 (List.mem_of_getElem? hx)).1
  · cases hx

namespace State.InRange

variable {s t : State}

/-! ### The Host Port's commands -/

/-- R159: what the port adds to a command's effect is its own. -/
theorem evaluate (h : s.InRange) {n : Nat} {f : State → State × Status × List Byte} (hf : (f s).1.InRange) : (s.evaluate n f).InRange :=
  .ite (fun _ => hf.of_view rfl) fun _ => h

/-- R162: a configuration is held as it passed its checks. -/
theorem configure (h : s.InRange) (f : TileFields) : (s.configure f).1.InRange := by
  simp only [State.configure]
  split
  · exact h
  split
  · exact h
  next hf =>
    refine ⟨h.panes, h.free, h.staging, h.queue, fun g hg => ?_, h.timing, h.snapPos⟩
    cases hg
    simpa using hf

theorem loadFont (h : s.InRange) (b : Byte) (rows : Vector Byte 16) : (s.loadFont b rows).1.InRange := by
  simp only [State.loadFont]
  split
  · exact h
  · exact h.of_view rfl

/-- R139: a raster that starts takes the configuration held. -/
theorem startRaster (h : s.InRange) : s.startRaster.InRange :=
  .ite (fun _ => ⟨h.panes, h.free, h.staging, h.queue, h.config, h.config, h.snapPos⟩) fun _ => h

theorem goOnline (h : s.InRange) : s.goOnline.1.InRange := by
  have connects {u : State} (hu : u.InRange) (r : Option LinkRate) : (u.connect r).InRange :=
    hu.of_blocks (by simp) (by simp) (by simp) (by simp) (by simp) (by simp)
  simp only [State.goOnline]
  split
  · exact h
  split
  · exact h
  · exact (connects h.enterListening _).startRaster

theorem outsiderOffline (h : s.InRange) : s.outsiderOffline.InRange := by
  have hcleared : s.outsiderCleared.InRange :=
    State.InRange.setMembership (.ite (fun _ => h.purge.clearShared.unlock) fun _ => h.purge) (m := membershipCleared .offline) rfl
  rw [State.outsiderOffline_eq]
  exact hcleared.disconnect.revote

theorem discardBatch (h : s.InRange) : s.discardBatch.InRange := by
  simp only [State.discardBatch]
  split
  · exact (h.breakBatch _).of_view rfl
  · exact h.of_view rfl

theorem goOffline (h : s.InRange) : s.goOffline.1.InRange := by
  simp only [State.goOffline]
  split
  · exact h
  · split
    · exact h
    split
    · exact h
    · exact (h.discardBatch.enqueue (r := .leave) rfl).of_view rfl
  · exact h.outsiderOffline

theorem beginBatch (h : s.InRange) : s.beginBatch.1.InRange := by
  simp only [State.beginBatch]
  (repeat' split) <;> exact h.of_view rfl

theorem endBatch (h : s.InRange) : s.endBatch.1.InRange := by
  simp only [State.endBatch]
  (repeat' split) <;> exact h.of_view rfl

/-- R168: an update is queued as it passed its checks. -/
theorem submit (h : s.InRange) (u : Update) : (s.submit u).1.InRange := by
  have queued {v : State} (hv : v.InRange) (hu : ¬ (!u.inRange) = true) (g : Byte) : (v.enqueue (.update g u)).InRange :=
    hv.enqueue (r := .update g u) (by rwa [Bool.not_eq_true', Bool.not_eq_false] at hu)
  have given (g : BitVec 4) : (s.giveTag g true).InRange := h.of_view rfl
  simp only [State.submit]
  split
  · exact h
  split
  · exact h
  next hu =>
    split
    · exact h
    split
    · exact h
    · split
      · exact h
      split
      · exact h
      · exact (queued h hu _).of_view rfl
    · split
      · exact h
      split
      · exact h
      · exact queued (given _) hu _

/-- R170: a request is queued as it passed its checks. -/
theorem request (h : s.InRange) {b : Bool} {r : Request} (hr : b = true → r.inRange = true) : (s.request b r).1.InRange := by
  simp only [State.request]
  split
  · exact h
  split
  · exact h
  next hb =>
    split
    · exact h
    · exact h.enqueue (hr (by simpa using hb))

theorem readEvent (h : s.InRange) : s.readEvent.1.InRange := by
  simp only [State.readEvent]
  split
  · exact h.of_view rfl
  · exact h

end State.InRange

/-! ### The resets (R176, R177) -/

/-- R176: a soft reset keeps the configuration, and the timing or takes it anew. -/
theorem Raster.softReset_inRange {r : Raster} (hc : ∀ f, r.config = some f → f.inRange = true)
    (ht : ∀ f, r.timing = some f → f.inRange = true) : (∀ f, r.softReset.config = some f → f.inRange = true)
    ∧ ∀ f, r.softReset.timing = some f → f.inRange = true := by
  rw [Raster.softReset]
  split
  · exact ⟨fun _ h => (nomatch h), fun _ h => (nomatch h)⟩
  next f hf =>
    split
    · exact ⟨hc, ht⟩
    · exact ⟨fun g hg => by cases hg; exact hc f hf, fun g hg => by cases hg; exact hc f hf⟩

section

variable {s t : State}

theorem exec_softReset_inRange (h : s.InRange) {i : StationId} (hx : exec (.softReset i) s = .next t) : t.InRange := by
  rw [← next_eq hx]
  obtain ⟨hconfig, htiming⟩ := Raster.softReset_inRange h.config h.timing
  refine .ite (fun _ => State.InRange.post ?_ _ _ _ _) fun _ => h
  exact ⟨reset_inRange.panes, reset_inRange.free, reset_inRange.staging, reset_inRange.queue, hconfig, htiming, reset_inRange.snapPos⟩

/-! ### The Link Controller's commands -/

theorem exec_startCondition_inRange (h : s.InRange) {n : Nat} (hx : exec (.startCondition n) s = .next t) : t.InRange := by
  rw [← next_eq hx]
  split
  · exact .ite (fun _ => h.of_view rfl) fun _ => h
  · exact h

theorem exec_lostInArbitration_inRange (h : s.InRange) {n : Nat} (hx : exec (.lostInArbitration n) s = .next t) : t.InRange := by
  rw [← next_eq hx]
  split
  · refine .ite (fun _ => ?_) fun _ => h
    dsimp only
    split <;> exact h.of_view rfl
  · exact h

theorem exec_holdPoint_inRange (h : s.InRange) {rx : RxPacket} (hx : exec (.holdPoint rx) s = .next t) : t.InRange := by
  rw [← next_eq hx]
  refine .ite (fun _ => ?_) fun _ => h
  split
  · exact .ite (fun _ => h.of_view rfl) fun _ => h
  · exact h.of_view rfl
  · exact h

theorem exec_linkTimeout_inRange (h : s.InRange) (hx : exec .linkTimeout s = .next t) : t.InRange := by
  rw [← next_eq hx]
  refine .ite (fun _ => .ite (fun _ => h.endPacket 0) fun _ => State.InRange.post ?_ _ _ _ _) fun _ => h
  exact (h.endPacket 0).of_view rfl

/-! ### Rises, limits and timers -/

theorem exec_tlfRise_inRange (h : s.InRange) {b : Bool} (hx : exec (.tlfRise b) s = .next t) : t.InRange := by
  have hsampled : (s.sampleVote b).noteRise.InRange := State.InRange.of_view (s := s.sampleVote b) (.ite (fun _ => h) fun _ => h.of_view rfl) rfl
  rw [← next_eq hx]
  refine .ite (fun _ => h) fun _ => .ite (fun _ => State.InRange.post ?_ _ _ _ _) fun _ => .ite (fun _ => ?_) fun _ => hsampled
  all_goals exact hsampled.of_view rfl

theorem exec_tlfRiseEffects_inRange (h : s.InRange) (hx : exec .tlfRiseEffects s = .next t) : t.InRange := by
  have taken : State.InRange { s with link := { s.link with riseSample := none } } := h.of_view rfl
  rw [← next_eq hx]
  split
  · refine .ite (fun _ => h) fun _ => ?_
    dsimp only
    split
    · exact taken.memberRise _
    · exact taken.ageStep
    · exact taken.evidence true
  · exact h

theorem exec_stallLimit_inRange (h : s.InRange) (hx : exec .stallLimit s = .next t) : t.InRange := by
  have restarts : State.InRange { s with ep := { s.ep with stall := 0 } } := h.of_view rfl
  rw [← next_eq hx]
  exact .ite (fun _ => .ite (fun _ => h.removeSelf _ _ _) fun _ => .foldl (fun _ i hu => hu.removeOther i _) _ restarts) fun _ => h

theorem exec_transferLimit_inRange (h : s.InRange) (hx : exec .transferLimit s = .next t) : t.InRange := by
  rw [← next_eq hx]
  split
  · exact .ite (fun _ => .ite (fun _ => h.removeSelf _ _ _) fun _ => .ite (fun _ => h.endTransfer.revote) fun _ => h) fun _ => h
  · exact h

theorem exec_exhaustedUpdate_inRange (h : s.InRange) (hx : exec .exhaustedUpdate s = .next t) : t.InRange := by
  rw [← next_eq hx]
  split
  · split
    · exact .ite (fun _ => h.breakBatch _) fun _ => h
    · exact h
  · exact h

theorem exec_exhaustedRequest_inRange (h : s.InRange) (hx : exec .exhaustedRequest s = .next t) : t.InRange := by
  rw [← next_eq hx]
  split
  · refine .ite (fun _ => ?_) fun _ => h
    split
    case h_1 => exact h
    case h_2 | h_3 | h_4 => exact h.dropHead.post _ _ _ _
    case h_5 | h_6 => exact .ite (fun _ => h.dropHead.enterListening) fun _ => h.dropHead
    case h_7 => exact .ite (fun _ => h.dropHead.removeSelf _ _ _) fun _ => h.dropHead
  · exact h

/-- R38: an exhausted snapshot packet ends the source's sending. -/
theorem exec_selfDemotion_inRange (h : s.InRange) (hx : exec .selfDemotion s = .next t) : t.InRange := by
  rw [← next_eq hx]
  refine .ite (fun _ => h.removeSelf _ _ _) fun _ => ?_
  simp only [State.dropExhausted]
  split
  · exact h.mono rfl rfl (List.Subset.refl _) (List.Subset.refl _) rfl rfl (.inl rfl)
  · exact h.of_view rfl

theorem exec_listenIntervalExpiry_inRange (h : s.InRange) (hx : exec .listenIntervalExpiry s = .next t) : t.InRange := by
  rw [← next_eq hx]
  exact .ite (fun _ => (h.enqueue (r := .found) rfl).of_view rfl) fun _ => h

theorem exec_requestTimerExpiry_inRange (h : s.InRange) (hx : exec .requestTimerExpiry s = .next t) : t.InRange := by
  rw [← next_eq hx]
  refine .ite (fun _ => .ite (fun _ => ?_) fun _ => h.withdrawJoin.enterListening) fun _ => h
  exact (h.withdrawJoin.enqueue (r := .join) rfl).of_view rfl

/-! ### The raster and the apply pass -/

/-- R139: the configuration held takes effect at FRONT. -/
theorem exec_enterFront_inRange (h : s.InRange) (hx : exec .enterFront s = .next t) : t.InRange := by
  have hphase : (s.enterPhase .front).InRange := h.of_view rfl
  have htaken : (s.enterPhase .front).takeTiming.InRange := by
    simp only [State.takeTiming]
    split
    next f hf => exact ⟨h.panes, h.free, h.staging, h.queue, h.config, fun g hg => by cases hg; exact h.config f hf, h.snapPos⟩
    next => exact hphase
  have hlocked : (s.enterPhase .front).takeTiming.lockMember.InRange := .ite (fun _ => htaken.of_view rfl) fun _ => htaken
  have hpulled : (s.enterPhase .front).takeTiming.lockMember.pullFrame.InRange := hlocked.of_view rfl
  rw [← next_eq hx]
  exact .ite (fun _ => .ite (fun _ => hpulled.of_view rfl) fun _ => hpulled) fun _ => h

theorem exec_frameHoldLimit_inRange (h : s.InRange) (hx : exec .frameHoldLimit s = .next t) : t.InRange := by
  rw [← next_eq hx]
  refine .ite (fun _ => State.InRange.post ?_ _ _ _ _) fun _ => h
  exact h.of_view rfl

theorem exec_spanListBuild_inRange (h : s.InRange) {row : Nat} (hx : exec (.spanListBuild row) s = .next t) : t.InRange := by
  rw [← next_eq hx]
  split
  · refine .ite (fun _ => .ite (fun _ => State.InRange.post ?_ _ _ _ _) fun _ => ?_) fun _ => h
    all_goals exact h.of_view rfl
  · exact h

/-- R125: an entry that writes cells. -/
theorem State.cellEntry_inRange (h : s.InRange) {p : Byte} {w : Memory → Extent → Nat → Memory} (hx : s.cellEntry p w = .next t) :
    t.InRange := by
  simp only [State.cellEntry] at hx
  (repeat' split at hx) <;> cases hx
  all_goals exact h.of_view rfl

/-- R114: a CLEAR writes the pane defaults with its extent. -/
theorem exec_applyClear_inRange (h : s.InRange) (hx : exec .applyClear s = .next t) : t.InRange := by
  simp only [exec, execApplyClear] at hx
  split at hx
  · split at hx
    next he =>
      rw [← next_eq hx]
      have hcells {m : Memory} : (s.setCells m).InRange := h.of_view rfl
      exact (hcells.setDisplay _ (displayDefaults_ranged.withExt _) fun _ hf => by cases hf; exact he).of_view rfl
    next => cases hx
  · cases hx; exact h

/-- R113: a SET-PANE in range keeps the display fields in range. -/
theorem exec_applySetPane_inRange (h : s.InRange) (hx : exec .applySetPane s = .next t) : t.InRange := by
  simp only [exec, execApplySetPane] at hx
  split at hx
  next a ha =>
    have hpane := h.panes (paneIx a.pane)
    rw [← next_eq hx]
    exact (h.setDisplay _ (applyFields_inRange (State.nextOp_inRange h ha) hpane.display) hpane.shown).of_view rfl
  · cases hx; exact h

/-- R115: a RELEASE writes the pane defaults. -/
theorem exec_applyRelease_inRange (h : s.InRange) (hx : exec .applyRelease s = .next t) : t.InRange := by
  simp only [exec, execApplyRelease] at hx
  split at hx
  · rw [← next_eq hx]
    exact (h.setDisplay _ displayDefaults_ranged fun _ hf => nomatch hf).of_view rfl
  · cases hx; exact h

theorem exec_applyCells_inRange (h : s.InRange) {c : Instr} (hc : c ∈ [.applyPutCells, .applyFill, .applyCopy])
    (hx : exec c s = .next t) : t.InRange := by
  simp only [List.mem_cons, List.not_mem_nil, or_false] at hc
  rcases hc with rfl | rfl | rfl
  all_goals
    simp only [exec, execApplyPutCells, execApplyFill, execApplyCopy] at hx
    split at hx
    · exact State.cellEntry_inRange h hx
    · cases hx; exact h

theorem exec_applySetPalette_inRange (h : s.InRange) (hx : exec .applySetPalette s = .next t) : t.InRange := by
  simp only [exec, execApplySetPalette] at hx
  split at hx <;> cases hx
  · exact h.of_view rfl
  · exact h

/-- R65: the end of the pass takes entries away. -/
theorem exec_applyPassEnd_inRange (h : s.InRange) (hx : exec .applyPassEnd s = .next t) : t.InRange := by
  rw [← next_eq hx]
  exact .ite (fun _ => h.mono rfl rfl (List.filter_subset_self _) (List.Subset.refl _) rfl rfl (.inr rfl)) fun _ => h

/-! ### Every command -/

/-- Every command keeps the fields in range. -/
theorem exec_keeps_inRange {c : Instr} (h : s.InRange) (hx : exec c s = .next t) : t.InRange := by
  have taken (k : Kind) (i : StationId) (p : List Byte) (hc : c = k.taken i p) : t.InRange := by
    rw [hc, exec_taken] at hx
    rw [← next_eq hx]
    exact h.take k i p
  cases c with
  | powerOnReset => rw [← next_eq hx]; exact reset_inRange.of_view rfl
  | softReset => exact exec_softReset_inRange h hx
  | transactionStart | framingError | transactionEnd | eventRecordRemoval | startSeen | recoveryBusFree | frontEnd | syncEnd
  | followingWaitLimit | backEnd | tlfRelease =>
    rw [← next_eq hx]
    exact .ite (fun _ => h.of_view rfl) fun _ => h
  | badCommand => rw [← next_eq hx]; exact .ite (fun _ => h.evaluate h) fun _ => h
  | configure => rw [← next_eq hx]; exact h.evaluate (h.configure _)
  | loadFontB => rw [← next_eq hx]; exact h.evaluate (h.loadFont _ _)
  | goOnline => rw [← next_eq hx]; exact h.evaluate h.goOnline
  | goOffline => rw [← next_eq hx]; exact h.evaluate h.goOffline
  | reset => rw [← next_eq hx]; exact h.evaluate (h.of_view rfl)
  | beginBatch => rw [← next_eq hx]; exact h.evaluate h.beginBatch
  | endBatch => rw [← next_eq hx]; exact h.evaluate h.endBatch
  | putCells | fill | copy | setPane | setPalette => rw [← next_eq hx]; exact h.evaluate (h.submit _)
  | claim | handover | release => rw [← next_eq hx]; exact h.evaluate (h.request id)
  | readEvent => rw [← next_eq hx]; exact h.evaluate h.readEvent
  | readStatus => rw [← next_eq hx]; exact h.evaluate (.ite (fun _ => h.of_view rfl) fun _ => h)
  | readPane | readCells => rw [← next_eq hx]; exact h.evaluate (by split <;> exact h)
  | readRoster => rw [← next_eq hx]; exact h.evaluate h
  | startCondition => exact exec_startCondition_inRange h hx
  | lostInArbitration => exact exec_lostInArbitration_inRange h hx
  | holdPoint => exact exec_holdPoint_inRange h hx
  | packetRefused => rw [← next_eq hx]; exact h.refused
  | observerReceipt =>
    rw [← next_eq hx]
    exact .ite (fun _ => .ite (fun _ => h.observeReceipt _) fun _ => h.refused) fun _ => h
  | foundTaken i p => exact taken .found i p rfl
  | joinTaken i p => exact taken .join i p rfl
  | joinDenyTaken i p => exact taken .joinDeny i p rfl
  | joinDoneTaken i p => exact taken .joinDone i p rfl
  | leaveTaken i p => exact taken .leave i p rfl
  | claimTaken i p => exact taken .claim i p rfl
  | handoverTaken i p => exact taken .handover i p rfl
  | releaseTaken i p => exact taken .release i p rfl
  | retractTaken i p => exact taken .retract i p rfl
  | closeTaken i p => exact taken .close i p rfl
  | putCellsTaken i p => exact taken .putCells i p rfl
  | fillTaken i p => exact taken .fill i p rfl
  | copyTaken i p => exact taken .copy i p rfl
  | setPaneTaken i p => exact taken .setPane i p rfl
  | setPaletteTaken i p => exact taken .setPalette i p rfl
  | snapHeadTaken i p => exact taken .snapHead i p rfl
  | snapPaneTaken i p => exact taken .snapPane i p rfl
  | snapFreeTaken i p => exact taken .snapFree i p rfl
  | snapPaletteTaken i p => exact taken .snapPalette i p rfl
  | snapCellsTaken i p => exact taken .snapCells i p rfl
  | snapEndTaken i p => exact taken .snapEnd i p rfl
  | stopCondition | packetBreak | packetAbandoned => rw [← next_eq hx]; exact .ite (fun _ => h.endPacket _) fun _ => h
  | linkTimeout => exact exec_linkTimeout_inRange h hx
  | busFreeInterval | irregularTlcFall | holdLineEnd =>
    rw [← next_eq hx]
    dsimp only
    (repeat' split) <;> exact h.of_view rfl
  | tlfRise => exact exec_tlfRise_inRange h hx
  | tlfRiseEffects => exact exec_tlfRiseEffects_inRange h hx
  | stallLimit => exact exec_stallLimit_inRange h hx
  | transferLimit => exact exec_transferLimit_inRange h hx
  | exhaustedUpdate => exact exec_exhaustedUpdate_inRange h hx
  | exhaustedRequest => exact exec_exhaustedRequest_inRange h hx
  | selfDemotion => exact exec_selfDemotion_inRange h hx
  | listenIntervalExpiry => exact exec_listenIntervalExpiry_inRange h hx
  | requestTimerExpiry => exact exec_requestTimerExpiry_inRange h hx
  | enterFront => exact exec_enterFront_inRange h hx
  | applyClear => exact exec_applyClear_inRange h hx
  | applyPutCells | applyFill | applyCopy => exact exec_applyCells_inRange h (by simp) hx
  | applySetPane => exact exec_applySetPane_inRange h hx
  | applySetPalette => exact exec_applySetPalette_inRange h hx
  | applyRelease => exact exec_applyRelease_inRange h hx
  | applyPassEnd => exact exec_applyPassEnd_inRange h hx
  | frameHoldLimit => exact exec_frameHoldLimit_inRange h hx
  | spanListBuild => exact exec_spanListBuild_inRange h hx

end

/-- Settles O11: every command keeps `State.InRange`, which is `State.fieldsSound` part by part and reads no waiting command. -/
theorem stepKeepsFieldsInRange : Obligations.StepKeepsFieldsInRange := by
  intro s t hs hx
  rw [State.fieldsSound_iff] at *
  exact step_keeps_of_exec (P := State.InRange) (fun _ _ h => h.of_view rfl) (fun _ _ _ => exec_keeps_inRange) hs hx

end Sys2Proof.Machine
end

section
/-! PROOF. O60: the entries that write no cell, and the end of the apply pass. -/

namespace Sys2Proof.Machine

variable {s : State} {x : Entry}

/-- R64: the operation of the entry that the pass takes next. -/
theorem State.nextOp_of_nextToApply (hx : s.ep.nextToApply = some x) {o : EntryOp} (ho : x.op = o) : s.nextOp = some o := by
  rw [State.nextOp, hx, ← ho]
  rfl

theorem exec_applySetPane_next {a : SetPaneArgs} (ho : s.nextOp = some (.update (.setPane a))) {d : Display}
    (hd : applyFields a (s.displayOf a.pane) = d) : exec .applySetPane s = .next (s.advancePass.setDisplay (paneIx a.pane) d) := by
  simp only [exec, execApplySetPane, ho, ← hd]
  rfl

theorem exec_applySetPalette_next {a : SetPaletteArgs} (ho : s.nextOp = some (.update (.setPalette a))) :
    exec .applySetPalette s
      = .next { s.advancePass with palettes := (s.writePalette a.bank a.first.toNat a.colours).palettes } := by
  simp only [exec, execApplySetPalette, ho]
  rfl

theorem exec_applyRelease_next {p : Byte} (ho : s.nextOp = some (.release p)) :
    exec .applyRelease s = .next (s.advancePass.setDisplay (paneIx p) displayDefaults) := by
  simp only [exec, execApplyRelease, ho]
  rfl

/-- R87, R156: an entry of a bank after colours are written from an entry upward. -/
theorem State.writePalette_entry (s : State) {b : Byte} (hlow : 1 ≤ b.toNat) (hhigh : b.toNat ≤ 3) (f : Nat) (cs : List Colour)
    (j : Fin 3) (e : Fin 16) : (s.writePalette b f cs).palettes[j][e]
      = if j.val + 1 = b.toNat ∧ f ≤ e.val then cs.getD (e.val - f) s.palettes[j][e] else s.palettes[j][e] := by
  change (s.palettes.set ((b.toNat + 2) % 3) (writeColours s.palettes[(b.toNat + 2) % 3] f cs) (Nat.mod_lt _ (by decide)))[j.val][e.val] = _
  by_cases hj : (b.toNat + 2) % 3 = j.val
  · have hnamed : j.val + 1 = b.toNat := by omega
    simp [hj, hnamed, writeColours]
  · have hother : ¬ j.val + 1 = b.toNat := by omega
    simp [Vector.getElem_set_ne _ _ hj, hother]

/-- R65: the pass ends when every entry is applied. -/
theorem exec_applyPassEnd_done (hrun : s.ep.passRunning = true) (hdone : s.ep.applyingEntries.length ≤ s.ep.passDone) :
    exec .applyPassEnd s = .next ({ s with ep := { s.ep with
        staging := s.ep.staging.filter Entry.gathering, applied := s.ep.committed
        pendingApply := false, passRunning := false, passDone := 0 } } : State).revote := by
  change Host.Outcome.next (if _ then _ else _) = _
  rw [if_pos ⟨hrun, hdone⟩]

theorem exec_applyPassEnd_early (hleft : s.ep.passDone < s.ep.applyingEntries.length) : exec .applyPassEnd s = .next s := by
  change Host.Outcome.next (if _ then _ else _) = _
  rw [if_neg fun h => Nat.not_le_of_lt hleft h.2]

/-- Settles O60: an entry's effect by its operation, and the pass's end by whether every entry is applied. -/
theorem applyDisplayAndEnd : Obligations.ApplyDisplayAndEnd := by
  unfold Obligations.ApplyDisplayAndEnd
  refine ⟨fun s x hx => ⟨fun a ho => ?setPane, fun a ho hr => ?setPalette, fun p ho => ?release⟩,
    fun s hrun => ⟨fun hdone => exec_applyPassEnd_done hrun hdone, fun hleft => exec_applyPassEnd_early hleft⟩⟩
  case setPane =>
    refine exec_applySetPane_next (State.nextOp_of_nextToApply hx ho) ?_
    rw [applyFields, Display.mk.injEq]
    refine ⟨rfl, rfl, rfl, rfl, rfl, rfl, rfl, rfl, ?_, ?_, ?_, ?_, ?_, ?_, rfl⟩
    · cases a.font <;> rfl
    · cases a.bank <;> rfl
    · cases a.mode <;> rfl
    · cases a.underline <;> rfl
    · cases a.cursor <;> rfl
    · cases a.visible <;> rfl
  case release => exact exec_applyRelease_next (State.nextOp_of_nextToApply hx ho)
  case setPalette =>
    simp only [SetPaletteArgs.inRange, Bool.and_eq_true, decide_eq_true_eq] at hr
    obtain ⟨⟨⟨⟨hlow, hhigh⟩, -⟩, -⟩, -⟩ := hr
    have entry := s.writePalette_entry hlow hhigh a.first.toNat a.colours
    refine ⟨_, exec_applySetPalette_next (State.nextOp_of_nextToApply hx ho), fun j e hout => ?_, fun j n hn e hj he => ?_⟩
    · rw [entry]
      split
      next hin => exact List.getD_eq_default _ _ (by omega)
      next => rfl
    · have hn' : e.val - a.first.toNat = n := by omega
      rw [entry, if_pos ⟨hj, by omega⟩, hn', List.getD_eq_getElem _ _ hn]

end Sys2Proof.Machine
end

section
/-! PROOF. O55: the span list of a tile cell row. -/

namespace Sys2Proof.Machine

variable {s : State}

/-! ### The order of the list (R146) -/

theorem State.above_iff {i j : Fin 32} : s.above i j = true ↔
    (s.pane j).display.depth < (s.pane i).display.depth ∨ ((s.pane i).display.depth = (s.pane j).display.depth ∧ i < j) := by
  simp [State.above]

theorem State.above_trans {i j k : Fin 32} (hij : s.above i j = true) (hjk : s.above j k = true) : s.above i k = true := by
  rw [State.above_iff] at *
  obtain hij | ⟨heq, hlt⟩ := hij
  · obtain hjk | ⟨heq', -⟩ := hjk
    · exact .inl (BitVec.lt_trans hjk hij)
    · exact .inl (heq' ▸ hij)
  · obtain hjk | ⟨heq', hlt'⟩ := hjk
    · exact .inl (heq ▸ hjk)
    · exact .inr ⟨heq.trans heq', hlt.trans hlt'⟩

theorem State.above_of_not {i j : Fin 32} (hne : i ≠ j) (h : ¬ s.above i j = true) : s.above j i = true := by
  rw [State.above_iff] at *
  by_cases heq : (s.pane i).display.depth = (s.pane j).display.depth
  · exact .inr ⟨heq.symm, (lt_or_gt_of_ne hne).resolve_left fun hlt => h (.inr ⟨heq, hlt⟩)⟩
  · exact .inl (BitVec.lt_of_le_ne (BitVec.not_lt.1 fun hgt => h (.inl hgt)) heq)

theorem State.insertSpan_perm (i : Fin 32) (l : List (Fin 32)) : (s.insertSpan i l).Perm (i :: l) := by
  induction l with
  | nil => rfl
  | cons j t ih =>
    rw [State.insertSpan]
    split
    · rfl
    · exact (ih.cons j).trans (.swap i j t)

/-- R146: a pane that is new to the list is placed in its order. -/
theorem State.insertSpan_pairwise {i : Fin 32} {l : List (Fin 32)} (hnew : i ∉ l) (hl : l.Pairwise (s.above · · = true)) :
    (s.insertSpan i l).Pairwise (s.above · · = true) := by
  induction l with
  | nil => exact List.pairwise_singleton _ _
  | cons j t ih =>
    obtain ⟨hj, ht⟩ := List.pairwise_cons.1 hl
    obtain ⟨hne, hrest⟩ := not_or.1 (List.mem_cons.not.1 hnew)
    rw [State.insertSpan]
    split
    next hij =>
      refine List.pairwise_cons.2 ⟨fun k hk => ?_, hl⟩
      obtain rfl | hk := List.mem_cons.1 hk
      · exact hij
      · exact State.above_trans hij (hj k hk)
    next hij =>
      refine List.pairwise_cons.2 ⟨fun k hk => ?_, ih hrest ht⟩
      obtain rfl | hk := List.mem_cons.1 ((State.insertSpan_perm i t).mem_iff.1 hk)
      · exact State.above_of_not hne hij
      · exact hj k hk

theorem State.foldr_insertSpan_perm (l : List (Fin 32)) : (l.foldr s.insertSpan []).Perm l := by
  induction l with
  | nil => rfl
  | cons i t ih => exact (State.insertSpan_perm i _).trans (ih.cons i)

theorem State.foldr_insertSpan_pairwise {l : List (Fin 32)} (hl : l.Nodup) : (l.foldr s.insertSpan []).Pairwise (s.above · · = true) := by
  induction l with
  | nil => exact .nil
  | cons i t ih =>
    obtain ⟨hi, ht⟩ := List.nodup_cons.1 hl
    exact State.insertSpan_pairwise ((State.foldr_insertSpan_perm t).mem_iff.not.2 hi) (ih ht)

theorem State.mem_qualifying {f : TileFields} {row : Nat} {i : Fin 32} :
    i ∈ s.qualifying f row ↔ (s.pane i).display.qualifies f row = true := by
  rw [State.qualifying, (State.foldr_insertSpan_perm _).mem_iff, List.mem_filter]
  exact and_iff_right (List.mem_finRange i)

theorem State.qualifying_pairwise (f : TileFields) (row : Nat) : (s.qualifying f row).Pairwise (s.above · · = true) :=
  State.foldr_insertSpan_pairwise ((List.nodup_finRange 32).filter _)

/-! ### The panes that qualify (R99, R146) -/

/-- Two runs of columns, neither empty and both begun by column 4095, meet when each begins by the other's end. -/
theorem windowEnd_meets_iff {c w o n : Nat} (hc : c ≤ 4095) (hw : w ≠ 0) (ho : o ≤ 4095) (hn : n ≠ 0) :
    (c ≤ o + n - 1 ∧ o ≤ windowEnd c w) ↔ ∃ x, o ≤ x ∧ x < o + n ∧ c ≤ x ∧ x ≤ windowEnd c w := by
  simp only [windowEnd]
  constructor
  · rintro ⟨hleft, hright⟩
    exact ⟨max o c, by omega⟩
  · rintro ⟨x, hox, hxn, hcx, hxw⟩
    omega

/-- R136: the tile is some columns wide and its origin stands on the canvas. -/
theorem TileFields.cols_origin {f : TileFields} (hf : f.inRange = true) : f.cols ≠ 0 ∧ f.originCol.toNat ≤ 4095 := by
  simp only [TileFields.inRange, Bool.and_eq_true, decide_eq_true_eq] at hf
  simp only [TileFields.cols]
  omega

theorem Display.qualifies_iff {d : Display} (hd : d.InRange) {f : TileFields} (hf : f.inRange = true) {row : Nat} :
    d.qualifies f row = true ↔ d.drawn = true ∧ d.coversRow (f.originRow.toNat + row) = true
      ∧ ∃ c, f.originCol.toNat ≤ c ∧ c < f.originCol.toNat + f.cols ∧ d.coversCol c = true := by
  obtain ⟨hcols, horigin⟩ := TileFields.cols_origin hf
  have hwidth : d.width.toNat ≠ 0 := fun h => hd.width (BitVec.eq_of_toNat_eq h)
  simp only [Display.qualifies, Display.coversCol, Bool.and_eq_true, decide_eq_true_eq, and_assoc,
    windowEnd_meets_iff hd.col hwidth horigin hcols]

/-! ### The list built -/

/-- R146: the station with a row's span list held. -/
def State.withSpans (s : State) (f : TileFields) (row : Nat) : State :=
  { s with raster := { s.raster with spanRow := row, spanList := (s.qualifying f row).take 16 } }

/-- R146: the frame's overflow marked as posted. -/
def State.markOverflow (s : State) : State := { s with raster := { s.raster with overflowMark := true } }

/-- R145, R146: in a tile cell row of ACTIVE that shows the canvas. -/
theorem exec_spanListBuild_next {f : TileFields} {row : Nat} (ht : s.raster.timing = some f) (hp : s.raster.phase = some .active)
    (hsync : s.raster.sync = .locked ∨ s.raster.sync = .freeRun) (hrow : row < f.rows) :
    exec (.spanListBuild row) s = .next (
      if 16 < (s.qualifying f row).length ∧ s.raster.overflowMark = false then
        (s.withSpans f row).markOverflow.post .rasterOverflow (byte row) (half (s.qualifying f row).length) 0
      else s.withSpans f row) := by
  have hrun : s.inPhase .active = true ∧ s.raster.composites = true ∧ row < f.rows :=
    ⟨by simp [State.inPhase, hp], by simpa [Raster.composites] using hsync, hrow⟩
  simp only [exec, execSpanListBuild]
  split
  next g hg =>
    obtain rfl : f = g := Option.some.inj (ht.symm.trans hg)
    rw [if_pos hrun]
    rfl
  next hnone => simp [ht] at hnone

/-- Settles O55 with the qualifying panes as the list, by whether the list overflows for the first time in the frame. -/
theorem spanListBuild : Obligations.SpanListBuild := by
  unfold Obligations.SpanListBuild
  intro s f row ht hp hsync hrow hs
  have hr := s.fieldsSound_iff.1 hs
  have built := exec_spanListBuild_next ht hp hsync hrow
  refine ⟨s.qualifying f row, fun i => ?_, (State.qualifying_pairwise f row).imp State.above_iff.1,
    fun hfits => ?_, fun hover hmark hroom => ?_⟩
  · rw [State.mem_qualifying, Display.qualifies_iff (hr.panes i).display (hr.timing f ht)]
    simp only [Display.drawn, Display.coversRow, Display.coversCol, Bool.and_eq_true, decide_eq_true_eq, Option.isSome_iff_ne_none,
      and_assoc]
    exact Iff.rfl
  · have hnot : ¬ (16 < (s.qualifying f row).length ∧ s.raster.overflowMark = false) := by
      rintro ⟨hlong, hmark⟩
      obtain hshort | hset := hfits
      · omega
      · simp [hset] at hmark
    rw [if_neg hnot] at built
    exact built
  · have hkept : (s.withSpans f row).markOverflow.host.events.length < 32 := hroom
    rw [if_pos ⟨hover, hmark⟩, State.post_of_room hkept] at built
    exact built

end Sys2Proof.Machine
end

section
/-! PROOF. O10, the granules of extents: how often a list of extents covers a granule, and what the first fit and a returned extent do to
the cover and to the order of the free-extent list. -/

namespace Sys2Proof.Machine

/-! ### Granules covered (R119, R120) -/

theorem Extent.covers_iff (e : Extent) (g : Nat) : e.covers g = true ↔ e.base ≤ g ∧ g < e.base + e.size := by
  simp [Extent.covers]

/-- How many extents of a list cover a granule. -/
def coverCount (l : List Extent) (g : Nat) : Nat := l.countP fun e => e.covers g

theorem coverCount_cons (e : Extent) (l : List Extent) (g : Nat) : coverCount (e :: l) g = coverCount [e] g + coverCount l g := by
  simp only [coverCount, List.countP_cons, List.countP_nil]
  omega

theorem coverCount_append (l l' : List Extent) (g : Nat) : coverCount (l ++ l') g = coverCount l g + coverCount l' g :=
  List.countP_append

theorem coverCount_pos {l : List Extent} {e : Extent} {g : Nat} (he : e ∈ l) (hg : e.covers g = true) : 0 < coverCount l g :=
  List.countP_pos_iff.2 ⟨e, he, hg⟩

/-- Two extents that touch cover what the extent made of both covers. -/
theorem coverCount_merge (b m n g : Nat) :
    coverCount [⟨b, m + n⟩] g = coverCount [⟨b, m⟩] g + coverCount [⟨b + m, n⟩] g := by
  simp only [coverCount, List.countP_cons, List.countP_nil, Extent.covers_iff]
  split_ifs <;> omega

/-! ### The order of the free-extent list (R120) -/

/-- R120: an extent that ends below another and does not touch it. -/
def Extent.before (e f : Extent) : Prop := e.base + e.size < f.base

theorem Extent.before_trans {e f g : Extent} (h : e.before f) (h' : f.before g) : e.before g := by
  unfold Extent.before at *
  omega

/-- R120: in an ordered list every extent stands before all that follow it. -/
theorem freeListOrdered_iff (l : List Extent) : freeListOrdered l = true ↔ l.Pairwise Extent.before := by
  induction l with
  | nil => simp [freeListOrdered]
  | cons e t ih =>
    cases t with
    | nil => simp [freeListOrdered]
    | cons f t =>
      rw [freeListOrdered, Bool.and_eq_true, decide_eq_true_eq, ih, List.pairwise_cons (l := f :: t)]
      refine and_congr_left fun hrest => ⟨fun hef x hx => ?_, fun h => h f List.mem_cons_self⟩
      obtain rfl | hx := List.mem_cons.1 hx
      · exact hef
      · exact Extent.before_trans hef (List.rel_of_pairwise_cons hrest hx)

/-! ### The first fit (R122) -/

/-- R122: what is left of the extent that gives its lowest granules. -/
def Extent.rest (e : Extent) (n : Nat) : List Extent := if e.size = n then [] else [⟨e.base + n, e.size - n⟩]

/-- R122: the first fit gives the lowest granules of one extent, and the others stay. -/
theorem firstFit_split {n b : Nat} {l l' : List Extent} (h : firstFit n l = some (b, l')) :
    ∃ pre e post, l = pre ++ e :: post ∧ n ≤ e.size ∧ b = e.base ∧ l' = pre ++ (e.rest n ++ post) := by
  induction l generalizing l' with
  | nil => cases h
  | cons x t ih =>
    rw [firstFit] at h
    split at h
    next hfits =>
      cases h
      refine ⟨[], x, t, rfl, hfits, rfl, ?_⟩
      rw [Extent.rest]
      split <;> rfl
    next =>
      obtain ⟨⟨c, left⟩, hleft, heq⟩ := Option.map_eq_some_iff.1 h
      cases heq
      obtain ⟨pre, e, post, rfl, hfits, rfl, rfl⟩ := ih hleft
      exact ⟨x :: pre, e, post, rfl, hfits, rfl, rfl⟩

theorem Extent.coverCount_rest {e : Extent} {n : Nat} (h : n ≤ e.size) (g : Nat) :
    coverCount [e] g = coverCount [⟨e.base, n⟩] g + coverCount (e.rest n) g := by
  rw [Extent.rest]
  split
  next hall => rw [← hall]; rfl
  next =>
    rw [← coverCount_merge, Nat.add_sub_cancel' h]

/-- R122: the granules given are covered by the free list no more, and all others as before. -/
theorem firstFit_coverCount {n b : Nat} {l l' : List Extent} (h : firstFit n l = some (b, l')) (g : Nat) :
    coverCount l g = coverCount [⟨b, n⟩] g + coverCount l' g := by
  obtain ⟨pre, e, post, rfl, hfits, rfl, rfl⟩ := firstFit_split h
  rw [coverCount_append, coverCount_append, coverCount_append, coverCount_cons, Extent.coverCount_rest hfits]
  omega

/-- What is left of an extent ends where the extent ends. -/
theorem Extent.mem_rest {e x : Extent} {n : Nat} (hn : n ≤ e.size) (hx : x ∈ e.rest n) :
    e.base ≤ x.base ∧ x.base + x.size = e.base + e.size := by
  rw [Extent.rest] at hx
  split at hx
  · cases hx
  · obtain rfl := List.mem_singleton.1 hx
    dsimp only
    omega

/-- R120, R122: the first fit keeps the order. -/
theorem firstFit_ordered {n b : Nat} {l l' : List Extent} (h : firstFit n l = some (b, l')) (hl : l.Pairwise Extent.before) :
    l'.Pairwise Extent.before := by
  obtain ⟨pre, e, post, rfl, hfits, rfl, rfl⟩ := firstFit_split h
  obtain ⟨hpre, htail, hcross⟩ := List.pairwise_append.1 hl
  obtain ⟨hafter, hpost⟩ := List.pairwise_cons.1 htail
  have hrest : (e.rest n).Pairwise Extent.before := by
    rw [Extent.rest]
    split <;> simp
  refine List.pairwise_append.2 ⟨hpre, List.pairwise_append.2 ⟨hrest, hpost, fun x hx y hy => ?_⟩, fun x hx y hy => ?_⟩
  · have hend := (Extent.mem_rest hfits hx).2
    have hgap := hafter y hy
    unfold Extent.before at *
    omega
  · obtain hy | hy := List.mem_append.1 hy
    · have hbase := (Extent.mem_rest hfits hy).1
      have hgap := hcross x hx e List.mem_cons_self
      unfold Extent.before at *
      omega
    · exact hcross x hx y (List.mem_cons_of_mem _ hy)

/-! ### An extent returned (R123) -/

theorem mergeAfter_coverCount (x : Extent) (l : List Extent) (g : Nat) :
    coverCount (mergeAfter x l) g = coverCount [x] g + coverCount l g := by
  cases l with
  | nil => rfl
  | cons f t =>
    rw [mergeAfter]
    split
    next htouch =>
      rw [coverCount_cons ⟨x.base, x.size + f.size⟩, coverCount_merge, ← htouch, coverCount_cons f t, Nat.add_assoc]
    next => exact coverCount_cons x _ g

/-- R123: the free list covers the granules of the extent returned once more, and all others as before. -/
theorem returnExtent_coverCount (x : Extent) (l : List Extent) (g : Nat) :
    coverCount (returnExtent x l) g = coverCount [x] g + coverCount l g := by
  induction l with
  | nil => rfl
  | cons e t ih =>
    rw [returnExtent]
    split
    · exact mergeAfter_coverCount x _ g
    split
    next htouch =>
      rw [mergeAfter_coverCount, coverCount_merge, htouch, coverCount_cons e t]
      exact (Nat.add_assoc _ _ _).trans (Nat.add_left_comm _ _ _)
    next =>
      rw [coverCount_cons, ih, coverCount_cons e t]
      omega

/-- R120, R123: an extent placed before a list that begins at its end or later, merged where the two touch. -/
theorem mergeAfter_ordered {x : Extent} {l : List Extent} (hx : ∀ f ∈ l, x.base + x.size ≤ f.base) (hl : l.Pairwise Extent.before) :
    (mergeAfter x l).Pairwise Extent.before := by
  cases l with
  | nil => exact List.pairwise_singleton _ _
  | cons f t =>
    obtain ⟨hf, ht⟩ := List.pairwise_cons.1 hl
    have hle := hx f List.mem_cons_self
    rw [mergeAfter]
    split
    next htouch =>
      refine List.pairwise_cons.2 ⟨fun y hy => ?_, ht⟩
      have hgap := hf y hy
      unfold Extent.before at *
      dsimp only
      omega
    next hapart =>
      have hxf : x.before f := Nat.lt_of_le_of_ne hle (Ne.symm hapart)
      refine List.pairwise_cons.2 ⟨fun y hy => ?_, hl⟩
      obtain rfl | hy := List.mem_cons.1 hy
      · exact hxf
      · exact Extent.before_trans hxf (hf y hy)

/-- An extent of a list merged begins where one of the list or the extent given begins. -/
theorem mergeAfter_base {x y : Extent} {l : List Extent} (hy : y ∈ mergeAfter x l) : y.base = x.base ∨ ∃ f ∈ l, y.base = f.base := by
  cases l with
  | nil => exact .inl (congrArg _ (List.mem_singleton.1 hy))
  | cons f t =>
    rw [mergeAfter] at hy
    split at hy
    · obtain rfl | hy := List.mem_cons.1 hy
      · exact .inl rfl
      · exact .inr ⟨y, List.mem_cons_of_mem _ hy, rfl⟩
    · obtain rfl | hy := List.mem_cons.1 hy
      · exact .inl rfl
      · exact .inr ⟨y, hy, rfl⟩

theorem returnExtent_base {x y : Extent} {l : List Extent} (hy : y ∈ returnExtent x l) :
    y.base = x.base ∨ ∃ f ∈ l, y.base = f.base := by
  induction l with
  | nil => exact .inl (congrArg _ (List.mem_singleton.1 hy))
  | cons e t ih =>
    rw [returnExtent] at hy
    split at hy
    · exact mergeAfter_base hy
    split at hy
    · obtain hbase | ⟨f, hf, hbase⟩ := mergeAfter_base hy
      · exact .inr ⟨e, List.mem_cons_self, hbase⟩
      · exact .inr ⟨f, List.mem_cons_of_mem _ hf, hbase⟩
    · obtain rfl | hy := List.mem_cons.1 hy
      · exact .inr ⟨y, List.mem_cons_self, rfl⟩
      · exact (ih hy).imp_right fun ⟨f, hf, hbase⟩ => ⟨f, List.mem_cons_of_mem _ hf, hbase⟩

/-- Two extents that have no granule in common. -/
def Extent.apart (x f : Extent) : Prop := x.base + x.size ≤ f.base ∨ f.base + f.size ≤ x.base

/-- R120, R123: an extent returned to an ordered list that it has no granule in common with. -/
theorem returnExtent_ordered {x : Extent} {l : List Extent} (hsize : 1 ≤ x.size) (hx : ∀ f ∈ l, x.apart f)
    (hl : l.Pairwise Extent.before) : (returnExtent x l).Pairwise Extent.before := by
  induction l with
  | nil => exact List.pairwise_singleton _ _
  | cons e t ih =>
    obtain ⟨he, ht⟩ := List.pairwise_cons.1 hl
    obtain ⟨hxe, hxt⟩ := List.forall_mem_cons.1 hx
    have hnext (f : Extent) (hf : f ∈ t) := he f hf
    unfold Extent.apart Extent.before at *
    rw [returnExtent]
    split
    next hlow =>
      refine mergeAfter_ordered (List.forall_mem_cons.2 ⟨by omega, fun f hf => ?_⟩) hl
      have hgap := hnext f hf
      omega
    split
    next htouch =>
      refine mergeAfter_ordered (fun f hf => ?_) ht
      have hgap := hnext f hf
      have hclear := hxt f hf
      dsimp only
      omega
    next =>
      refine List.pairwise_cons.2 ⟨fun y hy => ?_, ih hxt ht⟩
      obtain hbase | ⟨f, hf, hbase⟩ := returnExtent_base hy
      · omega
      · have hgap := hnext f hf
        omega

end Sys2Proof.Machine
end

section
/-! PROOF. O10, the account of a station: what R120 says, by counts, and what keeps it. -/

namespace Sys2Proof.Machine

/-! ### The account by counts (R120) -/

/-- How often the extent of a pane's control fields covers a granule. -/
def Control.coverCount (c : Control) (g : Nat) : Nat := Machine.coverCount c.extent?.toList g

/-- How many panes hold a granule. -/
def State.heldCount (s : State) (g : Nat) : Nat := ∑ i : Fin 32, (s.pane i).control.coverCount g

/-- `State.accountSound`, part by part. -/
structure State.Accounted (s : State) : Prop where
  held : ∀ i e, (s.pane i).control.extent? = some e → e.inRange = true
  free : ∀ e ∈ s.store.freeList, e.inRange = true
  ordered : s.store.freeList.Pairwise Extent.before
  once : ∀ g, g < 512 → s.heldCount g + coverCount s.store.freeList g = 1

theorem State.allExtents_coverCount (s : State) (g : Nat) :
    coverCount s.allExtents g = s.heldCount g + coverCount s.store.freeList g := by
  rw [State.allExtents, coverCount_append, State.heldCount, Fin.sum_univ_def, List.filterMap_eq_flatMap_toList]
  exact congrArg (· + _) List.countP_flatMap

theorem State.mem_allExtents (s : State) (e : Extent) :
    e ∈ s.allExtents ↔ (∃ i, (s.pane i).control.extent? = some e) ∨ e ∈ s.store.freeList := by
  simp [State.allExtents]

theorem State.accountSound_iff (s : State) : s.accountSound ↔ s.Accounted := by
  have hcount (g : Nat) : (s.allExtents.filter fun e => e.covers g).length = s.heldCount g + coverCount s.store.freeList g := by
    rw [← List.countP_eq_length_filter]
    exact s.allExtents_coverCount g
  simp only [State.accountSound, State.mem_allExtents, freeListOrdered_iff, hcount]
  constructor
  · rintro ⟨hrange, hordered, honce⟩
    exact ⟨fun i e he => hrange e (.inl ⟨i, he⟩), fun e he => hrange e (.inr he), hordered, honce⟩
  · rintro ⟨hheld, hfree, hordered, honce⟩
    refine ⟨fun e he => ?_, hordered, honce⟩
    obtain ⟨i, hi⟩ | he := he
    · exact hheld i e hi
    · exact hfree e he

/-- A pane's control fields replaced: the granules of its old extent are held once less, those of its new one once more. -/
theorem State.heldCount_setControl (s : State) (i : Fin 32) (c : Control) (g : Nat) :
    (s.setControl i c).heldCount g + (s.pane i).control.coverCount g = s.heldCount g + c.coverCount g := by
  have hothers : ∑ k ∈ Finset.univ.erase i, ((s.setControl i c).pane k).control.coverCount g
      = ∑ k ∈ Finset.univ.erase i, (s.pane k).control.coverCount g :=
    Finset.sum_congr rfl fun k hk => by rw [State.setControl_pane, if_neg (Finset.ne_of_mem_erase hk)]
  have hset : ((s.setControl i c).pane i).control = c := by rw [State.setControl_pane, if_pos rfl]
  rw [State.heldCount, State.heldCount, ← Finset.add_sum_erase _ _ (Finset.mem_univ i),
    ← Finset.add_sum_erase _ (fun k => (s.pane k).control.coverCount g) (Finset.mem_univ i), hothers, hset]
  omega

/-- A pane holds the granules of its extent. -/
theorem State.heldCount_pos {s : State} {i : Fin 32} {e : Extent} {g : Nat} (he : (s.pane i).control.extent? = some e)
    (hg : e.covers g = true) : 0 < s.heldCount g := by
  have hpane : 0 < (s.pane i).control.coverCount g := coverCount_pos (by rw [he]; exact List.mem_singleton_self e) hg
  exact Nat.lt_of_lt_of_le hpane
    (Finset.single_le_sum (f := fun k => (s.pane k).control.coverCount g) (fun _ _ => Nat.zero_le _) (Finset.mem_univ i))

namespace State.Accounted

variable {s t : State}

/-- The account reads the extent that each pane holds, and the free-extent list. -/
theorem of_extents (h : s.Accounted) (hp : ∀ i, (t.pane i).control.extent? = (s.pane i).control.extent?)
    (hf : t.store.freeList = s.store.freeList) : t.Accounted := by
  have hcount (g : Nat) : t.heldCount g = s.heldCount g := by simp only [State.heldCount, Control.coverCount, hp]
  refine ⟨fun i e he => h.held i e ((hp i).symm.trans he), ?_, ?_, fun g hg => ?_⟩
  · rw [hf]; exact h.free
  · rw [hf]; exact h.ordered
  · rw [hf, hcount]; exact h.once g hg

/-- R120: an extent that a pane holds and a free extent have no granule in common. -/
theorem apart (h : s.Accounted) {i : Fin 32} {e f : Extent} (he : (s.pane i).control.extent? = some e)
    (hf : f ∈ s.store.freeList) : e.apart f := by
  have hbounds := (e.inRange_iff).1 (h.held i e he)
  have hfree := (f.inRange_iff).1 (h.free f hf)
  by_contra hmeet
  unfold Extent.apart at hmeet
  have hheld := State.heldCount_pos (g := max e.base f.base) he ((e.covers_iff _).2 (by omega))
  have hlisted := coverCount_pos (g := max e.base f.base) hf ((f.covers_iff _).2 (by omega))
  have honce := h.once (max e.base f.base) (by omega)
  omega

/-- R102, R122: a FREE pane gets the granules of the first fit; `u` is `s` with what the fit leaves. -/
theorem claim (h : s.Accounted) {i : Fin 32} (hi : (s.pane i).control = .free) {n b : Nat} (hn : n ≠ 0) {fl : List Extent}
    (hfit : firstFit n s.store.freeList = some (b, fl)) {u : State} (hpanes : u.panes = s.panes) (hleft : u.store.freeList = fl)
    (o : StationId) : (u.setControl i (.owned o ⟨b, n⟩)).Accounted := by
  obtain ⟨hgiven, hrest⟩ := firstFit_inRange hn h.free hfit
  have hpane (k : Fin 32) : u.pane k = s.pane k := by rw [State.pane, hpanes]; rfl
  refine ⟨fun k e he => ?_, by simpa [hleft] using hrest, by simpa [hleft] using firstFit_ordered hfit h.ordered, fun g hg => ?_⟩
  · rw [State.setControl_pane, hpane] at he
    split at he
    · cases he; exact hgiven
    · exact h.held k e he
  · have hheld := u.heldCount_setControl i (.owned o ⟨b, n⟩) g
    have hgave := firstFit_coverCount hfit g
    have honce := h.once g hg
    have hold : (u.pane i).control.coverCount g = 0 := by rw [hpane, hi]; rfl
    have hnew : (Control.owned o ⟨b, n⟩).coverCount g = coverCount [⟨b, n⟩] g := rfl
    have hsame : u.heldCount g = s.heldCount g := by simp only [State.heldCount, hpane]
    simp only [State.setControl_keeps, hleft]
    omega

/-- R58, step 5, R108, R123: a RELEASING pane's extent returns to the free-extent list. -/
theorem freePane (h : s.Accounted) (i : Fin 32) : (s.freePane i).Accounted := by
  rw [State.freePane_eq]
  split
  next e he =>
    have hi : (s.pane i).control.extent? = some e := by rw [Control.releasing?_iff.1 he]; rfl
    have hrange := h.held i e hi
    refine ⟨fun k f hf => ?_, returnExtent_inRange hrange h.free,
      returnExtent_ordered ((e.inRange_iff).1 hrange).2.1 (fun f hf => h.apart hi hf) h.ordered, fun g hg => ?_⟩
    · change ((s.setControl i .free).pane k).control.extent? = some f at hf
      rw [State.setControl_pane] at hf
      split at hf
      · cases hf
      · exact h.held k f hf
    · have hheld := s.heldCount_setControl i .free g
      have honce := h.once g hg
      have hold : (s.pane i).control.coverCount g = coverCount [e] g := by rw [Control.coverCount, hi]; rfl
      have hnew : Control.free.coverCount g = 0 := rfl
      change (s.setControl i .free).heldCount g + coverCount (returnExtent e s.store.freeList) g = 1
      rw [returnExtent_coverCount]
      omega
  next => exact h

end State.Accounted

/-- R77, R121: a founder's panes are FREE, and its free-extent list is the whole Cell Store. -/
theorem State.foundGroup_accounted (s : State) : s.foundGroup.Accounted := by
  have hpane (i : Fin 32) : (s.foundGroup.pane i).control = .free := by
    simp [State.foundGroup, State.pane, panesCleared, paneCleared]
  have hfree : s.foundGroup.store.freeList = [⟨0, 512⟩] := by simp [State.foundGroup]; rfl
  have hcount (g : Nat) : s.foundGroup.heldCount g = 0 := Finset.sum_eq_zero fun i _ => by rw [hpane]; rfl
  refine ⟨fun i e he => ?_, ?_, ?_, fun g hg => ?_⟩
  · rw [hpane] at he; cases he
  · rw [hfree]; decide
  · rw [hfree]; exact List.pairwise_singleton _ _
  · rw [hfree, hcount]
    simp [Machine.coverCount, Extent.covers, hg]

end Sys2Proof.Machine
end

section
/-! PROOF. O5 and O10, their relation: what a change keeps of the memories and of the account of granules; and the shared operations, each
once. -/

namespace Sys2Proof.Machine

/-! ### What a change keeps -/

/-- R149, R150: font B and its digest, as held. -/
def Raster.font (r : Raster) : Memory × Half := (r.fontB, r.fontDigest)

/-- R149, R150: font B stands in canonical form, and the digest held is its own. -/
def Raster.fontSound (r : Raster) : Prop := r.fontB.fontWf = true ∧ r.fontDigest = fontDigestOf r.fontB

theorem Raster.fontSound_of_font {r r' : Raster} (h : r'.font = r.font) (hr : r.fontSound) : r'.fontSound := by
  obtain ⟨hfont, hdigest⟩ := Prod.mk.inj h
  rwa [Raster.fontSound, hfont, hdigest]

theorem State.memorySound_iff (s : State) : s.memorySound ↔ s.store.cells.cellsWf = true ∧ s.raster.fontSound := Iff.rfl

/-- R120: the account of granules is sound, at a member, which alone has a whole one. -/
def State.memberAccount (s : State) : Prop := s.isMember = true → s.Accounted

/-- `t` after `s`: the Cell Store and font B keep their canonical forms and the digest its font, and, where `q` holds of the station as its
command began, a member's account of granules stays sound. -/
structure State.Conserves (q : Prop) (s t : State) : Prop where
  cells : s.store.cells.cellsWf = true → t.store.cells.cellsWf = true
  font : s.raster.fontSound → t.raster.fontSound
  account : q → s.memberAccount → t.memberAccount

/-- What the relation reads of a station. -/
def State.storeView (s : State) : Bool × Vector Pane 32 × CellStore × Memory × Half := (s.isMember, s.panes, s.store, s.raster.font)

namespace State.Conserves

variable {q : Prop} {s t u : State}

theorem refl : s.Conserves q s := ⟨id, id, fun _ => id⟩

theorem trans (h : s.Conserves q t) (h' : t.Conserves q u) : s.Conserves q u :=
  ⟨h'.cells ∘ h.cells, h'.font ∘ h.font, fun hq => h'.account hq ∘ h.account hq⟩

theorem ite {c : Prop} [Decidable c] (ht : c → s.Conserves q t) (hu : ¬ c → s.Conserves q u) :
    s.Conserves q (if c then t else u) := by
  split
  next h => exact ht h
  next h => exact hu h

theorem foldl {α : Type} (f : State → α → State) (h : ∀ u a, State.Conserves q u (f u a)) (l : List α) (s : State) :
    s.Conserves q (l.foldl f s) := by
  induction l generalizing s with
  | nil => exact refl
  | cons a l ih => exact (h s a).trans (ih _)

/-- A change that leaves every pane its extent. -/
theorem of_extents (hm : t.isMember = s.isMember) (hp : ∀ i, (t.pane i).control.extent? = (s.pane i).control.extent?)
    (hfree : t.store.freeList = s.store.freeList) (hcells : s.store.cells.cellsWf = true → t.store.cells.cellsWf = true)
    (hfont : t.raster.font = s.raster.font) : s.Conserves q t :=
  ⟨hcells, Raster.fontSound_of_font hfont, fun _ hs ht => (hs (hm.symm.trans ht)).of_extents hp hfree⟩

/-- A change that leaves alone what the relation reads. -/
theorem of_view (h : t.storeView = s.storeView) : s.Conserves q t := by
  simp only [State.storeView, Prod.mk.injEq] at h
  obtain ⟨hm, hp, hs, hfont⟩ := h
  refine of_extents hm (fun i => ?_) (by rw [hs]) (by rw [hs]; exact id) hfont
  rw [State.pane, hp]
  rfl

/-- A change of none of the blocks that the relation reads. -/
theorem of_blocks (hm : t.mb.state = s.mb.state) (hp : t.panes = s.panes) (hs : t.store = s.store) (hr : t.raster = s.raster) :
    s.Conserves q t :=
  of_view (by simp [State.storeView, State.isMember, *])

/-- A station outside the group has no account of its own. -/
theorem of_outsider (hm : t.mb.state ≠ .member) (hcells : s.store.cells.cellsWf = true → t.store.cells.cellsWf = true)
    (hfont : t.raster.font = s.raster.font) : s.Conserves q t :=
  ⟨hcells, Raster.fontSound_of_font hfont, fun _ _ h => absurd h (by simpa [State.isMember] using hm)⟩

end State.Conserves

section

variable {q : Prop}

/-! ### Events, batches and reports -/

theorem State.post_conserves (s : State) (k : EventKind) (a : Byte) (b c : Half) : s.Conserves q (s.post k a b c) :=
  .of_blocks (by simp) (by simp) (by simp) (by simp)

theorem State.breakBatch_conserves (s : State) (g : Byte) : s.Conserves q (s.breakBatch g) :=
  .of_blocks (by simp) (by simp) (by simp) (by simp)

/-- R35, R85: of what the relation reads a report moves nothing. -/
theorem State.reportTaken_conserves (s : State) : s.Conserves q s.reportTaken := by
  have reported (u : State) : u.Conserves q u.tidyBatches.endAttempt := .of_view rfl
  refine State.Conserves.trans ?_ (reported _)
  (repeat' split) <;> exact .of_view rfl

/-! ### Panes and extents (R98, R102 to R109) -/

theorem State.setControl_extent (s : State) (i k : Fin 32) {c : Control} (hc : c.extent? = (s.pane i).control.extent?) :
    ((s.setControl i c).pane k).control.extent? = (s.pane k).control.extent? := by
  rw [State.setControl_pane]
  split
  next hk => rw [hk]; exact hc
  next => rfl

/-- A pane that changes hands keeps its extent. -/
theorem State.setControl_conserves {s : State} {i : Fin 32} {c : Control} (hc : c.extent? = (s.pane i).control.extent?) :
    s.Conserves q (s.setControl i c) :=
  .of_extents (by simp [State.isMember]) (s.setControl_extent i · hc) (by simp) (by simp) (by simp)

/-- R113: the display fields hold none of the account. -/
theorem State.setDisplay_conserves (s : State) (i : Fin 32) (d : Display) : s.Conserves q (s.setDisplay i d) := by
  refine .of_extents (by simp [State.isMember]) (fun k => ?_) (by simp) (by simp) (by simp)
  rw [State.setDisplay, State.setPane_pane]
  split
  next hk => rw [hk]
  next => rfl

/-- The cells replaced by cells in canonical form. -/
theorem State.setCells_conserves {s : State} {m : Memory} (h : s.store.cells.cellsWf = true → m.cellsWf = true) :
    s.Conserves q (s.setCells m) :=
  .of_extents rfl (fun _ => rfl) rfl h rfl

theorem State.freePane_conserves (s : State) (i : Fin 32) : s.Conserves q (s.freePane i) := by
  refine ⟨?_, by simp, fun _ hs ht => (hs ?_).freePane i⟩
  · rw [State.freePane_store]; exact id
  · simpa [State.isMember] using ht

theorem Control.without_extent (c : Control) (gone : StationId → Bool) (lost : Bool) : (c.without gone lost).extent? = c.extent? := by
  cases c with
  | owned o e => rw [Control.without]; split <;> rfl
  | releasing e => rw [Control.without]; split <;> rfl
  | orphan | free => rfl

/-! ### Membership entered and left -/

/-- R94, R121: a removal clears the Cell Store and leaves the group. -/
theorem State.removeSelf_conserves (s : State) (cause : EventKind) (arg : Byte) (o : Bool) : s.Conserves q (s.removeSelf cause arg o) := by
  obtain ⟨hmb, -, -, -, hstore, -, hraster, -⟩ := s.removeSelf_leftGroup cause arg o
  refine .of_outsider ?_ (fun _ => by rw [hstore]; rfl) (by rw [hraster]; rfl)
  rw [hmb]
  cases o <;> simp [membershipCleared]

/-- R93, R109: an orphan keeps its extent. -/
theorem State.removeOther_conserves (s : State) (i : StationId) (k : EventKind) : s.Conserves q (s.removeOther i k) := by
  by_cases hm : s.isMember = true
  · rw [State.removeOther_eq hm]
    have leaves : s.Conserves q (s.without (idSet i)) :=
      .of_extents rfl (fun j => by rw [State.without_pane, Control.without_extent]) rfl id rfl
    exact (leaves.trans (State.post_conserves _ _ _ _ _)).trans (.of_view rfl)
  · refine .of_outsider ?_ (by simp) (by simp)
    rw [State.removeOther_mb]
    simpa [State.isMember] using hm

/-- R83, R90: a transfer's end moves no extent. -/
theorem State.endTransfer_revote_conserves (s : State) : s.Conserves q s.endTransfer.revote := .of_view rfl

/-! ### What an observer hears (R15) -/

theorem State.evidence_conserves (s : State) (rise : Bool) : s.Conserves q (s.evidence rise) := by
  simp only [State.evidence]
  split
  next => exact .of_outsider (by simp) (by simp) (by simp)
  next => exact .ite (fun _ => .of_view rfl) fun _ => .of_outsider (by simp) (by simp) (by simp)
  next => exact .ite (fun _ => .of_view rfl) fun _ => .of_view rfl
  next => exact .refl

/-- R77, R121: a founder's account is sound from the start. -/
theorem State.foundGroup_conserves (s : State) : s.Conserves q s.foundGroup :=
  ⟨fun _ => by simp [State.foundGroup]; rfl, by simp, fun _ _ _ => s.foundGroup_accounted⟩

theorem State.ownFound_conserves (s : State) : s.Conserves q s.ownFound :=
  .ite (fun _ => .ite (fun _ => .of_outsider (by simp) id rfl) fun _ => s.foundGroup_conserves) fun _ => .refl

theorem State.ownFoundLost_conserves (s : State) : s.Conserves q s.ownFoundLost :=
  .ite (fun _ => .of_outsider (by simp) id rfl) fun _ => .refl

theorem State.hearDenial_conserves (s : State) (p : List Byte) : s.Conserves q (s.hearDenial p) := by
  simp only [State.hearDenial]
  split
  · exact .ite (fun _ => .of_outsider (by simp) (by simp) (by simp)) fun _ => .refl
  · exact .refl

/-- R86: a joiner is no member yet. -/
theorem State.hearHead_conserves (s : State) (i : StationId) (p : List Byte) : s.Conserves q (s.hearHead i p) := by
  simp only [State.hearHead]
  split
  · exact .ite (fun _ => .of_outsider (by simp [membershipCleared]) (by simp) (by simp)) fun _ => .refl
  · exact .refl

theorem State.observe_conserves (s : State) (k : Kind) (i : StationId) (p : List Byte) : s.Conserves q (s.observe k i p) := by
  simp only [State.observe]
  split
  · exact .ite (fun _ => s.ownFound_conserves) fun _ => s.evidence_conserves false
  · exact s.evidence_conserves false
  · exact s.hearDenial_conserves p
  · exact s.hearHead_conserves i p
  · exact .refl

/-! ### A packet delivered (R26, R47) -/

theorem State.foreign_conserves (s : State) (i : StationId) (k : Kind) : s.Conserves q (s.foreign i k) :=
  .ite (fun _ => (s.post_conserves _ _ _ _).trans (.of_view rfl)) fun _ => .refl

theorem claimOutcome_claimed_free {p : Pane} {fl fl' : List Extent} {n b : Nat} (h : claimOutcome p fl n = .claimed b fl') :
    p.control = .free := by
  rw [claimOutcome, if_neg (claimOutcome_claimed h)] at h
  split at h
  next hfree => exact hfree
  next => cases h

theorem State.voidEvent_conserves (s : State) (i : StationId) (e : EventKind) (r : Reason) (a b : Half) :
    s.Conserves q (s.voidEvent i e r a b) :=
  .of_blocks (by simp) (by simp) (by simp) (by simp)

/-- R102 to R104: a FREE pane takes the first fit's granules out of the free list, and an orphan adopted keeps its own. -/
theorem State.deliverClaim_conserves (s : State) (i : StationId) (p : List Byte) : s.Conserves q (s.deliverClaim i p) := by
  have wins (u : State) (c : Prop) [Decidable c] (a : Byte) (b d : Half) : u.Conserves q (if c then u.post .claimWon a b d else u) :=
    .ite (fun _ => u.post_conserves _ _ _ _) fun _ => .refl
  have stages (u : State) (c : EpochClass) (g : Option Byte) (x : EntryOp) : u.Conserves q (u.stage c i g x) := .of_view rfl
  simp only [State.deliverClaim]
  split
  · exact .refl
  next g n _ =>
    refine .ite (fun _ => s.foreign_conserves i _) fun _ => ?_
    split
    · exact s.voidEvent_conserves i _ _ _ _
    refine .ite (fun _ => s.voidEvent_conserves i _ _ _ _) fun _ => ?_
    split
    · exact s.voidEvent_conserves i _ _ _ _
    next b fl hclaim =>
      refine State.Conserves.trans ?_ (wins _ _ _ _ _)
      refine State.Conserves.trans ⟨by simp, by simp, fun _ hs ht => ?_⟩ (stages _ _ _ _)
      exact (hs (by simpa [State.isMember] using ht)).claim (claimOutcome_claimed_free hclaim) (claimOutcome_claimed hclaim)
        (claimOutcome_firstFit hclaim) (u := { s with store := { s.store with freeList := fl } }) rfl rfl i
    next e hadopt =>
      exact (State.setControl_conserves (by rw [claimOutcome_orphan hadopt]; rfl)).trans (wins _ _ _ _ _)

/-- R105: a HANDOVER moves an extent from owner to owner. -/
theorem State.deliverHandover_conserves (s : State) (i : StationId) (p : List Byte) : s.Conserves q (s.deliverHandover i p) := by
  have posts (u : State) (c : Prop) [Decidable c] (e : EventKind) (a : Byte) (b : Half) :
      u.Conserves q (if c then u.post e a b 0 else u) :=
    .ite (fun _ => u.post_conserves _ _ _ _) fun _ => .refl
  simp only [State.deliverHandover]
  split
  · exact .refl
  refine .ite (fun _ => s.foreign_conserves i _) fun _ => ?_
  split
  · split
    next hc =>
      refine .ite (fun _ => s.voidEvent_conserves i _ _ _ _) fun _ => .ite (fun _ => s.voidEvent_conserves i _ _ _ _) fun _ => ?_
      exact ((State.setControl_conserves (by rw [hc]; rfl)).trans (posts _ _ _ _ _)).trans (posts _ _ _ _ _)
    · exact s.voidEvent_conserves i _ _ _ _
  · exact s.voidEvent_conserves i _ _ _ _

/-- R107: a pane released holds its extent still. -/
theorem State.deliverRelease_conserves (s : State) (i : StationId) (p : List Byte) : s.Conserves q (s.deliverRelease i p) := by
  have stages (u : State) (c : EpochClass) (g : Option Byte) (x : EntryOp) : u.Conserves q (u.stage c i g x) := .of_view rfl
  simp only [State.deliverRelease]
  split
  · exact .refl
  refine .ite (fun _ => s.foreign_conserves i _) fun _ => ?_
  split
  · exact s.voidEvent_conserves i _ _ _ _
  split
  next hc =>
    refine .ite (fun _ => ?_) fun _ => s.voidEvent_conserves i _ _ _ _
    exact (State.setControl_conserves (by rw [hc]; rfl)).trans (stages _ _ _ _)
  · exact s.voidEvent_conserves i _ _ _ _

/-- R26: a packet delivered that is a foreign report, or moves neither the Membership Unit nor a pane. -/
theorem State.Conserves.of_foreign_or_mb {s t : State} {i : StationId} {k : Kind} (hp : t.panes = s.panes) (hs : t.store = s.store)
    (hr : t.raster = s.raster) (h : t = s.foreign i k ∨ t.mb = s.mb) : s.Conserves q t := by
  obtain rfl | hmb := h
  · exact s.foreign_conserves i k
  · exact .of_blocks (by rw [hmb]) hp hs hr

theorem State.deliverUpdate_conserves (s : State) (k : Kind) (i : StationId) (p : List Byte) : s.Conserves q (s.deliverUpdate k i p) :=
  .of_foreign_or_mb (i := i) (k := k) (by simp) (by simp) (by simp) (by simp only [State.deliverUpdate]; (repeat' split) <;> simp)

theorem State.deliverRetract_conserves (s : State) (i : StationId) (p : List Byte) : s.Conserves q (s.deliverRetract i p) :=
  .of_foreign_or_mb (i := i) (k := .retract) (by simp) (by simp) (by simp) (by simp only [State.deliverRetract]; (repeat' split) <;> simp)

theorem State.deliverClose_conserves (s : State) (i : StationId) (p : List Byte) : s.Conserves q (s.deliverClose i p) :=
  .of_foreign_or_mb (i := i) (k := .close) (by simp) (by simp) (by simp) (by simp only [State.deliverClose]; (repeat' split) <;> simp)

theorem State.deliverJoin_conserves (s : State) (i : StationId) (p : List Byte) : s.Conserves q (s.deliverJoin i p) := by
  refine .of_blocks ?_ (by simp) (by simp) (by simp)
  simp only [State.deliverJoin]
  (repeat' split) <;> simp

/-- R89: a member that sees an admission keeps its account; of the one that a joiner was given, nothing is said. -/
theorem State.admitJoiner_conserves {s : State} (hq : q → s.isJoiner = false) (i : StationId) : s.Conserves q (s.admitJoiner i) := by
  refine ⟨by simp, by simp, fun h hs ht => ?_⟩
  have hview := s.admitJoiner_view i
  simp only [State.enrolView, hq h, Bool.false_eq_true, if_false, Prod.mk.injEq] at hview
  obtain ⟨-, hstate, -⟩ := hview
  have hmember : s.isMember = true := by rwa [State.isMember, hstate] at ht
  exact (hs hmember).of_extents (fun k => by rw [State.pane, (s.admitJoiner_keeps i).2.2.2.1]; rfl) (by simp)

theorem State.deliverJoinDone_conserves {s : State} (hq : q → s.isJoiner = false) (i : StationId) (p : List Byte) :
    s.Conserves q (s.deliverJoinDone i p) := by
  simp only [State.deliverJoinDone]
  split
  · exact .refl
  exact .ite (fun _ => .refl) fun _ => .ite (fun _ => State.admitJoiner_conserves hq i) fun _ =>
    .ite (fun _ => s.removeSelf_conserves _ _ _) fun _ => s.endTransfer_revote_conserves

theorem State.deliverLeave_conserves (s : State) (i : StationId) : s.Conserves q (s.deliverLeave i) :=
  .ite (fun _ => s.foreign_conserves i _) fun _ => .ite (fun _ => s.removeSelf_conserves _ _ _) fun _ => s.removeOther_conserves i _

theorem State.deliverHead_conserves (s : State) (i : StationId) (p : List Byte) : s.Conserves q (s.deliverHead i p) := by
  simp only [State.deliverHead]
  refine .ite (fun _ => .ite (fun _ => .refl) fun _ => .of_view rfl) fun _ => ?_
  split
  · exact .ite (fun _ => .of_view rfl) fun _ => .refl
  · exact .refl

/-- R87: the joiner, which is no member, writes what a packet reads as. -/
theorem State.assemble_conserves {α : Type} (s : State) (i : StationId) {c : Option α} {write : State → α → State}
    (h : ∀ u a, u.mb.state = .joining → c = some a → State.Conserves q u (write u a)) : s.Conserves q (s.assemble i c write) := by
  have counts : s.Conserves q s.countPacket := .of_view rfl
  refine .ite (fun hj => ?_) fun _ => .refl
  have hstate : s.countPacket.mb.state = .joining := by simpa [State.isJoiner, State.countPacket] using hj
  split
  · exact counts.trans (h _ _ hstate rfl)
  · exact .of_view rfl

theorem State.appendFree_conserves {s : State} (hj : s.mb.state = .joining) (b : Byte) (es : List Extent) :
    s.Conserves q (s.appendFree b es) := by
  simp only [State.appendFree]
  split
  · exact .ite (fun _ => .of_outsider (by simp [hj]) id rfl) fun _ => .of_view rfl
  · exact .refl

theorem cellsOf_length (t : List Byte) : (cellsOf t).length = t.length / 2 := by
  induction t using cellsOf.induct with
  | case1 c a t ih => simp only [cellsOf, List.length_cons, ih]; omega
  | case2 t h =>
    rcases t with _ | ⟨c, _ | ⟨a, t⟩⟩
    case cons.cons => exact absurd rfl (h c a t)
    all_goals simp [cellsOf]

/-- R87: a SNAP-CELLS in range lies within the Cell Store. -/
theorem readSnapCells_inStore {p : List Byte} {o : Nat} {cs : List Cell} (h : readSnapCells p = some (o, cs)) : o + cs.length ≤ 8192 := by
  rcases p with _ | ⟨o1, _ | ⟨o0, t⟩⟩
  case cons.cons =>
    rw [readSnapCells] at h
    split at h
    next hr =>
      obtain ⟨-, -, -, hend⟩ := hr
      cases h
      rw [cellsOf_length]
      exact hend
    next => cases h
  all_goals cases h

theorem State.deliverEnd_conserves (s : State) (i : StationId) (p : List Byte) : s.Conserves q (s.deliverEnd i p) := by
  refine .ite (fun _ => ?_) fun _ => .refl
  split
  · exact .of_view rfl
  · exact .ite (fun _ => .of_view rfl) fun _ => .refl

theorem Kind.deliver_conserves {s : State} (hq : q → s.isJoiner = false) (k : Kind) (i : StationId) (p : List Byte) :
    s.Conserves q (k.deliver i p s) := by
  cases k with
  | found => exact .ite (fun _ => .refl) fun _ => s.deliverJoin_conserves i p
  | join => exact s.deliverJoin_conserves i p
  | joinDeny => exact .refl
  | joinDone => exact State.deliverJoinDone_conserves hq i p
  | leave => exact s.deliverLeave_conserves i
  | claim => exact s.deliverClaim_conserves i p
  | handover => exact s.deliverHandover_conserves i p
  | release => exact s.deliverRelease_conserves i p
  | retract => exact s.deliverRetract_conserves i p
  | close => exact s.deliverClose_conserves i p
  | putCells | fill | copy | setPane | setPalette => exact s.deliverUpdate_conserves _ i p
  | snapHead => exact s.deliverHead_conserves i p
  | snapPane =>
    dsimp only [Kind.deliver]
    exact s.assemble_conserves i fun u _ hj _ => .of_outsider (by simp [hj]) id rfl
  | snapFree => dsimp only [Kind.deliver]; exact s.assemble_conserves i fun u _ hj _ => State.appendFree_conserves hj _ _
  | snapPalette => dsimp only [Kind.deliver]; exact s.assemble_conserves i fun u _ _ _ => .of_view rfl
  | snapCells =>
    dsimp only [Kind.deliver]
    exact s.assemble_conserves i fun u r _ hr =>
      State.setCells_conserves fun hwf => cellsWf_writeCells r.2 _ r.1 (readSnapCells_inStore hr) hwf
  | snapEnd => exact s.deliverEnd_conserves i p

/-! ### A packet taken (R14, R15, R35) -/

theorem State.taking_conserves {s : State} {deliver : State → State} (h : s.slotPassed.Conserves q (deliver s.slotPassed)) :
    s.Conserves q (s.taking deliver) := by
  have hpassed : s.Conserves q s.slotPassed := .of_view rfl
  have hdelivered := hpassed.trans h
  exact .ite (fun _ => .ite (fun _ => (hdelivered.trans (State.reportTaken_conserves _)).trans (.of_view rfl)) fun _ => hdelivered)
    fun _ => .refl

theorem State.take_conserves {s : State} (hq : q → s.isJoiner = false) (k : Kind) (i : StationId) (p : List Byte) :
    s.Conserves q (s.take k i p (k.deliver i p)) :=
  State.taking_conserves (.ite (fun _ => Kind.deliver_conserves (s := s.slotPassed) hq k i p) fun _ =>
    .ite (fun _ => State.observe_conserves _ k i p) fun _ => .refl)

theorem State.observeReceipt_conserves (s : State) (rx : RxPacket) : s.Conserves q (s.observeReceipt rx) := by
  simp only [State.observeReceipt]
  refine State.taking_conserves ?_
  have buffered (u : State) : u.Conserves q { u with link := { u.link with rx := some rx.buffered } } := .of_view rfl
  refine (buffered _).trans (.ite (fun _ => ?_) fun _ => .ite (fun _ => State.ownFoundLost_conserves _) fun _ => .refl)
  split
  · exact State.observe_conserves _ _ _ _
  · exact .refl

end

end Sys2Proof.Machine
end

section
/-! PROOF. O5 and O10: the memories and the account of granules through every command. -/

namespace Sys2Proof.Machine

section

variable {q : Prop}

/-! ### A rise's effects (R58, R84, R90) -/

theorem State.startTransfer_conserves (s : State) : s.Conserves q s.startTransfer := by
  refine .of_blocks ?_ (by simp) (by simp) (by simp)
  rw [s.startTransfer_writes.1]

/-- R58: of a commit decision the relation reads the panes freed. -/
theorem State.commit_conserves (s : State) : s.Conserves q s.commit := by
  obtain ⟨-, -, -, hmb, -, hraster, -, hpanes, hstore⟩ := s.decided_keeps
  obtain ⟨-, -, -, -, hmb', -, hraster', -⟩ := s.commitEpochs.freePanes_keeps s.releasedPanes
  have promotes : s.Conserves q s.commitEpochs := .of_view rfl
  have frees : s.commitEpochs.Conserves q (s.commitEpochs.freePanes s.releasedPanes) :=
    .foldl State.freePane State.freePane_conserves _ _
  have announces : (s.commitEpochs.freePanes s.releasedPanes).Conserves q s.decided :=
    .of_blocks (by rw [hmb, hmb']) hpanes hstore (by rw [hraster, hraster', State.commitEpochs_raster])
  rw [State.commit_eq]
  exact (((promotes.trans frees).trans announces).trans (State.startTransfer_conserves _)).trans (.of_view rfl)

theorem State.ageStep_conserves (s : State) : s.Conserves q s.ageStep := by
  simp only [State.ageStep]
  split <;> exact .of_view rfl

theorem State.memberRise_conserves (s : State) (b : Bool) : s.Conserves q (s.memberRise b) := by
  have stalls (u : State) : u.Conserves q u.stallStep := .of_blocks (by simp) (by simp) (by simp) (by simp)
  simp only [State.memberRise]
  refine State.Conserves.trans ?_ (.foldl _ State.breakBatch_conserves _ _)
  exact s.ageStep_conserves.trans (.ite (fun _ => State.commit_conserves _) fun _ => stalls _)

theorem exec_tlfRiseEffects_conserves {s t : State} (h : exec .tlfRiseEffects s = .next t) : s.Conserves q t := by
  rw [← next_eq h]
  have taken : s.Conserves q { s with link := { s.link with riseSample := none } } := .of_view rfl
  split
  · refine .ite (fun _ => .refl) fun _ => ?_
    dsimp only
    split
    · exact taken.trans (State.memberRise_conserves _ _)
    · exact taken.trans (State.ageStep_conserves _)
    · exact taken.trans (State.evidence_conserves _ true)
  · exact .refl

/-! ### The Host Port's commands -/

/-- R159: what the port adds to a command's effect is its own. -/
theorem State.evaluate_conserves {s : State} {n : Nat} {f : State → State × Status × List Byte} (h : s.Conserves q (f s).1) :
    s.Conserves q (s.evaluate n f) :=
  .ite (fun _ => h.trans (.of_view rfl)) fun _ => .refl

theorem State.configure_conserves (s : State) (f : TileFields) : s.Conserves q (s.configure f).1 := by
  simp only [State.configure]
  (repeat' split) <;> exact .of_view rfl

/-- R149: the sixteen row bytes of a code lie within font B. -/
theorem fontWf_writeRows {m : Memory} (h : m.fontWf = true) (b : Byte) (rows : Vector Byte 16) :
    (Memory.writeRun fontZero m (16 * b.toNat) rows.toList).fontWf = true := by
  refine Memory.wf_writeRun fontZero fontBytesLimit _ _ _ ?_ h
  have hbytes : fontBytesLimit = 4096 := rfl
  have hlength := rows.length_toList
  have hcode := b.isLt
  omega

/-- R150, R163: a font written has its digest taken anew. -/
theorem State.loadFont_conserves (s : State) (b : Byte) (rows : Vector Byte 16) : s.Conserves q (s.loadFont b rows).1 := by
  simp only [State.loadFont]
  split
  · exact .refl
  · refine ⟨id, fun hs => ?_, fun _ hs ht => (hs ht).of_extents (fun _ => rfl) rfl⟩
    dsimp only [Raster.fontSound]
    exact ⟨fontWf_writeRows hs.1 b rows, rfl⟩

/-- R71: a station goes online to LISTENING. -/
theorem State.goOnline_conserves (s : State) : s.Conserves q s.goOnline.1 := by
  simp only [State.goOnline]
  split
  · exact .refl
  split
  · exact .refl
  · refine .of_outsider (by simp) (by simp) ?_
    simp only [State.startRaster]
    split <;> simp [Raster.font]

/-- R94, R121: an outsider that goes offline keeps its Cell Store, or, as a joiner, clears it. -/
theorem State.outsiderOffline_conserves (s : State) : s.Conserves q s.outsiderOffline := by
  have hcleared : s.Conserves q s.outsiderCleared := by
    by_cases hj : s.mb.state = .joining
    · rw [State.outsiderCleared_joiner hj]
      exact .of_outsider (by simp [membershipCleared]) (fun _ => rfl) rfl
    · rw [State.outsiderCleared_other hj]
      exact .of_outsider (by simp [membershipCleared]) id rfl
  rw [State.outsiderOffline_eq]
  exact (hcleared.trans (.of_blocks (by simp) (by simp) (by simp) (by simp))).trans (.of_view rfl)

theorem State.goOffline_conserves (s : State) : s.Conserves q s.goOffline.1 := by
  have discards : s.Conserves q s.discardBatch := .of_blocks (by simp) (by simp) (by simp) (by simp)
  simp only [State.goOffline]
  split
  · exact .refl
  · split
    · exact .refl
    split
    · exact .refl
    · exact discards.trans (.of_view rfl)
  · exact s.outsiderOffline_conserves

/-! The commands that fill the transmit queue or read the station move none of it. -/

theorem State.beginBatch_conserves (s : State) : s.Conserves q s.beginBatch.1 := by
  simp only [State.beginBatch]
  (repeat' split) <;> exact .of_view rfl

theorem State.endBatch_conserves (s : State) : s.Conserves q s.endBatch.1 := by
  simp only [State.endBatch]
  (repeat' split) <;> exact .of_view rfl

theorem State.submit_conserves (s : State) (u : Update) : s.Conserves q (s.submit u).1 := by
  simp only [State.submit]
  (repeat' split) <;> exact .of_view rfl

theorem State.request_conserves (s : State) (b : Bool) (r : Request) : s.Conserves q (s.request b r).1 := by
  simp only [State.request]
  (repeat' split) <;> exact .of_view rfl

theorem State.readEvent_conserves (s : State) : s.Conserves q s.readEvent.1 := by
  simp only [State.readEvent]
  split <;> exact .of_view rfl

/-! ### The resets (R176, R177) -/

theorem exec_powerOnReset_conserves {i : StationId} {s t : State} (h : exec (.powerOnReset i) s = .next t) : s.Conserves q t := by
  rw [← next_eq h]
  exact ⟨fun _ => reset_memorySound.1, fun _ => reset_memorySound.2, fun _ _ ht => nomatch ht⟩

/-- R149, R176: a soft reset keeps font B and its digest. -/
theorem Raster.softReset_font (r : Raster) : r.softReset.font = r.font := by
  rw [Raster.softReset]
  split
  · rfl
  · split <;> rfl

theorem exec_softReset_conserves {i : StationId} {s t : State} (h : exec (.softReset i) s = .next t) : s.Conserves q t := by
  rw [← next_eq h]
  refine .ite (fun _ => ?_) fun _ => .refl
  exact .of_outsider (by simp [State.reset, membershipCleared]) (fun _ => by simpa using reset_memorySound.1)
    (by simp [Raster.softReset_font])

/-! ### The Link Controller's commands -/

theorem exec_startCondition_conserves {n : Nat} {s t : State} (h : exec (.startCondition n) s = .next t) : s.Conserves q t := by
  rw [← next_eq h]
  split
  · exact .ite (fun _ => .of_view rfl) fun _ => .refl
  · exact .refl

theorem exec_lostInArbitration_conserves {n : Nat} {s t : State} (h : exec (.lostInArbitration n) s = .next t) : s.Conserves q t := by
  rw [← next_eq h]
  split
  · refine .ite (fun _ => ?_) fun _ => .refl
    dsimp only
    split <;> exact .of_view rfl
  · exact .refl

theorem exec_holdPoint_conserves {rx : RxPacket} {s t : State} (h : exec (.holdPoint rx) s = .next t) : s.Conserves q t := by
  rw [← next_eq h]
  refine .ite (fun _ => ?_) fun _ => .refl
  split
  · exact .ite (fun _ => .of_view rfl) fun _ => .refl
  · exact .of_view rfl
  · exact .refl

theorem State.refused_conserves (s : State) : s.Conserves q s.refused := .of_blocks (by simp) (by simp) (by simp) (by simp)

theorem State.endPacket_conserves (s : State) (n : Nat) : s.Conserves q (s.endPacket n) :=
  .of_blocks (by simp) (by simp) (by simp) (by simp)

theorem exec_linkTimeout_conserves {s t : State} (h : exec .linkTimeout s = .next t) : s.Conserves q t := by
  rw [← next_eq h]
  have recovers (u : State) : u.Conserves q { u with link := { u.link with state := .recovery } } := .of_view rfl
  exact .ite (fun _ => (s.endPacket_conserves 0).trans
    (.ite (fun _ => .refl) fun _ => (recovers _).trans (State.post_conserves _ _ _ _ _))) fun _ => .refl

/-! ### Limits and timers -/

theorem exec_stallLimit_conserves {s t : State} (h : exec .stallLimit s = .next t) : s.Conserves q t := by
  rw [← next_eq h]
  have restarts : s.Conserves q { s with ep := { s.ep with stall := 0 } } := .of_view rfl
  exact .ite (fun _ => .ite (fun _ => s.removeSelf_conserves _ _ _) fun _ =>
    restarts.trans (.foldl _ (fun u i => u.removeOther_conserves i .memberEvicted) _ _)) fun _ => .refl

theorem exec_transferLimit_conserves {s t : State} (h : exec .transferLimit s = .next t) : s.Conserves q t := by
  rw [← next_eq h]
  split
  · exact .ite (fun _ => .ite (fun _ => s.removeSelf_conserves _ _ _) fun _ =>
      .ite (fun _ => s.endTransfer_revote_conserves) fun _ => .refl) fun _ => .refl
  · exact .refl

theorem exec_exhaustedUpdate_conserves {s t : State} (h : exec .exhaustedUpdate s = .next t) : s.Conserves q t := by
  rw [← next_eq h]
  (repeat' split)
  case isTrue => exact s.breakBatch_conserves _
  all_goals exact .refl

theorem exec_exhaustedRequest_conserves {s t : State} (h : exec .exhaustedRequest s = .next t) : s.Conserves q t := by
  rw [← next_eq h]
  have hd : s.Conserves q s.dropHead := .of_view rfl
  split
  · refine .ite (fun _ => ?_) fun _ => .refl
    split
    case h_1 => exact .refl
    case h_2 | h_3 | h_4 => exact hd.trans (State.post_conserves _ _ _ _ _)
    case h_5 | h_6 => exact .ite (fun _ => .of_outsider (by simp) id rfl) fun _ => hd
    case h_7 => exact .ite (fun _ => hd.trans (State.removeSelf_conserves _ _ _ _)) fun _ => hd
  · exact .refl

theorem State.dropExhausted_conserves (s : State) : s.Conserves q s.dropExhausted := by
  simp only [State.dropExhausted]
  split <;> exact .of_view rfl

theorem exec_listenIntervalExpiry_conserves {s t : State} (h : exec .listenIntervalExpiry s = .next t) : s.Conserves q t := by
  rw [← next_eq h]
  exact .ite (fun _ => .of_outsider (by simp) id rfl) fun _ => .refl

theorem exec_requestTimerExpiry_conserves {s t : State} (h : exec .requestTimerExpiry s = .next t) : s.Conserves q t := by
  rw [← next_eq h]
  refine .ite (fun _ => ?_) fun _ => .refl
  have withdraws : s.Conserves q s.withdrawJoin := .of_blocks (by simp) (by simp) (by simp) (by simp)
  exact withdraws.trans (.ite (fun _ => .of_view rfl) fun _ => .of_outsider (by simp) id rfl)

/-! ### The raster -/

theorem exec_tlfRise_conserves {b : Bool} {s t : State} (h : exec (.tlfRise b) s = .next t) : s.Conserves q t := by
  have samples : s.Conserves q (s.sampleVote b).noteRise :=
    .of_view (by simp only [State.storeView, State.isMember]; simp [State.noteRise, Raster.font])
  have relocks (u : State) : u.Conserves q u.relock :=
    State.Conserves.trans (t := { u with raster := { u.raster with sync := .locked, holding := false, pulled := false } })
      (.of_view rfl) (State.post_conserves _ _ _ _ _)
  rw [← next_eq h]
  exact .ite (fun _ => .refl) fun _ => .ite (fun _ => samples.trans (relocks _)) fun _ =>
    .ite (fun _ => samples.trans (.of_view rfl)) fun _ => samples

/-- R63, R138 to R142: the entry to FRONT moves the raster's timing and the apply pass alone. -/
theorem exec_enterFront_conserves {s t : State} (h : exec .enterFront s = .next t) : s.Conserves q t := by
  have times (u : State) : u.Conserves q u.takeTiming := by rw [State.takeTiming_eq]; exact .of_view rfl
  have locks (u : State) : u.Conserves q u.lockMember.pullFrame := by rw [State.lockMember_pullFrame]; exact .of_view rfl
  have starts (u : State) : u.Conserves q u.startPass := by rw [State.startPass_eq]; exact .of_view rfl
  have enters : s.Conserves q (s.enterPhase .front) := .of_view rfl
  rw [← next_eq h]
  exact .ite (fun _ => ((enters.trans (times _)).trans (locks _)).trans (starts _)) fun _ => .refl

theorem exec_frameHoldLimit_conserves {s t : State} (h : exec .frameHoldLimit s = .next t) : s.Conserves q t := by
  have frees : s.Conserves q { s with raster := { s.raster with sync := .freeRun, holdEnding := true } } := .of_view rfl
  rw [← next_eq h]
  exact .ite (fun _ => frees.trans (State.post_conserves _ _ _ _ _)) fun _ => .refl

theorem exec_spanListBuild_conserves {row : Nat} {s t : State} (h : exec (.spanListBuild row) s = .next t) : s.Conserves q t := by
  rw [← next_eq h]
  split
  next f _ =>
    have builds : s.Conserves q (s.withSpans f row).markOverflow := .of_view rfl
    exact .ite (fun _ => .ite (fun _ => builds.trans (State.post_conserves _ _ _ _ _)) fun _ => .of_view rfl) fun _ => .refl
  next => exact .refl

/-! ### The apply pass (R64, R125) -/

/-- R125: an entry writes cells through an extent that lies in the Cell Store. -/
theorem State.cellEntry_conserves {s t : State} {p : Byte} {w : Memory → Extent → Nat → Memory}
    (hw : ∀ m e n, e.inStore = true → m.cellsWf = true → (w m e n).cellsWf = true) (h : s.cellEntry p w = .next t) : s.Conserves q t := by
  have advances (u : State) : u.Conserves q u.advancePass := .of_view rfl
  simp only [State.cellEntry] at h
  split at h
  · split at h
    next hin => rw [← next_eq h]; exact (State.setCells_conserves (hw _ _ _ hin)).trans (advances _)
    next => cases h
  · rw [← next_eq h]; exact advances _

/-- R129, R131, R134: the rows that write cells. -/
theorem exec_applyCells_conserves {c : Instr} {s t : State} (hc : c ∈ [.applyPutCells, .applyFill, .applyCopy])
    (h : exec c s = .next t) : s.Conserves q t := by
  simp only [List.mem_cons, List.not_mem_nil, or_false] at hc
  rcases hc with rfl | rfl | rfl
  all_goals
    simp only [exec, execApplyPutCells, execApplyFill, execApplyCopy] at h
    split at h
  · exact State.cellEntry_conserves (fun m e _ he hm => cellsWf_putInto m e _ he hm) h
  · rw [← next_eq h]; exact .refl
  · exact State.cellEntry_conserves (fun m e n he hm => cellsWf_fillInto m e n _ he hm) h
  · rw [← next_eq h]; exact .refl
  · exact State.cellEntry_conserves (fun m e n he hm => cellsWf_copyInto m e n _ he hm) h
  · rw [← next_eq h]; exact .refl

/-- R114, R127: a CLEAR makes cells blank and writes display fields. -/
theorem exec_applyClear_conserves {s t : State} (h : exec .applyClear s = .next t) : s.Conserves q t := by
  simp only [exec, execApplyClear] at h
  split at h
  · split at h
    · rw [← next_eq h]
      exact ((State.setCells_conserves (cellsWf_clearExtent _ _)).trans (State.setDisplay_conserves _ _ _)).trans (.of_view rfl)
    · cases h
  · rw [← next_eq h]; exact .refl

/-- R113, R115, R156: the rows that write display fields or colours. -/
theorem exec_applyFields_conserves {c : Instr} {s t : State} (hc : c ∈ [.applySetPane, .applySetPalette, .applyRelease])
    (h : exec c s = .next t) : s.Conserves q t := by
  simp only [List.mem_cons, List.not_mem_nil, or_false] at hc
  rcases hc with rfl | rfl | rfl
  case inr.inl =>
    simp only [exec, execApplySetPalette] at h
    split at h
    all_goals rw [← next_eq h]; exact .of_view rfl
  all_goals
    simp only [exec, execApplySetPane, execApplyRelease] at h
    split at h
    · rw [← next_eq h]; exact (State.setDisplay_conserves _ _ _).trans (.of_view rfl)
    · rw [← next_eq h]; exact .refl

/-! ### Every command -/

/-- A command keeps the memories in canonical form with font B's digest, and a member's account sound where it began at no joiner. -/
theorem exec_conserves {c : Instr} {s t : State} (h : exec c s = .next t) : s.Conserves (s.isJoiner = false) t := by
  have taken (k : Kind) (i : StationId) (p : List Byte) (hc : c = k.taken i p) : s.Conserves (s.isJoiner = false) t := by
    rw [hc, exec_taken] at h
    rw [← next_eq h]
    exact State.take_conserves id k i p
  cases c with
  | powerOnReset => exact exec_powerOnReset_conserves h
  | softReset => exact exec_softReset_conserves h
  | transactionStart | framingError | transactionEnd | eventRecordRemoval =>
    rw [← next_eq h]
    exact .ite (fun _ => .of_view rfl) fun _ => .refl
  | badCommand => rw [← next_eq h]; exact .ite (fun _ => State.evaluate_conserves .refl) fun _ => .refl
  | configure => rw [← next_eq h]; exact State.evaluate_conserves (s.configure_conserves _)
  | loadFontB => rw [← next_eq h]; exact State.evaluate_conserves (s.loadFont_conserves _ _)
  | goOnline => rw [← next_eq h]; exact State.evaluate_conserves s.goOnline_conserves
  | goOffline => rw [← next_eq h]; exact State.evaluate_conserves s.goOffline_conserves
  | reset => rw [← next_eq h]; exact State.evaluate_conserves (.of_view rfl)
  | beginBatch => rw [← next_eq h]; exact State.evaluate_conserves s.beginBatch_conserves
  | endBatch => rw [← next_eq h]; exact State.evaluate_conserves s.endBatch_conserves
  | putCells | fill | copy | setPane | setPalette => rw [← next_eq h]; exact State.evaluate_conserves (s.submit_conserves _)
  | claim | handover | release => rw [← next_eq h]; exact State.evaluate_conserves (s.request_conserves _ _)
  | readEvent => rw [← next_eq h]; exact State.evaluate_conserves s.readEvent_conserves
  | readStatus => rw [← next_eq h]; exact State.evaluate_conserves (.ite (fun _ => .of_view rfl) fun _ => .refl)
  | readPane | readCells => rw [← next_eq h]; exact State.evaluate_conserves (by split <;> exact .refl)
  | readRoster => rw [← next_eq h]; exact State.evaluate_conserves .refl
  | startCondition => exact exec_startCondition_conserves h
  | startSeen => rw [← next_eq h]; exact .ite (fun _ => .of_view rfl) fun _ => .refl
  | lostInArbitration => exact exec_lostInArbitration_conserves h
  | holdPoint => exact exec_holdPoint_conserves h
  | packetRefused => rw [← next_eq h]; exact s.refused_conserves
  | observerReceipt =>
    rw [← next_eq h]
    exact .ite (fun _ => .ite (fun _ => s.observeReceipt_conserves _) fun _ => s.refused_conserves) fun _ => .refl
  | foundTaken i p => exact taken .found i p rfl
  | joinTaken i p => exact taken .join i p rfl
  | joinDenyTaken i p => exact taken .joinDeny i p rfl
  | joinDoneTaken i p => exact taken .joinDone i p rfl
  | leaveTaken i p => exact taken .leave i p rfl
  | claimTaken i p => exact taken .claim i p rfl
  | handoverTaken i p => exact taken .handover i p rfl
  | releaseTaken i p => exact taken .release i p rfl
  | retractTaken i p => exact taken .retract i p rfl
  | closeTaken i p => exact taken .close i p rfl
  | putCellsTaken i p => exact taken .putCells i p rfl
  | fillTaken i p => exact taken .fill i p rfl
  | copyTaken i p => exact taken .copy i p rfl
  | setPaneTaken i p => exact taken .setPane i p rfl
  | setPaletteTaken i p => exact taken .setPalette i p rfl
  | snapHeadTaken i p => exact taken .snapHead i p rfl
  | snapPaneTaken i p => exact taken .snapPane i p rfl
  | snapFreeTaken i p => exact taken .snapFree i p rfl
  | snapPaletteTaken i p => exact taken .snapPalette i p rfl
  | snapCellsTaken i p => exact taken .snapCells i p rfl
  | snapEndTaken i p => exact taken .snapEnd i p rfl
  | stopCondition | packetBreak | packetAbandoned =>
    rw [← next_eq h]
    exact .ite (fun _ => s.endPacket_conserves _) fun _ => .refl
  | linkTimeout => exact exec_linkTimeout_conserves h
  | recoveryBusFree => rw [← next_eq h]; exact .ite (fun _ => .of_view rfl) fun _ => .refl
  | busFreeInterval | irregularTlcFall | holdLineEnd =>
    rw [← next_eq h]
    dsimp only
    (repeat' split) <;> exact .of_view rfl
  | tlfRise => exact exec_tlfRise_conserves h
  | tlfRiseEffects => exact exec_tlfRiseEffects_conserves h
  | stallLimit => exact exec_stallLimit_conserves h
  | transferLimit => exact exec_transferLimit_conserves h
  | exhaustedUpdate => exact exec_exhaustedUpdate_conserves h
  | exhaustedRequest => exact exec_exhaustedRequest_conserves h
  | selfDemotion => rw [← next_eq h]; exact .ite (fun _ => s.removeSelf_conserves _ _ _) fun _ => s.dropExhausted_conserves
  | listenIntervalExpiry => exact exec_listenIntervalExpiry_conserves h
  | requestTimerExpiry => exact exec_requestTimerExpiry_conserves h
  | enterFront => exact exec_enterFront_conserves h
  | applyClear => exact exec_applyClear_conserves h
  | applyPutCells | applyFill | applyCopy => exact exec_applyCells_conserves (by simp) h
  | applySetPane | applySetPalette | applyRelease => exact exec_applyFields_conserves (by simp) h
  | applyPassEnd | frontEnd | syncEnd | followingWaitLimit | backEnd | tlfRelease =>
    rw [← next_eq h]
    exact .ite (fun _ => .of_view rfl) fun _ => .refl
  | frameHoldLimit => exact exec_frameHoldLimit_conserves h
  | spanListBuild => exact exec_spanListBuild_conserves h

end

/-- A step is no command, or a command on the rest of the queue. -/
theorem step_conserves {s t : State} (h : step s = .next t) : s.Conserves (s.isJoiner = false) t := by
  rw [step] at h
  split at h
  · cases h; exact .refl
  next c rest _ =>
    have unqueued : s.Conserves (s.isJoiner = false) { s with pending := rest } := .of_view rfl
    exact unqueued.trans (exec_conserves h)

/-- Settles O5: every command writes the Cell Store within its bounds, and font B together with its digest. -/
theorem stepKeepsMemory : Obligations.StepKeepsMemory := by
  intro s t hs h
  obtain ⟨hcells, hfont⟩ := s.memorySound_iff.1 hs
  exact t.memorySound_iff.2 ⟨(step_conserves h).cells hcells, (step_conserves h).font hfont⟩

/-- Settles O10: a station that is a member as the step begins is no joiner, and so its account stays sound. -/
theorem stepKeepsGranuleAccount : Obligations.StepKeepsGranuleAccount := by
  intro s t hm hs h ht
  have hmember : s.mb.state = .member := by simpa [State.isMember] using hm
  have hjoiner : s.isJoiner = false := by simp [State.isJoiner, hmember]
  exact t.accountSound_iff.2 ((step_conserves h).account hjoiner (fun _ => s.accountSound_iff.1 hs) ht)

end Sys2Proof.Machine
end

section
/-! PROOF. O3: a command completes, or finds an extent outside the Cell Store. -/

namespace Sys2Proof.Machine

/-- R64: the entry that an apply pass takes next stands in the staging queue. -/
theorem State.nextOp_mem {s : State} {o : EntryOp} (ho : s.nextOp = some o) : ∃ x ∈ s.ep.staging, x.op = o := by
  obtain ⟨x, hx, rfl⟩ := Option.map_eq_some_iff.1 ho
  rw [Epochs.nextToApply] at hx
  split at hx
  · exact ⟨x, (List.mem_filter.1 (List.mem_of_getElem? hx)).1, rfl⟩
  · cases hx

/-- R125: a cell entry with no display extent writes no cell. -/
theorem State.cellEntry_none {s : State} {p : Byte} (h : (s.displayOf p).ext = none) (w : Memory → Extent → Nat → Memory) :
    s.cellEntry p w = .next s.advancePass := by
  rw [State.cellEntry, h]

/-- R125: a cell entry writes through the display extent as it stands. -/
theorem State.cellEntry_some {s : State} {p : Byte} {e : Extent} (h : (s.displayOf p).ext = some e) (he : e.inStore = true)
    (w : Memory → Extent → Nat → Memory) :
    s.cellEntry p w = .next (s.setCells (w s.store.cells e (s.displayOf p).gridCols)).advancePass := by
  simp only [State.cellEntry, h, he, if_true]

/-- R119: a cell entry stops the machine only at an extent that a pane shows outside the Cell Store. -/
theorem State.cellEntry_outcome (s : State) (p : Byte) (w : Memory → Extent → Nat → Memory) :
    (∃ t, s.cellEntry p w = .next t) ∨ (s.cellEntry p w = .fault .outsideCellStore ∧ ¬ s.extentsInStore) := by
  cases hext : (s.displayOf p).ext with
  | none => exact .inl ⟨_, s.cellEntry_none hext w⟩
  | some e =>
    by_cases he : e.inStore = true
    · exact .inl ⟨_, s.cellEntry_some hext he w⟩
    · refine .inr ⟨?_, fun ⟨hshown, _⟩ => he (hshown (paneIx p) e hext)⟩
      simp only [State.cellEntry, hext]
      exact if_neg he

/-- R119: APPLY_CLEAR stops the machine only at a CLEAR entry whose extent lies outside the Cell Store. -/
theorem exec_applyClear_outcome (s : State) :
    (∃ t, exec .applyClear s = .next t) ∨ (exec .applyClear s = .fault .outsideCellStore ∧ ¬ s.extentsInStore) := by
  simp only [exec, execApplyClear]
  split
  next p e ho =>
    obtain ⟨x, hx, hop⟩ := State.nextOp_mem ho
    split
    next => exact .inl ⟨_, rfl⟩
    next he => exact .inr ⟨rfl, fun ⟨_, hstaged⟩ => he (hstaged x hx p e hop)⟩
  next => exact .inl ⟨_, rfl⟩

/-- Every command completes, or faults where an extent shown or staged lies outside the Cell Store. -/
theorem exec_outcome (c : Instr) (s : State) :
    (∃ t, exec c s = .next t) ∨ (exec c s = .fault .outsideCellStore ∧ ¬ s.extentsInStore) := by
  cases c
  case applyClear => exact exec_applyClear_outcome s
  case applyPutCells | applyFill | applyCopy =>
    simp only [exec, execApplyPutCells, execApplyFill, execApplyCopy]
    split
    · exact s.cellEntry_outcome _ _
    · exact .inl ⟨_, rfl⟩
  case applySetPane | applySetPalette | applyRelease =>
    simp only [exec, execApplySetPane, execApplySetPalette, execApplyRelease]
    split <;> exact .inl ⟨_, rfl⟩
  all_goals exact .inl ⟨_, rfl⟩

/-- Settles O3, by the two outcomes of a command. -/
theorem everyCommandCompletes : Obligations.EveryCommandCompletes := by
  refine ⟨fun c s r hr => ?_, fun c s hs => ?_⟩
  · obtain ⟨t, ht⟩ | ⟨hf, -⟩ := exec_outcome c s
    · cases ht.symm.trans hr
    · cases hf.symm.trans hr
  · exact (exec_outcome c s).resolve_right fun h => h.2 hs

end Sys2Proof.Machine
end

section
/-! PROOF. O57 to O59: the cells that the entries of an apply pass write. -/

namespace Sys2Proof.Machine

/-! ### Cells written one after another -/

/-- Cells at distinct offsets changed one after another: each is changed from its value before them all, and every other cell stays. -/
theorem readCell_foldl_writeCell {α : Type} (place : α → Nat) (f : α → Cell → Cell) {l : List α} (hl : (l.map place).Nodup) {m : Memory}
    (hm : Memory.rising m = true) :
    let m' := l.foldl (fun m x => writeCell m (place x) (f x (readCell m (place x)))) m
    (∀ x ∈ l, readCell m' (place x) = f x (readCell m (place x))) ∧ ∀ o, o ∉ l.map place → readCell m' o = readCell m o := by
  induction l generalizing m with
  | nil => exact ⟨fun _ hx => (nomatch hx), fun _ _ => rfl⟩
  | cons x t ih =>
    obtain ⟨hx, ht⟩ := List.nodup_cons.1 hl
    obtain ⟨hchanged, hkept⟩ := ih ht (rising_writeCell m (place x) (f x (readCell m (place x))) hm)
    have hone (o : Nat) := readCell_writeCell m (place x) o (f x (readCell m (place x))) hm
    refine ⟨fun y hy => ?_, fun o ho => ?_⟩
    · obtain rfl | hy := List.mem_cons.1 hy
      · exact (hkept _ hx).trans ((hone _).trans (if_pos rfl))
      · have hne : place y ≠ place x := fun h => hx (h ▸ List.mem_map_of_mem hy)
        exact (hchanged y hy).trans (congrArg (f y) ((hone _).trans (if_neg hne)))
    · obtain ⟨hne, ho⟩ := not_or.1 (List.mem_cons.not.1 ho)
      exact (hkept o ho).trans ((hone o).trans (if_neg hne))

/-! ### The extent grid (R126) -/

theorem mem_rectangle_iff (n m : Nat) (p : Nat × Nat) : p ∈ rectangle n m ↔ p.1 < n ∧ p.2 < m := by
  obtain ⟨i, j⟩ := p
  simp [rectangle]

theorem rectangle_nodup (n m : Nat) : (rectangle n m).Nodup := List.nodup_range.product List.nodup_range

/-- R126: a cell of the grid stands at one row and column alone. -/
theorem gridCell_inj {e : Extent} {pitch r r' c c' : Nat} (hc : c < pitch) (hc' : c' < pitch)
    (h : gridCell e pitch r c = gridCell e pitch r' c') : r = r' ∧ c = c' := by
  have hsum : r * pitch + c = r' * pitch + c' := by
    unfold gridCell at h
    omega
  have hrow : r = r' := by
    have hdiv := congrArg (· / pitch) hsum
    simpa [Nat.mul_comm _ pitch, Nat.mul_add_div (Nat.zero_lt_of_lt hc), Nat.div_eq_of_lt hc, Nat.div_eq_of_lt hc'] using hdiv
  subst hrow
  exact ⟨rfl, by omega⟩

/-- R126: the cells of a rectangle placed within P columns are distinct. -/
theorem gridRectangle_nodup (e : Extent) {pitch top left rows cols : Nat} (h : cols ≤ pitch - left) :
    ((rectangle rows cols).map fun p => gridCell e pitch (top + p.1) (left + p.2)).Nodup := by
  refine (rectangle_nodup rows cols).map_on fun p hp q hq heq => ?_
  obtain ⟨-, hp⟩ := mem_rectangle _ _ _ hp
  obtain ⟨-, hq⟩ := mem_rectangle _ _ _ hq
  obtain ⟨hrow, hcol⟩ := gridCell_inj (by omega) (by omega) heq
  exact Prod.ext (by omega) (by omega)

/-! ### PUT-CELLS (R129) -/

theorem exec_applyPutCells_eq {s : State} {a : PutCellsArgs} (ho : s.nextOp = some (.update (.putCells a))) :
    exec .applyPutCells s = s.cellEntry a.pane fun m e _ => putInto m e a := by
  simp only [exec, execApplyPutCells, ho]

/-- R129: the carried cells that fit are written from the offset upward. -/
theorem readCell_putInto {m : Memory} (h : m.cellsWf = true) (e : Extent) (a : PutCellsArgs) :
    (∀ i (hi : i < a.cells.length), a.offset.toNat + i < 16 * e.size →
      readCell (putInto m e a) (16 * e.base + a.offset.toNat + i) = a.cells[i])
    ∧ ∀ o, (∀ i, i < a.cells.length → a.offset.toNat + i < 16 * e.size → o ≠ 16 * e.base + a.offset.toNat + i) →
        readCell (putInto m e a) o = readCell m o := by
  obtain ⟨hwritten, hkept⟩ :=
    readCell_run h (16 * e.base + a.offset.toNat) (a.cells.take (16 * e.size - a.offset.toNat))
  have hlength : (a.cells.take (16 * e.size - a.offset.toNat)).length = min (16 * e.size - a.offset.toNat) a.cells.length :=
    List.length_take
  refine ⟨fun i hi hfits => ?_, fun o ho => hkept o ?_⟩
  · rw [putInto, hwritten i (by omega), List.getElem_take]
  · have hnot := ho (o - (16 * e.base + a.offset.toNat))
    omega

/-- Settles O57, by whether the pane shows an extent. -/
theorem applyPutCells : Obligations.ApplyPutCells := by
  intro s x a hx hop hwf after
  have hexec := exec_applyPutCells_eq (State.nextOp_of_nextToApply hx hop)
  refine ⟨fun hext => hexec.trans (s.cellEntry_none hext _), fun e hext he => ?_⟩
  exact ⟨putInto s.store.cells e a, hexec.trans (s.cellEntry_some hext he _), readCell_putInto hwf e a⟩

/-! ### FILL (R131, R132) -/

theorem exec_applyFill_eq {s : State} {a : FillArgs} (ho : s.nextOp = some (.update (.fill a))) :
    exec .applyFill s = s.cellEntry a.pane fun m e pitch => fillInto m e pitch a := by
  simp only [exec, execApplyFill, ho]

/-- R131: a FILL acts on the cells of its rectangle clipped to the grid. -/
theorem mem_fillCells {e : Extent} {pitch : Nat} {a : FillArgs} {o : Nat} : o ∈ fillCells e pitch a ↔
    ∃ r c, o = 16 * e.base + r * pitch + c
      ∧ a.top.toNat ≤ r ∧ r < min (a.top.toNat + a.rows.toNat) (16 * e.size / pitch)
      ∧ a.left.toNat ≤ c ∧ c < min (a.left.toNat + a.cols.toNat) pitch := by
  simp only [fillCells, List.mem_map, mem_rectangle_iff, gridRows, gridCell, Prod.exists]
  constructor
  · rintro ⟨i, j, ⟨hi, hj⟩, rfl⟩
    exact ⟨a.top.toNat + i, a.left.toNat + j, rfl, by omega, by omega, by omega, by omega⟩
  · rintro ⟨r, c, rfl, htop, hr, hleft, hc⟩
    refine ⟨r - a.top.toNat, c - a.left.toNat, ⟨by omega, by omega⟩, ?_⟩
    rw [Nat.add_sub_cancel' htop, Nat.add_sub_cancel' hleft]

/-- R131, R132: each cell acted on changes by itself. -/
theorem readCell_fillInto {m : Memory} (h : m.cellsWf = true) (e : Extent) (pitch : Nat) (a : FillArgs) :
    (∀ o ∈ fillCells e pitch a, readCell (fillInto m e pitch a) o = fillCell a (readCell m o))
    ∧ ∀ o, o ∉ fillCells e pitch a → readCell (fillInto m e pitch a) o = readCell m o := by
  have hnodup : (fillCells e pitch a).Nodup := gridRectangle_nodup e (by omega)
  have hfold := readCell_foldl_writeCell (l := fillCells e pitch a) id (fun _ c => fillCell a c) (by rwa [List.map_id])
    (Memory.rising_of_cellsWf m h)
  rwa [List.map_id] at hfold

/-- R132: the combination of the old and the given byte, bit by bit. -/
theorem combine_bit (fn old given : Byte) (j : Nat) : (combine fn old given).getLsbD j =
    if fn = 0 then given.getLsbD j
    else if fn = 1 then old.getLsbD j && given.getLsbD j
    else if fn = 2 then old.getLsbD j || given.getLsbD j
    else old.getLsbD j != given.getLsbD j := by
  rw [combine]
  split_ifs
  · rfl
  · exact BitVec.getLsbD_and
  · exact BitVec.getLsbD_or
  · exact BitVec.getLsbD_xor.trans (congrFun₂ Bool.bne_eq_xor _ _).symm

/-- R132: a marked position takes the combined bit, and every other keeps its own. -/
theorem fillCell_bit (a : FillArgs) (c : Cell) {j : Nat} (hj : j < 8) : (fillCell a c).attr.getLsbD j =
    if a.mask.getLsbD j = false then c.attr.getLsbD j else (combine a.fn c.attr a.attr).getLsbD j := by
  simp only [fillCell, BitVec.getLsbD_or, BitVec.getLsbD_and, BitVec.getLsbD_not]
  cases a.mask.getLsbD j <;> simp [hj]

/-- R132: the same XOR FILL twice gives the old byte back. -/
theorem fillCell_xor_twice (a : FillArgs) (c : Cell) (h : a.fn = 3) : (fillCell a (fillCell a c)).attr = c.attr := by
  refine BitVec.eq_of_getLsbD_eq fun j hj => ?_
  simp only [fillCell_bit a _ hj, combine_bit, h]
  cases a.mask.getLsbD j <;> simp

/-- Settles O58, by whether the pane shows an extent, and each cell by its bits. -/
theorem applyFill : Obligations.ApplyFill := by
  refine ⟨fun s x a hx hop hwf _ => ?_, fillCell_xor_twice⟩
  intro after d
  have hexec := exec_applyFill_eq (State.nextOp_of_nextToApply hx hop)
  refine ⟨fun hext => hexec.trans (s.cellEntry_none hext _), fun e hext he => ?_⟩
  intro acts
  obtain ⟨hfilled, hkept⟩ := readCell_fillInto hwf e d.pitch.toNat a
  refine ⟨fillInto s.store.cells e d.pitch.toNat a, hexec.trans (s.cellEntry_some hext he _), fun o ho => ?_,
    fun o ho => hkept o fun h => ho (mem_fillCells.1 h)⟩
  rw [hfilled o (mem_fillCells.2 ho)]
  refine ⟨rfl, fun j hj => ?_⟩
  rw [fillCell_bit a _ hj, combine_bit]

/-! ### COPY (R134) and CLEAR (R114, R127) -/

theorem exec_applyCopy_eq {s : State} {a : CopyArgs} (ho : s.nextOp = some (.update (.copy a))) :
    exec .applyCopy s = s.cellEntry a.pane fun m e pitch => copyInto m e pitch a := by
  simp only [exec, execApplyCopy, ho]

/-- R134: the rows and columns of a COPY that lie in the grid at the source and at the destination. -/
def CopyArgs.inGrid (a : CopyArgs) (e : Extent) (pitch i j : Nat) : Prop :=
  i < a.rows.toNat ∧ j < a.cols.toNat
    ∧ a.srcRow.toNat + i < gridRows e pitch ∧ a.dstRow.toNat + i < gridRows e pitch
    ∧ a.srcCol.toNat + j < pitch ∧ a.dstCol.toNat + j < pitch

theorem mem_copyPairs {e : Extent} {pitch : Nat} {a : CopyArgs} {q : Nat × Nat} : q ∈ copyPairs e pitch a ↔
    ∃ i j, a.inGrid e pitch i j ∧ q = (gridCell e pitch (a.srcRow.toNat + i) (a.srcCol.toNat + j),
      gridCell e pitch (a.dstRow.toNat + i) (a.dstCol.toNat + j)) := by
  simp only [copyPairs, List.mem_map, mem_rectangle_iff, CopyArgs.inGrid, Prod.exists]
  refine exists_congr fun i => exists_congr fun j => and_congr (by omega) eq_comm

/-- R134: the destination cells of a COPY are distinct. -/
theorem copyPairs_nodup (e : Extent) (pitch : Nat) (a : CopyArgs) : ((copyPairs e pitch a).map Prod.snd).Nodup := by
  rw [copyPairs, List.map_map]
  exact gridRectangle_nodup e (by omega)

/-- R134: each destination cell takes its source's value from before the COPY. -/
theorem readCell_copyInto {m : Memory} (h : m.cellsWf = true) (e : Extent) (pitch : Nat) (a : CopyArgs) :
    (∀ q ∈ copyPairs e pitch a, readCell (copyInto m e pitch a) q.2 = readCell m q.1)
    ∧ ∀ o, (∀ q ∈ copyPairs e pitch a, o ≠ q.2) → readCell (copyInto m e pitch a) o = readCell m o := by
  have hfold := readCell_foldl_writeCell (l := copyPairs e pitch a) Prod.snd (fun q _ => readCell m q.1) (copyPairs_nodup e pitch a)
    (Memory.rising_of_cellsWf m h)
  have hcopy : copyInto m e pitch a = (copyPairs e pitch a).foldl (fun m' q => writeCell m' q.2 (readCell m q.1)) m := List.foldl_map
  rw [hcopy]
  refine ⟨hfold.1, fun o ho => hfold.2 o fun hmem => ?_⟩
  obtain ⟨q, hq, rfl⟩ := List.mem_map.1 hmem
  exact ho q hq rfl

/-- R127: the cells of an extent are blank after a CLEAR. -/
theorem readCell_clearExtent (m : Memory) (e : Extent) (o : Nat) : readCell (clearExtent m e) o
    = if 16 * e.base ≤ o ∧ o < 16 * (e.base + e.size) then ⟨0x20, 0x07⟩ else readCell m o := by
  simp only [readCell, clearExtent, Memory.read_clearRange]
  by_cases ho : 16 * e.base ≤ o ∧ o < 16 * (e.base + e.size)
  · rw [if_pos (by omega), if_pos (by omega), if_pos ho, blankByte, blankByte, if_pos (by omega), if_neg (by omega)]
  · rw [if_neg (by omega), if_neg (by omega), if_neg ho]

theorem exec_applyClear_eq {s : State} {p : Byte} {e : Extent} (ho : s.nextOp = some (.clear p e)) (he : e.inStore = true) :
    exec .applyClear s = .next
      ((s.setCells (clearExtent s.store.cells e)).setDisplay (paneIx p) { displayDefaults with ext := some e }).advancePass := by
  simp only [exec, execApplyClear, ho, he, if_true]

/-- Settles O59: a COPY by whether the pane shows an extent, a CLEAR by whether a cell lies in its extent. -/
theorem applyCopyAndClear : Obligations.ApplyCopyAndClear := by
  intro s x hx hwf after
  refine ⟨fun a hop => ?copy, fun p e hop he => ?clear⟩
  case copy =>
    intro d
    have hexec := exec_applyCopy_eq (State.nextOp_of_nextToApply hx hop)
    refine ⟨fun hext => hexec.trans (s.cellEntry_none hext _), fun e hext he => ?_⟩
    intro rows pair src dst
    obtain ⟨hcopied, hkept⟩ := readCell_copyInto hwf e d.pitch.toNat a
    refine ⟨copyInto s.store.cells e d.pitch.toNat a, hexec.trans (s.cellEntry_some hext he _), fun i j hij => ?_, fun o ho => ?_⟩
    · exact hcopied _ (mem_copyPairs.2 ⟨i, j, hij, rfl⟩)
    · refine hkept o fun q hq => ?_
      obtain ⟨i, j, hij, rfl⟩ := mem_copyPairs.1 hq
      exact ho i j hij
  case clear =>
    refine ⟨clearExtent s.store.cells e, exec_applyClear_eq (State.nextOp_of_nextToApply hx hop) he, fun o hlow hhigh => ?_,
      fun o hout => ?_⟩
    · rw [readCell_clearExtent, if_pos ⟨hlow, hhigh⟩]
    · rw [readCell_clearExtent, if_neg (by omega)]

end Sys2Proof.Machine
end

section
/-! PROOF. O21: CONFIGURE. -/

namespace Sys2Proof.Machine

/-! ### The ranges (R136) -/

theorem ne_zero_iff_one_le_toNat {b : Byte} : b ≠ 0 ↔ 1 ≤ b.toNat := by
  rw [Nat.one_le_iff_ne_zero]
  exact not_congr BitVec.toNat_eq

/-- R136: the table's ranges, sync start against horizontal total − 1 and the multiples as divisibility. -/
theorem TileFields.inRange_iff (f : TileFields) : f.inRange = true ↔
    (320 ≤ f.hActive.toNat ∧ f.hActive.toNat ≤ 1280 ∧ 8 ∣ f.hActive.toNat)
    ∧ (f.hActive.toNat + 32 ≤ f.hTotal.toNat ∧ f.hTotal.toNat ≤ 2048)
    ∧ (f.hActive.toNat ≤ f.hSyncStart.toNat ∧ f.hSyncStart.toNat ≤ f.hTotal.toNat - 1)
    ∧ (f.hSyncStart.toNat + 1 ≤ f.hSyncEnd.toNat ∧ f.hSyncEnd.toNat ≤ f.hTotal.toNat)
    ∧ (192 ≤ f.vActive.toNat ∧ f.vActive.toNat ≤ 768 ∧ 16 ∣ f.vActive.toNat)
    ∧ 1 ≤ f.vFront.toNat ∧ 1 ≤ f.vSync.toNat ∧ 1 ≤ f.vBack.toNat ∧ f.originCol.toNat ≤ 4095 ∧ f.originRow.toNat ≤ 4095
    ∧ f.rate.toNat ≤ 3 ∧ f.irqEnable.toNat ≤ 1 := by
  simp only [TileFields.inRange, Bool.and_eq_true, decide_eq_true_eq, ne_zero_iff_one_le_toNat]
  omega

/-! ### The three answers (R161, R162, R175) -/

section
variable {s : State} {f : TileFields}

theorem State.configure_online (h : s.mb.state ≠ .offline) : s.configure f = s.answer .notOffline [] := if_pos h

theorem State.configure_outOfRange (ho : s.mb.state = .offline) (hf : f.inRange = false) : s.configure f = s.answer .badField [] := by
  rw [State.configure, if_neg (not_not.2 ho), if_pos (by rw [hf]; rfl)]

/-- R175: IRQn follows the new configuration's interrupt enable. -/
theorem State.configure_inRange (ho : s.mb.state = .offline) (hf : f.inRange = true) :
    s.configure f = ({ s with
      raster := { s.raster with config := some f }
      pins := { s.pins with irqnLow := decide (f.irqEnable = 1) && !s.host.events.isEmpty } }, .ok, []) := by
  rw [State.configure, if_neg (not_not.2 ho), if_neg (by rw [hf]; decide)]
  rfl

theorem exec_configure_command (hspi : s.host.spi = .command) :
    exec (.configure f) s = .next ((s.configure f).1.answered 19 (s.configure f).2.1 (s.configure f).2.2) :=
  congrArg _ (State.evaluate_command hspi 19 fun t => t.configure f)

end

/-- Settles O21: the ranges, then the three answers by the mode and the range. -/
theorem configureCommand : Obligations.ConfigureCommand := by
  refine ⟨TileFields.inRange_iff, fun s f hspi => ⟨fun hm => ?online, fun ho hf => ?outOfRange, fun ho hf => ?inRange⟩⟩
  all_goals rw [exec_configure_command hspi]
  case online => rw [State.configure_online hm]; rfl
  case outOfRange => rw [State.configure_outOfRange ho hf]; rfl
  case inRange => rw [State.configure_inRange ho hf]

end Sys2Proof.Machine
end

section
/-! PROOF. O56: what the panel is shown. -/

namespace Sys2Proof.Machine

/-! ### The glyphs and the palette (R149, R154) -/

@[simp] theorem glyphRowA_nul (scan : Fin 16) : glyphRowA 0x00 scan = 0x00 := rfl
@[simp] theorem glyphRowA_space (scan : Fin 16) : glyphRowA 0x20 scan = 0x00 := rfl
@[simp] theorem glyphRowA_block (scan : Fin 16) : glyphRowA 0xFF scan = 0xFF := rfl

/-- R154: bank 0 is the ROM bank. -/
theorem State.colour_rom (s : State) (e : Fin 16) : s.colour 0 (BitVec.ofNat 4 e.val) = bank0[e] := by
  rw [State.colour, if_pos rfl]
  congr 1
  exact Nat.mod_eq_of_lt e.isLt

/-- R154: banks 1 to 3 are the station's own. -/
theorem State.colour_bank (s : State) (b : Fin 3) (e : Fin 16) :
    s.colour (BitVec.ofNat 2 (b.val + 1)) (BitVec.ofNat 4 e.val) = s.palettes[b][e] := by
  have hbank : (BitVec.ofNat 2 (b.val + 1)).toNat = b.val + 1 := Nat.mod_eq_of_lt (by omega)
  have hentry : (BitVec.ofNat 4 e.val).toNat = e.val := Nat.mod_eq_of_lt e.isLt
  have hown : BitVec.ofNat 2 (b.val + 1) ≠ 0 := fun h => by simpa [hbank] using congrArg BitVec.toNat h
  have hix : (b.val + 1 + 2) % 3 = b.val := by omega
  simp only [State.colour, if_neg hown, hbank, hentry, hix, Fin.getElem_fin]

/-! ### The cell shown (R126, R148) -/

section
variable {s : State} {d : Display} {e : Extent} {row col : Nat}

/-- R148: the blank cell stands right of the grid, and all over a grid of no rows. -/
theorem State.cellShown_outside (he : d.ext = some e)
    (hout : d.pitch.toNat ≤ d.scrollCol.toNat + col ∨ gridRows e d.pitch.toNat = 0) : s.cellShown d row col = ⟨0x20, 0x07⟩ := by
  simp only [State.cellShown, he]
  exact if_pos hout

/-- R148: the grid's rows repeat downward, and its columns do not. -/
theorem State.cellShown_inside (he : d.ext = some e) (hcol : d.scrollCol.toNat + col < d.pitch.toNat)
    (hrows : gridRows e d.pitch.toNat ≠ 0) : s.cellShown d row col = readCell s.store.cells
      (gridCell e d.pitch.toNat ((d.scrollRow.toNat + row) % gridRows e d.pitch.toNat) (d.scrollCol.toNat + col)) := by
  simp only [State.cellShown, he]
  exact if_neg (not_or.2 ⟨Nat.not_le.2 hcol, hrows⟩)

end

/-- R99, R153: the cursor is present, stands in the window, at this cell and on this scanline. -/
theorem Display.cursorAt_iff (d : Display) (r c : Nat) (scan : Fin 16) : d.cursorAt r c scan = true ↔
    d.cursor.top.toNat ≤ d.cursor.bottom.toNat ∧ d.cursor.row.toNat < d.height.toNat ∧ d.cursor.col.toNat < d.width.toNat
      ∧ d.cursor.row.toNat = r ∧ d.cursor.col.toNat = c ∧ d.cursor.top.toNat ≤ scan.val ∧ scan.val ≤ d.cursor.bottom.toNat := by
  simp only [Display.cursorAt, Cursor.present, Bool.and_eq_true, decide_eq_true_eq, BitVec.le_def, and_assoc]

/-! ### The five steps of a pixel (R118, R151) -/

section
variable {d : Display} {attr : Byte} {blinkOn cursorHere : Bool}

/-- R151: the background index shown, four bits wide in BRIGHT and three bits wide otherwise. -/
def Display.backIndex (d : Display) (attr : Byte) : BitVec 4 := if d.mode = .bright then attr.extractLsb' 4 4 else background attr

/-- R118, R151: adding 8 to the background index for a mode bit of 1 takes the mode bit as its highest bit. -/
theorem background_bright (attr : Byte) : (if modeBit attr = true then background attr ||| 8 else background attr) = attr.extractLsb' 4 4 := by
  refine BitVec.eq_of_getLsbD_eq fun j hj => ?_
  cases hm : modeBit attr
  all_goals
    simp only [modeBit, BitVec.getLsbD_eq_getElem (Nat.lt_add_one 7)] at hm
    interval_cases j <;> simp [background, hm]

theorem Display.backIndex_eq (d : Display) (attr : Byte) :
    (if d.mode = .bright ∧ modeBit attr = true then background attr ||| 8 else background attr) = d.backIndex attr := by
  rw [Display.backIndex, ← background_bright]
  by_cases h : d.mode = .bright <;> simp [h]

/-- R151, step 4: a cell blinked off shows its background alone, under a cursor too. -/
theorem cellIndices_blinkedOff (h : d.mode = .blink ∧ modeBit attr = true ∧ blinkOn = false) :
    cellIndices d attr blinkOn cursorHere = (d.backIndex attr, d.backIndex attr) := by
  simp only [cellIndices, d.backIndex_eq, if_pos h, ite_self]

/-- R151, step 5: the cursor swaps the two indices. -/
theorem cellIndices_shown (h : ¬ (d.mode = .blink ∧ modeBit attr = true ∧ blinkOn = false)) :
    cellIndices d attr blinkOn cursorHere
      = if cursorHere = true then (d.backIndex attr, foreground attr) else (foreground attr, d.backIndex attr) := by
  simp only [cellIndices, d.backIndex_eq, if_neg h]

/-- R151, steps 1 and 2: a pixel is set by its glyph, or by the underline. -/
theorem pixelSet_iff {row : Byte} {scan : Fin 16} {x : Nat} : pixelSet d attr row scan x = true ↔
    row.getLsbD (7 - x) = true ∨ (d.mode = .underline ∧ attr.getLsbD 7 = true ∧ scan.val = d.underline.toNat) := by
  simp only [pixelSet, glyphPixel, modeBit, Bool.or_eq_true, Bool.and_eq_true, decide_eq_true_eq, and_assoc]

end

/-! ### A pane's pixel (R151) -/

/-- R148: the cell that pane `i` shows at a canvas position. -/
def State.paneCell (s : State) (i : Fin 32) (row col : Nat) : Cell :=
  let d := (s.pane i).display
  s.cellShown d (row - d.row.toNat) (col - d.col.toNat)

/-- R151, R152: the cell that pane `i` shows at a canvas position is blinked off. -/
def State.paneBlinkedOff (s : State) (i : Fin 32) (row col : Nat) : Prop :=
  (s.pane i).display.mode = .blink ∧ modeBit (s.paneCell i row col).attr = true ∧ s.raster.blinkOn = false

/-- R151: whether a pixel that pane `i` shows is set. -/
def State.panePixelSet (s : State) (i : Fin 32) (row col : Nat) (scan : Fin 16) (x : Nat) : Bool :=
  let d := (s.pane i).display
  let c := s.paneCell i row col
  pixelSet d c.attr (s.glyphRow d.font c.char scan) scan x

/-- R152, R153: whether the cursor of pane `i` shows at a canvas position. -/
def State.paneCursor (s : State) (i : Fin 32) (row col : Nat) (scan : Fin 16) : Bool :=
  let d := (s.pane i).display
  s.raster.cursorOn && d.cursorAt (row - d.row.toNat) (col - d.col.toNat) scan

section
variable {s : State} {i : Fin 32} {row col x : Nat} {scan : Fin 16}

theorem State.panePixel_eq : s.panePixel i row col scan x =
    let d := (s.pane i).display
    let indices := cellIndices d (s.paneCell i row col).attr s.raster.blinkOn (s.paneCursor i row col scan)
    s.colour d.bank (if s.panePixelSet i row col scan x = true then indices.1 else indices.2) := rfl

theorem State.panePixel_blinkedOff (h : s.paneBlinkedOff i row col) : s.panePixel i row col scan x
    = s.colour (s.pane i).display.bank ((s.pane i).display.backIndex (s.paneCell i row col).attr) := by
  simp only [State.panePixel_eq, cellIndices_blinkedOff h, ite_self]

/-- R151: a pixel shows the foreground when it is set or under the cursor, and not both. -/
theorem State.panePixel_shown (h : ¬ s.paneBlinkedOff i row col) : s.panePixel i row col scan x
    = s.colour (s.pane i).display.bank
        (if s.panePixelSet i row col scan x = s.paneCursor i row col scan then (s.pane i).display.backIndex (s.paneCell i row col).attr
          else foreground (s.paneCell i row col).attr) := by
  simp only [State.panePixel_eq, cellIndices_shown h]
  cases s.panePixelSet i row col scan x <;> cases s.paneCursor i row col scan <;> rfl

end

/-! ### The picture of a line (R140, R145, R147) -/

theorem Raster.composites_iff {r : Raster} : r.composites = true ↔ r.sync = .locked ∨ r.sync = .freeRun := by
  simp [Raster.composites]

theorem Display.coversCol_iff {d : Display} {col : Nat} :
    d.coversCol col = true ↔ d.col.toNat ≤ col ∧ col ≤ min (d.col.toNat + d.width.toNat - 1) 4095 := by
  simp [Display.coversCol, windowEnd]

section
variable {s : State} {f : TileFields} {begun : Bool} {line x col : Nat}

theorem State.paneOnTop_none (h : ∀ i ∈ s.raster.spanList, ¬ (s.pane i).display.coversCol col = true) : s.paneOnTop col = none :=
  List.find?_eq_none.2 h

/-- R147: the pane on top is the first of the span list that stands over the column. -/
theorem State.paneOnTop_first {pre post : List (Fin 32)} {i : Fin 32} (hlist : s.raster.spanList = pre ++ i :: post)
    (hpre : ∀ j ∈ pre, ¬ (s.pane j).display.coversCol col = true) (hi : (s.pane i).display.coversCol col = true) :
    s.paneOnTop col = some i :=
  List.find?_eq_some_iff_append.2 ⟨hi, pre, post, hlist, fun j hj => by simpa using hpre j hj⟩

/-- R147: the background stands where no pane does. -/
theorem State.activePixel_bare (hc : s.raster.composites = true) (ht : s.paneOnTop (f.originCol.toNat + x / 8) = none) :
    s.activePixel f begun line x = 0 := by
  rw [State.activePixel, if_pos hc]
  simp only [tileCellCol, ht]
  rfl

theorem State.activePixel_pane {i : Fin 32} (hc : s.raster.composites = true)
    (ht : s.paneOnTop (f.originCol.toNat + x / 8) = some i) : s.activePixel f begun line x
      = s.panePixel i (f.originRow.toNat + tileCellRow line) (f.originCol.toNat + x / 8) (scanlineOf line) (x % 8) := by
  rw [State.activePixel, if_pos hc]
  simp only [tileCellCol, ht]

/-- R140, R145: where no canvas is composited the background shows, but for the rest of a line cut short. -/
theorem State.activePixel_uncomposited (hc : s.raster.composites = false) (hrest : s.raster.lineRest = false ∨ begun = false) :
    s.activePixel f begun line x = 0 := by
  rw [State.activePixel, if_neg (by simp [hc]), if_neg (by simpa using fun h => hrest.resolve_left (by simp [h]))]
  rfl

end

/-- R145: the tile cell row and the scanline of a line of ACTIVE. -/
theorem tileCellRow_scanlineOf (row : Nat) (scan : Fin 16) :
    tileCellRow (16 * row + scan.val) = row ∧ scanlineOf (16 * row + scan.val) = scan := by
  refine ⟨?_, Fin.ext ?_⟩
  · rw [tileCellRow]; omega
  · rw [scanlineOf]; dsimp only; omega

/-! ### The outputs (R137, R157) -/

section
variable {s : State} {f : TileFields} {ph : Phase} {px begun : Bool} {line x : Nat}

theorem State.video_stopped (h : s.raster.phase = none) : s.video px begun line x = videoStopped := by
  simp only [State.video, h]

theorem State.video_running (hp : s.raster.phase = some ph) (ht : s.raster.timing = some f) : s.video px begun line x =
    { pclk := px
      de := decide (ph = .active) && decide (x < f.hActive.toNat)
      rgb := if (decide (ph = .active) && decide (x < f.hActive.toNat)) = true then s.activePixel f begun line x else 0
      hs := !(decide (f.hSyncStart.toNat ≤ x) && decide (x < f.hSyncEnd.toNat))
      vs := decide (ph ≠ .sync) } := by
  simp only [State.video, hp, ht]

/-- R157: an active pixel of ACTIVE shows the picture. -/
theorem State.video_rgb_active (hp : s.raster.phase = some .active) (ht : s.raster.timing = some f) (hx : x < f.hActive.toNat) :
    (s.video px begun line x).rgb = s.activePixel f begun line x := by
  rw [State.video_running hp ht]
  simp [hx]

/-- R157: RGB is 0 while DE is low. -/
theorem State.video_rgb_blanked (hp : s.raster.phase = some ph) (ht : s.raster.timing = some f)
    (h : ph ≠ .active ∨ f.hActive.toNat ≤ x) : (s.video px begun line x).rgb = 0 := by
  rw [State.video_running hp ht]
  exact if_neg (by obtain h | h := h <;> simp [h])

/-- R147, R157: RGB is 0 wherever the picture is the background, for that is 0 too. -/
theorem State.video_rgb_background (hp : s.raster.phase = some ph) (ht : s.raster.timing = some f)
    (h : s.activePixel f begun line x = 0) : (s.video px begun line x).rgb = 0 := by
  rw [State.video_running hp ht, h]
  exact ite_self _

theorem State.video_de_iff (hp : s.raster.phase = some ph) (ht : s.raster.timing = some f) :
    (s.video px begun line x).de = true ↔ ph = .active ∧ x < f.hActive.toNat := by
  rw [State.video_running hp ht]
  simp

theorem State.video_hs_iff (hp : s.raster.phase = some ph) (ht : s.raster.timing = some f) :
    (s.video px begun line x).hs = false ↔ f.hSyncStart.toNat ≤ x ∧ x < f.hSyncEnd.toNat := by
  rw [State.video_running hp ht]
  simp

theorem State.video_vs_iff (hp : s.raster.phase = some ph) (ht : s.raster.timing = some f) :
    (s.video px begun line x).vs = false ↔ ph = .sync := by
  rw [State.video_running hp ht]
  simp

/-- R157: the level of PXCLK is in PCLK alone. -/
theorem State.video_pxclk (hp : s.raster.phase = some ph) (ht : s.raster.timing = some f) (px' : Bool) :
    s.video px begun line x = { s.video px' begun line x with pclk := px } := by
  simp only [State.video_running hp ht]

end

/-! ### The outputs along a line (R137, R145, R157) -/

section
variable {s : State} {f : TileFields} {ph : Phase} {begun : Bool} {line : Nat} {levels : List Bool}

/-- R137: a further level of PXCLK is a falling edge when the last was high and it is low. -/
theorem fallingEdges_push (levels : List Bool) (px : Bool) : fallingEdges false (levels ++ [px])
    = fallingEdges false levels + if levels.getLast?.getD false = true ∧ px = false then 1 else 0 := by
  simp only [fallingEdges_append, Bool.and_eq_true, Bool.not_eq_true']

/-- R145, R146: a list is read in a line of ACTIVE that shows the canvas alone. -/
theorem State.listStands_iff (hp : s.raster.phase = some ph) : s.listStands line = true ↔
    ph ≠ .active ∨ (s.raster.sync ≠ .locked ∧ s.raster.sync ≠ .freeRun) ∨ s.raster.spanRow = line / 16 := by
  change _ ↔ _ ∨ _ ∨ s.raster.spanRow = tileCellRow line
  simp [State.listStands, State.inPhase, Raster.composites, hp, or_assoc]

theorem State.panel_stopped (h : s.raster.phase = none) : s.panel begun line levels = some videoStopped := by
  simp only [State.panel, h]

theorem State.panel_running (hp : s.raster.phase = some ph) (ht : s.raster.timing = some f) : s.panel begun line levels =
    if fallingEdges false levels < f.hTotal.toNat ∧ s.listStands line = true
    then some (s.video (levels.getLast?.getD false) begun line (fallingEdges false levels)) else none := by
  simp only [State.panel, hp, ht]

theorem State.panel_some (hp : s.raster.phase = some ph) (ht : s.raster.timing = some f) {v : VideoOut}
    (h : s.panel begun line levels = some v) : v = s.video (levels.getLast?.getD false) begun line (fallingEdges false levels) := by
  rw [State.panel_running hp ht] at h
  exact (Option.some.inj (Option.ite_none_right_eq_some.1 h).2).symm

/-- R157: PCLK is PXCLK, and at a level that is no falling edge nothing else changes. -/
theorem State.panel_push (hp : s.raster.phase = some ph) (ht : s.raster.timing = some f) {px : Bool} {v w : VideoOut}
    (hv : s.panel begun line levels = some v) (hw : s.panel begun line (levels ++ [px]) = some w) :
    w.pclk = px ∧ (¬ (v.pclk = true ∧ px = false) → w = { v with pclk := px }) := by
  obtain rfl := State.panel_some hp ht hv
  obtain rfl := State.panel_some hp ht hw
  rw [List.getLast?_concat, Option.getD_some]
  refine ⟨by rw [State.video_running hp ht], fun hedge => ?_⟩
  have hlast : ¬ (levels.getLast?.getD false = true ∧ px = false) := by rwa [State.video_running hp ht] at hedge
  rw [fallingEdges_push, if_neg hlast, Nat.add_zero]
  exact State.video_pxclk hp ht _

end

/-! ### The statement's parts -/

/-- R137, R138: a phase's lines follow one another, each horizontal total pixel periods long. -/
theorem TileFields.beam_spec {f : TileFields} {ph : Phase} {lines : Nat} (n : Nat) (hpos : 0 < f.hTotal.toNat)
    (hl : f.phaseLines ph = some lines) : f.phasePeriods ph = some (lines * f.hTotal.toNat)
      ∧ n = f.hTotal.toNat * (f.beam n).1 + (f.beam n).2 ∧ (f.beam n).2 < f.hTotal.toNat
      ∧ (n < lines * f.hTotal.toNat ↔ (f.beam n).1 < lines) :=
  ⟨by rw [TileFields.phasePeriods, hl]; rfl, (Nat.div_add_mod n _).symm, Nat.mod_lt _ hpos, (Nat.div_lt_iff_lt_mul hpos).symm⟩

/-- Settles O56, part by part: the outputs along a line, the lines of a phase, the outputs at a pixel, the palette, the glyphs, the
cursor, and a pane's pixel by whether its cell is blinked off. -/
theorem pixelColour : Obligations.PixelColour := by
  refine ⟨⟨rfl, fallingEdges_push⟩, fun s begun line levels => ⟨State.panel_stopped, fun ph f hp ht => ?along⟩,
    fun f ph lines n => TileFields.beam_spec n, fun s px begun row line x scan hline => ⟨State.video_stopped, fun ph f hp ht => ?outputs⟩,
    fun s e => ⟨?rom, fun b => s.colour_bank b e⟩,
    fun s code scan => ⟨rfl, glyphRowA_nul scan, glyphRowA_space scan, glyphRowA_block scan⟩,
    Display.cursorAt_iff, fun s i row col scan x => ?pixel⟩
  case along =>
    have hrun := State.panel_running (begun := begun) (line := line) (levels := levels) hp ht
    have hstands := State.listStands_iff (line := line) hp
    refine ⟨fun hx hl => ?_, fun hx => ?_, fun hact hsync hrow => ?_, fun px v w => State.panel_push hp ht⟩
    · rw [hrun, if_pos ⟨hx, hstands.2 hl⟩]
    · rw [hrun, if_neg fun h => Nat.not_lt.2 hx h.1]
    · refine hrun.trans (if_neg fun h => ?_)
      obtain hph | ⟨hlocked, hfree⟩ | heq := hstands.1 h.2
      · exact hph hact
      · exact hsync.elim hlocked hfree
      · exact hrow heq
  case outputs =>
    obtain ⟨hcell, hscan⟩ := tileCellRow_scanlineOf row scan
    rw [← hline] at hcell hscan
    simp only [← Display.coversCol_iff]
    refine ⟨by rw [State.video_running hp ht], State.video_de_iff hp ht, State.video_hs_iff hp ht, State.video_vs_iff hp ht,
      State.video_rgb_blanked hp ht, fun hsync hrest => State.video_rgb_background hp ht ?_,
      fun hsync hnone => State.video_rgb_background hp ht ?_, fun pre i post hsync hph hx hlist hpre hi => ?_⟩
    · have hc : s.raster.composites = false := by obtain h | h := hsync <;> simp [Raster.composites, h]
      exact State.activePixel_uncomposited hc hrest
    · exact State.activePixel_bare (Raster.composites_iff.2 hsync) (State.paneOnTop_none hnone)
    · subst hph
      rw [State.video_rgb_active hp ht hx, State.activePixel_pane (Raster.composites_iff.2 hsync) (State.paneOnTop_first hlist hpre hi),
        hcell, hscan]
  case rom =>
    rw [s.colour_rom e]
    fin_cases e <;> rfl
  case pixel =>
    intro d c set fg bg off cur
    have hset : s.panePixelSet i row col scan x = true ↔ set := pixelSet_iff
    have hcur : s.paneCursor i row col scan = true ↔ cur := by simp only [State.paneCursor, Bool.and_eq_true]; rfl
    refine ⟨State.panePixel_blinkedOff, fun hoff hone => ?_, fun hoff hboth => ?_, fun e he hout => State.cellShown_outside he hout,
      fun e he hcol hrows => State.cellShown_inside he hcol hrows⟩
    · rw [← hset, ← hcur] at hone
      rw [State.panePixel_shown hoff, if_neg (by grind)]
      rfl
    · rw [← hset, ← hcur] at hboth
      rw [State.panePixel_shown hoff, if_pos (by grind)]
      rfl

end Sys2Proof.Machine
end

section
/-! PROOF. What the host commands share: the answer a command is evaluated to, the mode test of those that give the group work, and the room
of the transmit queue. O19, O22 and O25 to O30 rest on it. -/

namespace Sys2Proof.Machine

variable {s : State}

/-! ### A command's answer (R159) -/

/-- R159: what a command's checks and effect come to is what the port answers. -/
theorem exec_evaluated (h : s.host.spi = .command) {c : Instr} {n : Nat} {f : State → State × Status × List Byte}
    (hc : exec c s = .next (s.evaluate n f)) {u : State} {st : Status} {data : List Byte} (hf : f s = (u, st, data)) :
    exec c s = .next (u.answered n st data) := by
  rw [hc, State.evaluate_command h, hf]

/-- R168: an update command is evaluated after the bytes of its packet's body. -/
theorem exec_update (s : State) (u : Update) : exec u.command s = .next (s.evaluate u.body.length fun t => t.submit u) := by
  cases u <;> rfl

/-! ### The mode test (R161) -/

theorem State.groupWork_takesWork (h : s.takesWork) : s.groupWork = none := by
  obtain ⟨-, hm, hl⟩ := h
  simp [State.groupWork, hm, hl]

theorem State.groupWork_of_mode {st : Status}
    (h : (s.mb.state ≠ .member ∧ st = .notMember) ∨ (s.mb.state = .member ∧ s.mb.leaveRequested = true ∧ st = .leaving)) :
    s.groupWork = some st := by
  obtain ⟨hm, rfl⟩ | ⟨hm, hl, rfl⟩ := h
  · simp [State.groupWork, State.isMember, hm]
  · simp [State.groupWork, State.isMember, hm, hl]

section
variable {st : Status} (h : s.groupWork = some st)
include h

theorem State.beginBatch_mode : s.beginBatch = (s, st, []) := by rw [State.beginBatch, h]; rfl

theorem State.endBatch_mode : s.endBatch = (s, st, []) := by rw [State.endBatch, h]; rfl

theorem State.submit_mode (u : Update) : s.submit u = (s, st, []) := by rw [State.submit, h]; rfl

theorem State.request_mode (b : Bool) (r : Request) : s.request b r = (s, st, []) := by rw [State.request, h]; rfl

end

/-! ### The room of the transmit queue (R29) -/

theorem State.queueHasRoom_of_lt (h : s.tx.queue.length < 48) : s.queueHasRoom = true := decide_eq_true h

theorem State.queueHasRoom_of_full (h : 48 ≤ s.tx.queue.length) : s.queueHasRoom = false := decide_eq_false (Nat.not_lt.2 h)

end Sys2Proof.Machine
end

section
/-! PROOF. O26: BEGIN-BATCH and END-BATCH. -/

namespace Sys2Proof.Machine

variable {s : State}

/-! ### The tag given (R166) -/

/-- R166: the tag given is free, and every tag looked at before it is in use. -/
theorem State.freeTag_first {g : BitVec 4} (h : s.freeTag = some g) :
    ∃ k, k < 16 ∧ g = s.host.nextTag + BitVec.ofNat 4 k ∧ s.tagInUse (g.setWidth 8) = false
      ∧ ∀ j, j < k → s.tagInUse ((s.host.nextTag + BitVec.ofNat 4 j).setWidth 8) = true := by
  obtain ⟨hfree, k, hk, hg, hbefore⟩ := List.find?_eq_some_iff_getElem.1 h
  simp only [tagsFrom, List.length_map, List.length_range, List.getElem_map, List.getElem_range] at hk hg hbefore
  exact ⟨k, hk, hg.symm, by simpa using hfree, fun j hj => by simpa using hbefore j hj⟩

/-- R166: from any counter on, the sixteen tags are every tag. -/
theorem mem_tagsFrom (next g : BitVec 4) : g ∈ tagsFrom next :=
  List.mem_map.2 ⟨(g - next).toNat, List.mem_range.2 (g - next).isLt, by rw [BitVec.ofNat_toNat, BitVec.setWidth_eq]; bv_omega⟩

theorem State.freeTag_none_iff : s.freeTag = none ↔ ∀ g : BitVec 4, s.tagInUse (g.setWidth 8) = true := by
  rw [State.freeTag, List.find?_eq_none]
  exact ⟨fun h g => by simpa using h g (mem_tagsFrom _ g), fun h g _ => by simp [h g]⟩

/-! ### BEGIN-BATCH (R167) -/

section
variable (hg : s.groupWork = none)
include hg

theorem State.beginBatch_opened {g : Byte} {n : Nat} (h : s.host.batch = .opened g n) : s.beginBatch = (s, .batchOpen, [g]) := by
  rw [State.beginBatch, hg, h]; rfl

theorem State.beginBatch_broken {g : Byte} {n : Nat} (h : s.host.batch = .broken g n) : s.beginBatch = (s, .broken, [g]) := by
  rw [State.beginBatch, hg, h]; rfl

theorem State.beginBatch_noTag (h : s.host.batch = .none) (ht : s.freeTag = none) : s.beginBatch = (s, .noTag, []) := by
  rw [State.beginBatch, hg, h, ht]; rfl

theorem State.beginBatch_ok (h : s.host.batch = .none) {g : BitVec 4} (ht : s.freeTag = some g) :
    s.beginBatch = ({ s with
      tx := { s.tx with batches := s.tx.batches ++ [⟨g.setWidth 8, false, false, false⟩] }
      host := { s.host with nextTag := g + 1, batch := .opened (g.setWidth 8) 0 } }, .ok, [g.setWidth 8]) := by
  rw [State.beginBatch, hg, h, ht]; rfl

/-! ### END-BATCH (R167) -/

theorem State.endBatch_none (h : s.host.batch = .none) : s.endBatch = (s, .noBatch, []) := by
  rw [State.endBatch, hg, h]; rfl

theorem State.endBatch_broken {g : Byte} {n : Nat} (h : s.host.batch = .broken g n) :
    s.endBatch = ({ s with host := { s.host with batch := .none } }, .broken, [g]) := by
  rw [State.endBatch, hg, h]; rfl

theorem State.endBatch_opened {g : Byte} {n : Nat} (h : s.host.batch = .opened g n) :
    s.endBatch = ((({ s with host := { s.host with batch := .none } } : State).changeRecord g
      fun b => { b with ended := true }).tidyBatches, .ok, [g, byte n]) := by
  rw [State.endBatch, hg, h]; rfl

end

/-- R30: an entry stands in OPEN or in NEXT exactly if it is not applying. -/
theorem Epochs.batchIn_gathering (e : Epochs) (i : StationId) (g : Byte) :
    (e.batchIn i g .openE || e.batchIn i g .nextE)
      = e.staging.any fun x => decide (x.sender = i) && decide (x.tag = some g) && decide (x.cls ≠ .applying) := by
  have hclass (c : EpochClass) : c ≠ .applying ↔ c = .openE ∨ c = .nextE := by cases c <;> decide
  rw [Bool.eq_iff_iff]
  simp only [Epochs.batchIn, Bool.or_eq_true, List.any_eq_true, Bool.and_eq_true, decide_eq_true_eq, hclass, and_or_left, exists_or]

/-- R30: of the records, those stay that are unfinished or have entries in OPEN or NEXT. -/
theorem State.tidyBatches_eq (s : State) : s.tidyBatches = { s with tx := { s.tx with
    batches := s.tx.batches.filter fun b =>
      !b.ended || (s.tx.queue.any fun q => decide (q.request.tag? = some b.tag)) || b.broken
      || s.ep.staging.any fun x => decide (x.sender = s.stationId) && decide (x.tag = some b.tag) && decide (x.cls ≠ .applying) } } := by
  simp only [State.tidyBatches, Bool.or_assoc, Epochs.batchIn_gathering]
  simp only [Transmitter.unfinished, Transmitter.queuedInBatch, Bool.or_assoc]

/-- Settles O26: the answers by the batch that stands, and the search for a free tag. -/
theorem hostBatchCommands : Obligations.HostBatchCommands := by
  refine ⟨fun s hw => ?_, fun s => ⟨fun _ => State.freeTag_first, State.freeTag_none_iff⟩⟩
  have hspi := hw.1
  have hg := State.groupWork_takesWork hw
  refine ⟨fun g n hb => exec_evaluated hspi rfl (State.beginBatch_opened hg hb),
    fun g n hb => exec_evaluated hspi rfl (State.beginBatch_broken hg hb),
    fun hb ht => exec_evaluated hspi rfl (State.beginBatch_noTag hg hb ht),
    fun g hb ht => exec_evaluated hspi rfl (State.beginBatch_ok hg hb ht),
    fun hb => exec_evaluated hspi rfl (State.endBatch_none hg hb),
    fun g n hb => exec_evaluated hspi rfl (State.endBatch_broken hg hb), fun g n hb => ?_⟩
  refine (exec_evaluated hspi rfl (State.endBatch_opened hg hb)).trans ?_
  rw [State.tidyBatches_eq]
  rfl

end Sys2Proof.Machine
end

section
/-! PROOF. O27: the five update commands. -/

namespace Sys2Proof.Machine

/-! ### The ranges (R112, R128, R130, R133, R155) -/

theorem absentOr_iff {α : Type} {p : α → Bool} {x : Option α} : absentOr p x = true ↔ ∀ v, x = some v → p v = true := by
  cases x <;> simp [absentOr]

theorem byte_le_one_iff {b : Byte} : b.toNat ≤ 1 ↔ b = 0 ∨ b = 1 := by bv_omega

theorem PutCellsArgs.inRange_iff (a : PutCellsArgs) : (Update.putCells a).inRange = true ↔
    a.pane.toNat ≤ 31 ∧ a.offset.toNat ≤ 8191 ∧ 1 ≤ a.cells.length ∧ a.cells.length ≤ 12 := by
  simp only [Update.inRange, PutCellsArgs.inRange, paneInRange, Bool.and_eq_true, decide_eq_true_eq, and_assoc]

theorem FillArgs.inRange_iff (a : FillArgs) : (Update.fill a).inRange = true ↔
    a.pane.toNat ≤ 31 ∧ a.top.toNat ≤ 8191 ∧ a.left.toNat ≤ 254 ∧ 1 ≤ a.rows.toNat ∧ a.rows.toNat ≤ 8192 ∧ 1 ≤ a.cols.toNat
      ∧ a.fn.toNat ≤ 3 ∧ (a.charWrite = 0 ∨ a.charWrite = 1) := by
  simp only [Update.inRange, FillArgs.inRange, paneInRange, Bool.and_eq_true, decide_eq_true_eq, and_assoc, byte_le_one_iff]

theorem CopyArgs.inRange_iff (a : CopyArgs) : (Update.copy a).inRange = true ↔
    a.pane.toNat ≤ 31 ∧ a.srcRow.toNat ≤ 8191 ∧ a.dstRow.toNat ≤ 8191 ∧ a.srcCol.toNat ≤ 254 ∧ a.dstCol.toNat ≤ 254
      ∧ 1 ≤ a.rows.toNat ∧ a.rows.toNat ≤ 8192 ∧ 1 ≤ a.cols.toNat := by
  simp only [Update.inRange, CopyArgs.inRange, paneInRange, Bool.and_eq_true, decide_eq_true_eq, and_assoc]

/-- R112: a field is held to its range where its mark is set. -/
theorem SetPaneArgs.inRange_iff (a : SetPaneArgs) : (Update.setPane a).inRange = true ↔
    a.pane.toNat ≤ 31 ∧ a.extraMarks = 0 ∧ (∀ v, a.col = some v → v.toNat ≤ 4095) ∧ (∀ v, a.row = some v → v.toNat ≤ 4095)
      ∧ (∀ v, a.width = some v → v ≠ 0) ∧ (∀ v, a.height = some v → v ≠ 0) ∧ (∀ v, a.depth = some v → v.toNat ≤ 63)
      ∧ (∀ v, a.pitch = some v → v ≠ 0) ∧ (∀ v, a.scrollRow = some v → v.toNat ≤ 8191) ∧ (∀ v, a.scrollCol = some v → v.toNat ≤ 254)
      ∧ (∀ v, a.font = some v → v.toNat ≤ 1) ∧ (∀ v, a.bank = some v → v.toNat ≤ 3) ∧ (∀ v, a.mode = some v → v.toNat ≤ 2)
      ∧ (∀ v, a.underline = some v → v.toNat ≤ 15) ∧ (∀ v, a.cursor = some v → v.row.toNat ≤ 254 ∧ v.col.toNat ≤ 254)
      ∧ (∀ v, a.visible = some v → v.toNat ≤ 1) := by
  simp only [Update.inRange, SetPaneArgs.inRange, RawCursor.inRange, paneInRange, absentOr_iff, Bool.and_eq_true, decide_eq_true_eq,
    and_assoc]

theorem SetPaletteArgs.inRange_iff (a : SetPaletteArgs) : (Update.setPalette a).inRange = true ↔
    1 ≤ a.bank.toNat ∧ a.bank.toNat ≤ 3 ∧ a.first.toNat ≤ 15 ∧ 1 ≤ a.colours.length ∧ a.colours.length ≤ 8
      ∧ a.first.toNat + a.colours.length ≤ 16 := by
  simp only [Update.inRange, SetPaletteArgs.inRange, Bool.and_eq_true, decide_eq_true_eq, and_assoc]

/-! ### The six checks and the two effects (R168) -/

/-- R168, check 2: the update names no pane, or one that this station owns. -/
theorem State.ownsNamed_iff (s : State) (u : Update) :
    s.ownsNamed u = true ↔ ∀ p, u.pane? = some p → ownedBy (s.pane (paneIx p)) s.stationId = true := by
  rw [State.ownsNamed]
  cases u.pane? <;> simp

section
variable {s : State} {u : Update} (hg : s.groupWork = none)
include hg

theorem State.submit_outOfRange (hr : u.inRange = false) : s.submit u = (s, .badField, []) := by
  rw [State.submit, hg]
  simp only [hr, Bool.not_false, if_true, State.answer]

theorem State.submit_notOwner (hr : u.inRange = true) {p : Byte} (hp : u.pane? = some p)
    (ho : ownedBy (s.pane (paneIx p)) s.stationId = false) : s.submit u = (s, .notOwner, []) := by
  have hn : s.ownsNamed u = false := by rw [State.ownsNamed, hp]; exact ho
  rw [State.submit, hg]
  simp only [hr, hn, Bool.not_true, Bool.not_false, Bool.false_eq_true, if_true, if_false, State.answer]

section
variable (hr : u.inRange = true) (ho : s.ownsNamed u = true)
include hr ho

/-- R168: checks 1 and 2 passed, the batch that stands decides. -/
theorem State.submit_broken {g : Byte} {n : Nat} (hb : s.host.batch = .broken g n) : s.submit u = (s, .broken, [g]) := by
  simp [State.submit, hg, hr, ho, hb, State.answer]

theorem State.submit_batchFull {g : Byte} {n : Nat} (hb : s.host.batch = .opened g n) (hn : 40 ≤ n) :
    s.submit u = (s, .batchFull, []) := by
  simp [State.submit, hg, hr, ho, hb, Config.batchRoom, hn, State.answer]

theorem State.submit_queueFull {g : Byte} {n : Nat} (hb : s.host.batch = .opened g n) (hn : n < 40) (hq : s.queueHasRoom = false) :
    s.submit u = (s, .queueFull, []) := by
  simp [State.submit, hg, hr, ho, hb, Config.batchRoom, Nat.not_le.2 hn, hq, State.answer]

/-- R168: in an open batch the packet takes the batch's tag, and the count grows. -/
theorem State.submit_opened {g : Byte} {n : Nat} (hb : s.host.batch = .opened g n) (hn : n < 40) (hq : s.queueHasRoom = true) :
    s.submit u = ({ s with
      tx := { s.tx with queue := s.tx.queue ++ [⟨.update g u, 0⟩] }
      host := { s.host with batch := .opened g (n + 1) } }, .ok, [g]) := by
  simp [State.submit, hg, hr, ho, hb, Config.batchRoom, Nat.not_le.2 hn, hq, State.setHost, State.enqueue]

theorem State.submit_noTag (hb : s.host.batch = .none) (ht : s.freeTag = none) : s.submit u = (s, .noTag, []) := by
  simp [State.submit, hg, hr, ho, hb, ht, State.answer]

theorem State.submit_noBatch_queueFull (hb : s.host.batch = .none) {g : BitVec 4} (ht : s.freeTag = some g)
    (hq : s.queueHasRoom = false) : s.submit u = (s, .queueFull, []) := by
  simp [State.submit, hg, hr, ho, hb, ht, hq, State.answer]

/-- R168: with no batch an implicit one, which the host has ended, takes a tag. -/
theorem State.submit_implicit (hb : s.host.batch = .none) {g : BitVec 4} (ht : s.freeTag = some g) (hq : s.queueHasRoom = true) :
    s.submit u = ({ s with
      tx := { s.tx with
        queue := s.tx.queue ++ [⟨.update (g.setWidth 8) u, 0⟩]
        batches := s.tx.batches ++ [⟨g.setWidth 8, true, false, false⟩] }
      host := { s.host with nextTag := g + 1 } }, .ok, [g.setWidth 8]) := by
  simp [State.submit, hg, hr, ho, hb, ht, hq, State.giveTag, State.enqueue]

end
end

/-- Settles O27: the ranges kind by kind, then the checks in their order. -/
theorem updateCommands : Obligations.UpdateCommands := by
  refine ⟨PutCellsArgs.inRange_iff, FillArgs.inRange_iff, CopyArgs.inRange_iff, SetPaneArgs.inRange_iff, SetPaletteArgs.inRange_iff,
    fun s u hw => ?_⟩
  have hg := State.groupWork_takesWork hw
  have answers {t : State} {st : Status} {data : List Byte} (h : s.submit u = (t, st, data)) :
      exec u.command s = .next (t.answered u.body.length st data) := exec_evaluated hw.1 (exec_update s u) h
  refine ⟨fun hr => answers (State.submit_outOfRange hg hr), fun p hr hp ho => answers (State.submit_notOwner hg hr hp ho),
    fun hr hown => ?_⟩
  have ho := (s.ownsNamed_iff u).2 hown
  exact ⟨fun g n hb => answers (State.submit_broken hg hr ho hb), fun g n hb hn => answers (State.submit_batchFull hg hr ho hb hn),
    fun g n hb hn hq => answers (State.submit_queueFull hg hr ho hb hn (State.queueHasRoom_of_full hq)),
    fun g n hb hn hq => answers (State.submit_opened hg hr ho hb hn (State.queueHasRoom_of_lt hq)),
    fun hb ht => answers (State.submit_noTag hg hr ho hb ht),
    fun g hb ht hq => answers (State.submit_noBatch_queueFull hg hr ho hb ht (State.queueHasRoom_of_full hq)),
    fun g hb ht hq => answers (State.submit_implicit hg hr ho hb ht (State.queueHasRoom_of_lt hq))⟩

end Sys2Proof.Machine
end

section
/-! PROOF. O28: CLAIM, HANDOVER and RELEASE, and the mode test. -/

namespace Sys2Proof.Machine

/-! ### A pane request (R170) -/

section
variable {s : State} {b : Bool} {r : Request} (hg : s.groupWork = none)
include hg

theorem State.request_outOfRange (hb : b = false) : s.request b r = (s, .badField, []) := by
  simp [State.request, hg, hb, State.answer]

theorem State.request_queueFull (hb : b = true) (hq : s.queueHasRoom = false) : s.request b r = (s, .queueFull, []) := by
  simp [State.request, hg, hb, hq, State.answer]

theorem State.request_ok (hb : b = true) (hq : s.queueHasRoom = true) :
    s.request b r = ({ s with tx := { s.tx with queue := s.tx.queue ++ [⟨r, 0⟩] } }, .ok, []) := by
  simp [State.request, hg, hb, hq, State.enqueue]

end

theorem paneInRange_iff {p : Byte} : paneInRange p = true ↔ p.toNat ≤ 31 := decide_eq_true_iff

theorem claim_inRange_iff {p : Byte} {n : Half} :
    (paneInRange p && decide (n.toNat ≤ Config.granules)) = true ↔ p.toNat ≤ 31 ∧ n.toNat ≤ 512 := by
  rw [Bool.and_eq_true, paneInRange_iff, decide_eq_true_iff]
  rfl

theorem handover_inRange_iff {p g : Byte} : (paneInRange p && decide (g.toNat ≤ 15)) = true ↔ p.toNat ≤ 31 ∧ g.toNat ≤ 15 := by
  rw [Bool.and_eq_true, paneInRange_iff, decide_eq_true_iff]

/-- Settles O28: ranges, room and append once for the three requests, and each command stopped by the mode test. -/
theorem paneRequestsAndModeTest : Obligations.PaneRequestsAndModeTest := by
  refine ⟨fun s p g n hw => ?requests, fun s st hspi hmode => ?mode⟩
  case requests =>
    have hspi := hw.1
    have hg := State.groupWork_takesWork hw
    refine ⟨fun h => exec_evaluated hspi rfl (State.request_outOfRange hg ?_),
      fun h => exec_evaluated hspi rfl (State.request_outOfRange hg ?_),
      fun h => exec_evaluated hspi rfl (State.request_outOfRange hg ?_), fun hp hn ht hq => ?full, fun hp hn ht hq => ?room⟩
    · rw [Bool.eq_false_iff, Ne, claim_inRange_iff]; omega
    · rw [Bool.eq_false_iff, Ne, handover_inRange_iff]; omega
    · rw [Bool.eq_false_iff, Ne, paneInRange_iff]; omega
    case full =>
      have hq := State.queueHasRoom_of_full hq
      exact ⟨exec_evaluated hspi rfl (State.request_queueFull hg (claim_inRange_iff.2 ⟨hp, hn⟩) hq),
        exec_evaluated hspi rfl (State.request_queueFull hg (handover_inRange_iff.2 ⟨hp, ht⟩) hq),
        exec_evaluated hspi rfl (State.request_queueFull hg (paneInRange_iff.2 hp) hq)⟩
    case room =>
      have hq := State.queueHasRoom_of_lt hq
      exact ⟨exec_evaluated hspi rfl (State.request_ok hg (claim_inRange_iff.2 ⟨hp, hn⟩) hq),
        exec_evaluated hspi rfl (State.request_ok hg (handover_inRange_iff.2 ⟨hp, ht⟩) hq),
        exec_evaluated hspi rfl (State.request_ok hg (paneInRange_iff.2 hp) hq)⟩
  case mode =>
    have hg := State.groupWork_of_mode hmode
    exact ⟨exec_evaluated hspi rfl (State.beginBatch_mode hg), exec_evaluated hspi rfl (State.endBatch_mode hg),
      fun u => exec_evaluated hspi (exec_update s u) (State.submit_mode hg u),
      fun _ _ => exec_evaluated hspi rfl (State.request_mode hg _ _), fun _ _ => exec_evaluated hspi rfl (State.request_mode hg _ _),
      fun _ => exec_evaluated hspi rfl (State.request_mode hg _ _)⟩

end Sys2Proof.Machine
end

section
/-! PROOF. O22: LOAD-FONT-B. -/

namespace Sys2Proof.Machine

/-- R149: the memory with a glyph's sixteen rows written. -/
def withGlyph (font : Memory) (code : Byte) (rows : Vector Byte 16) : Memory :=
  Memory.writeRun fontZero font (16 * code.toNat) rows.toList

section
variable {s : State} {code : Byte} {rows : Vector Byte 16}

theorem State.loadFont_online (h : s.mb.state ≠ .offline) : s.loadFont code rows = (s, .notOffline, []) := if_pos h

/-- R150, R163: the digest is computed anew over the font written. -/
theorem State.loadFont_offline (h : s.mb.state = .offline) :
    s.loadFont code rows = ({ s with raster := { s.raster with
      fontB := withGlyph s.raster.fontB code rows
      fontDigest := fontDigestOf (withGlyph s.raster.fontB code rows) } }, .ok, []) := if_neg (not_not.2 h)

end

section
variable {font : Memory} (hf : font.fontWf = true) (code : Byte) (rows : Vector Byte 16)
include hf

theorem read_withGlyph (a : Nat) : Memory.read fontZero (withGlyph font code rows) a
    = if 16 * code.toNat ≤ a ∧ a < 16 * code.toNat + 16 then rows.toList.getD (a - 16 * code.toNat) 0 else Memory.read fontZero font a := by
  have hrising : Memory.rising font = true := ((Memory.wf_iff _ _ _).1 hf).1
  rw [withGlyph, Memory.read_writeRun fontZero _ _ _ _ hrising, Vector.length_toList]

theorem fontBRow_withGlyph (r : Fin 16) : fontBRow (withGlyph font code rows) code.toNat r = rows[r] := by
  rw [fontBRow, read_withGlyph hf, if_pos (by omega)]
  simp

theorem read_withGlyph_other {a : Nat} (ha : a < 16 * code.toNat ∨ 16 * code.toNat + 16 ≤ a) :
    Memory.read fontZero (withGlyph font code rows) a = Memory.read fontZero font a := by
  rw [read_withGlyph hf, if_neg (by omega)]

end

/-- Settles O22: the two answers, and what is read from the font with the glyph written. -/
theorem loadFontCommand : Obligations.LoadFontCommand := fun s code rows hspi =>
  ⟨fun hm => exec_evaluated hspi rfl (State.loadFont_online hm),
    fun ho hf => ⟨withGlyph s.raster.fontB code rows, exec_evaluated hspi rfl (State.loadFont_offline ho),
      fontBRow_withGlyph hf code rows, fun _ => read_withGlyph_other hf code rows⟩⟩

end Sys2Proof.Machine
end

section
/-! PROOF. O25: GO-OFFLINE at a member. -/

namespace Sys2Proof.Machine

variable {s : State}

/-! ### The batch broken (R36) -/

/-- R40: packets removed from the queue move nothing else but whether the attempt is still held. -/
theorem State.removeQueued_eq (s : State) (p : Queued → Bool) : ∃ a, s.removeQueued p
    = { s with tx := { s.tx with attempt := a, queue := s.tx.queue.filter fun q => !p q } } := by
  rw [State.removeQueued]
  split
  · exact ⟨s.tx.dropAttempt.attempt, rfl⟩
  · exact ⟨s.tx.attempt, rfl⟩

/-- R36, R169: what breaking a batch leaves of its record, and in the Host Port, with room for BATCH_BROKEN. -/
theorem State.breakBatch_effect (hroom : s.host.events.length < 32) (g : Byte) :
    (s.breakBatch g).tx.retracts = (if s.batchTaken g then s.tx.retracts ++ [⟨g, 0⟩] else s.tx.retracts)
    ∧ (s.breakBatch g).tx.batches = (if s.batchTaken g then s.tx.batches.map fun b => if b.tag = g then { b with broken := true } else b
        else s.tx.batches.filter fun b => decide (b.tag ≠ g))
    ∧ (s.breakBatch g).host = { s.host with
        events := s.host.events ++ [⟨.batchBroken, s.ep.openNum, g, 0, 0⟩], batch := s.host.batch.breakTag g } := by
  obtain ⟨a, hqueue⟩ := s.removeQueued_eq fun q => decide (q.request.tag? = some g)
  have htaken : (s.removeQueued fun q => decide (q.request.tag? = some g)).batchTaken g = s.batchTaken g := by rw [hqueue]; rfl
  rw [State.breakBatch, htaken, hqueue]
  cases s.batchTaken g <;>
    simp [State.post_of_room, hroom, State.raiseRetract, State.changeRecord, State.dropRecord, State.withEvent]

/-! ### The batch discarded, and the room for a LEAVE (R165) -/

theorem State.discardBatch_opened {g : Byte} {n : Nat} (h : s.host.batch = .opened g n) :
    s.discardBatch = { s.breakBatch g with host := { (s.breakBatch g).host with batch := .none } } := by
  rw [State.discardBatch, h]; rfl

/-- R165: with none open, no second record is posted. -/
theorem State.discardBatch_other (h : ∀ g n, s.host.batch ≠ .opened g n) :
    s.discardBatch = { s with host := { s.host with batch := .none } } := by
  rw [State.discardBatch]
  split
  next hb => exact absurd hb (h _ _)
  next => rfl

theorem State.leaveRoom_zero_iff : s.leaveRoom = 0 ↔
    48 ≤ s.tx.queue.length ∧ ∀ g n, s.host.batch = .opened g n → ∀ q ∈ s.tx.queue, q.request.tag? ≠ some g := by
  rw [State.leaveRoom, Nat.add_eq_zero_iff, Nat.sub_eq_zero_iff_le]
  refine and_congr Iff.rfl ?_
  cases s.host.batch <;> simp

/-! ### The answers (R165) -/

section
variable (hm : s.mb.state = .member)
include hm

theorem State.goOffline_leaving (hl : s.mb.leaveRequested = true) : s.goOffline = (s, .ok, []) := by
  simp [State.goOffline, hm, hl, State.answer]

theorem State.goOffline_queueFull (hl : s.mb.leaveRequested = false) (hr : s.leaveRoom = 0) : s.goOffline = (s, .queueFull, []) := by
  simp [State.goOffline, hm, hl, hr, State.answer]

/-- R165: the batch goes before the LEAVE is appended. -/
theorem State.goOffline_leaves (hl : s.mb.leaveRequested = false) (hr : s.leaveRoom ≠ 0) :
    s.goOffline = ({ s.discardBatch with
      tx := { s.discardBatch.tx with queue := s.discardBatch.tx.queue ++ [⟨.leave, 0⟩] }
      mb := { s.mb with leaveRequested := true } }, .ok, []) := by
  simp [State.goOffline, hm, hl, hr, State.enqueue]

end

/-- Settles O25: the two answers with no effect, and the LEAVE appended after each batch state is discarded. -/
theorem goOfflineMember : Obligations.GoOfflineMember := by
  intro s hspi hm
  have hfree (h : s.tx.queue.length < 48) : s.leaveRoom ≠ 0 := fun h0 => by
    obtain ⟨hfull, -⟩ := State.leaveRoom_zero_iff.1 h0
    omega
  have hleaves (hl : s.mb.leaveRequested = false) (hr : s.leaveRoom ≠ 0) :=
    exec_evaluated (c := .goOffline) hspi rfl (State.goOffline_leaves hm hl hr)
  refine ⟨fun hl => exec_evaluated hspi rfl (State.goOffline_leaving hm hl),
    fun hl hfull hno => exec_evaluated hspi rfl (State.goOffline_queueFull hm hl
      (State.leaveRoom_zero_iff.2 ⟨hfull, fun g n hb q hq => hno g n q hb hq⟩)),
    fun hl hb hq => ?none, fun g n hl hb hq => ?broken, fun g n hl hb hroom hevents => ?opened⟩
  case none =>
    have hsame : ({ s.host with batch := .none } : HostPort) = s.host := by rw [← hb]
    rw [hleaves hl (hfree hq), State.discardBatch_other (by simp [hb]), hsame]
  case broken => rw [hleaves hl (hfree hq), State.discardBatch_other (by simp [hb])]
  case opened =>
    have hr : s.leaveRoom ≠ 0 := by
      obtain hq | ⟨q, hq, htag⟩ := hroom
      · exact hfree hq
      · intro h0
        obtain ⟨-, hno⟩ := State.leaveRoom_zero_iff.1 h0
        exact hno g n hb q hq htag
    obtain ⟨hretracts, hbatches, hhost⟩ := State.breakBatch_effect hevents g
    refine ⟨_, hleaves hl hr, ?_⟩
    rw [State.discardBatch_opened hb]
    simp [State.answered, State.breakBatch_queue, hretracts, hbatches, hhost, Status.code]

end Sys2Proof.Machine
end

section
/-! PROOF. O19: the resets. -/

namespace Sys2Proof.Machine

/-- R140, R176: what a soft reset keeps of the Raster Engine. -/
theorem Raster.softReset_keeps (r : Raster) : r.softReset.config = r.config ∧ r.softReset.fontB = r.fontB
    ∧ r.softReset.fontDigest = r.fontDigest ∧ r.softReset.sync = (if r.config.isSome then .following else .stopped) := by
  rw [Raster.softReset]
  cases hc : r.config with
  | none => exact ⟨rfl, rfl, rfl, rfl⟩
  | some f =>
    dsimp only
    split <;> exact ⟨rfl, rfl, rfl, rfl⟩

/-- R140: a running raster of a configured station goes on in its phase. -/
theorem Raster.softReset_running {r : Raster} (hc : r.config.isSome = true) (hp : r.phase.isSome = true) :
    r.softReset.phase = r.phase ∧ r.softReset.timing = r.timing := by
  obtain ⟨f, hf⟩ := Option.isSome_iff_exists.1 hc
  simp only [Raster.softReset, hf, hp, if_true, and_self]

/-- R176: every block reset, RESET_DONE the one record, stamped with the open number 1 (R44). -/
theorem exec_softReset_waiting (i : StationId) {s : State} (h : s.host.resetWaiting = true) :
    exec (.softReset i) s = .next { State.reset with
      stationId := i
      raster := s.raster.softReset
      host := { hostReset with events := [⟨.resetDone, 1, idByte i, 0, 0⟩] }
      pins := { pinsReleased with irqnLow := s.raster.softReset.irqEnabled }
      freeCount := s.freeCount
      pending := s.pending } := congrArg _ (if_pos h)

/-- Settles O19: each reset's state as its command gives it, the soft reset's raster by its own lemmas. -/
theorem resets : Obligations.Resets := by
  refine ⟨fun i s => rfl, fun i s t n ht => ?_, fun s hspi => exec_evaluated hspi rfl rfl, fun i s hw => ?_⟩
  · rw [← next_eq ht]
    rfl
  · obtain ⟨hconfig, hfont, hdigest, hsync⟩ := s.raster.softReset_keeps
    have hirq : s.raster.softReset.irqEnabled = s.raster.irqEnabled := by rw [Raster.irqEnabled, hconfig]; rfl
    exact ⟨_, exec_softReset_waiting i hw, rfl, rfl, rfl, rfl, rfl, rfl, rfl, rfl, hconfig, hfont, hdigest, hsync,
      Raster.softReset_running, rfl, by rw [hirq], fun _ => rfl, rfl, rfl⟩

end Sys2Proof.Machine
end

section
/-! PROOF. O29 and O30: the commands that read the station, and the event queue. -/

namespace Sys2Proof.Machine

variable {s : State}

/-! ### READ-STATUS (R171) -/

theorem exec_readStatus_none (hspi : s.host.spi = .command) (hb : s.host.batch = .none) :
    exec .readStatus s = .next (({ s with freeCount := s.freeCount + 1 } : State).answered 0 .ok s.statusRecord) :=
  exec_evaluated hspi rfl (by rw [if_pos hb])

theorem exec_readStatus_batch (hspi : s.host.spi = .command) (hb : s.host.batch ≠ .none) :
    exec .readStatus s = .next (s.answered 0 .ok s.statusRecord) :=
  exec_evaluated hspi rfl (by rw [if_neg hb])

/-- R171: the tag and count bytes of a batch that stands. -/
theorem State.batchBytes_batch {g state : Byte} {n : Nat}
    (h : s.host.batch = .opened g n ∧ state = 1 ∨ s.host.batch = .broken g n ∧ state = 2) : s.batchBytes = [state, g, byte n] := by
  obtain ⟨hb, rfl⟩ | ⟨hb, rfl⟩ := h <;> rw [State.batchBytes, hb]

/-- Section 10.6: the 23 bytes, the batch's in their place. -/
theorem State.statusRecord_eq {b : List Byte} (h : s.batchBytes = b) : s.statusRecord
    = [idByte s.stationId, s.mb.state.code, flagByte s.mb.leaveRequested, s.link.state.code, s.raster.sync.code,
        flagByte s.raster.config.isSome] ++ halfBytes s.ep.openNum ++ halfBytes (s.ep.openNum - 1) ++ halfBytes s.ep.applied
      ++ [byte s.ep.stall, flagByte s.mb.transfer.isSome, byte s.tx.queue.length] ++ halfBytes (half s.ep.staging.length)
      ++ ([byte s.host.events.length] ++ b ++ [byte s.host.lost, byte s.host.framing]) := by
  rw [← h, State.statusRecord]
  simp only [List.append_assoc]
  rfl

/-! ### READ-PANE, READ-CELLS, READ-ROSTER (R172) -/

theorem readCellsInRange_iff {o : Half} {n : Byte} : readCellsInRange o n = true ↔
    o.toNat ≤ 8191 ∧ 1 ≤ n.toNat ∧ n.toNat ≤ 64 ∧ o.toNat + n.toNat ≤ 8192 := by
  have hcells : Config.cells = 8192 := rfl
  simp only [readCellsInRange, Bool.and_eq_true, decide_eq_true_eq]
  omega

theorem exec_readCells_inRange (hspi : s.host.spi = .command) {o : Half} {n : Byte} (h : readCellsInRange o n = true) :
    exec (.readCells o n) s
      = .next (s.answered 3 .ok ((List.range n.toNat).flatMap fun i => cellBytes (readCell s.store.cells (o.toNat + i)))) := by
  refine exec_evaluated hspi rfl ?_
  rw [if_pos h, readCellRun, List.flatMap_map]
  rfl

theorem exec_readCells_outOfRange (hspi : s.host.spi = .command) {o : Half} {n : Byte} (h : ¬ readCellsInRange o n = true) :
    exec (.readCells o n) s = .next (s.answered 3 .badField []) := exec_evaluated hspi rfl (if_neg h)

/-- Settles O29: each answer by its own bytes. -/
theorem readCommands : Obligations.ReadCommands := by
  refine fun s hspi => ⟨fun g n state hb => ?batch, fun hb => ?none, fun p hp => exec_evaluated hspi rfl (if_pos (paneInRange_iff.2 hp)),
    fun p hp => exec_evaluated hspi rfl (if_neg (by rw [paneInRange_iff]; omega)),
    fun o n ho h1 h64 hsum => exec_readCells_inRange hspi (readCellsInRange_iff.2 ⟨ho, h1, h64, hsum⟩),
    fun o n h => exec_readCells_outOfRange hspi (by rw [readCellsInRange_iff]; omega), fun ht => ?noTransfer, fun t ht => ?transfer⟩
  case batch =>
    have hsome : s.host.batch ≠ .none := by obtain ⟨hb, -⟩ | ⟨hb, -⟩ := hb <;> simp [hb]
    rw [exec_readStatus_batch hspi hsome, State.statusRecord_eq (State.batchBytes_batch hb)]
    rfl
  case none =>
    have hfree : s.batchBytes = [0, (Config.idleBatchTag s.freeCount).setWidth 8, byte (Config.idleBatchCount s.freeCount).val] := by
      rw [State.batchBytes, hb]
    refine ⟨Config.idleBatchTag s.freeCount, Config.idleBatchCount s.freeCount, ?_⟩
    rw [exec_readStatus_none hspi hb, State.statusRecord_eq hfree]
    rfl
  case noTransfer => exact exec_evaluated hspi rfl (by rw [State.rosterBytes, ht]; rfl)
  case transfer => exact exec_evaluated hspi rfl (by rw [State.rosterBytes, ht]; rfl)

/-! ### The event queue (R173 to R175) -/

/-- R173: in a full queue a posting is dropped and counted, to 255. -/
theorem State.post_full (h : 32 ≤ s.host.events.length) (k : EventKind) (a : Byte) (b c : Half) :
    s.post k a b c = { s with host := { s.host with lost := min 255 (s.host.lost + 1) } } := if_neg (Nat.not_lt.2 h)

theorem State.readEvent_empty (h : s.host.events = []) : s.readEvent = (s, .empty, []) := by rw [State.readEvent, h]; rfl

/-- R174: the head record is the answer's data, and stays. -/
theorem State.readEvent_head {e : EventRec} {rest : List EventRec} (h : s.host.events = e :: rest) :
    s.readEvent = ({ s with host := { s.host with headRead := true } }, .ok,
      [e.kind.code] ++ halfBytes e.epoch ++ [e.arg1] ++ halfBytes e.arg2 ++ halfBytes e.arg3) := by
  rw [State.readEvent, h]
  rfl

/-- R173: the head leaves, and EVENTS_LOST comes behind the rest when events were lost. -/
theorem State.eventsAfterRemoval_cons {e : EventRec} {rest : List EventRec} (h : s.host.events = e :: rest) : s.eventsAfterRemoval
    = rest ++ if s.host.lost = 0 then [] else [⟨.eventsLost, s.ep.openNum, byte s.host.lost, 0, 0⟩] := by
  rw [State.eventsAfterRemoval, h]
  rfl

theorem exec_eventRecordRemoval_read (hspi : s.host.spi = .response) (hr : s.host.headRead = true) (he : s.host.events ≠ []) :
    exec .eventRecordRemoval s = .next { s with
      host := { s.host with events := s.eventsAfterRemoval, lost := 0, headRead := false, bitCount := s.host.bitCount + 72 }
      pins := { s.pins with irqnLow := s.raster.irqEnabled && !s.eventsAfterRemoval.isEmpty } } := congrArg _ (if_pos ⟨hspi, hr, he⟩)

/-- Settles O30: posting, reading the head, and its removal with and without events lost. -/
theorem eventQueue : Obligations.EventQueue := by
  refine ⟨fun s k a b c => ⟨fun h => State.post_of_room h k a b c, fun h => State.post_full h k a b c⟩,
    fun s hspi => ⟨fun he => exec_evaluated hspi rfl (State.readEvent_empty he),
      fun e rest he => exec_evaluated hspi rfl (State.readEvent_head he)⟩, fun s e rest hspi hr he => ?_⟩
  rw [exec_eventRecordRemoval_read hspi hr (by simp [he]), State.eventsAfterRemoval_cons he]
  refine ⟨fun hlost => ?_, fun hlost => ?_⟩
  · rw [if_pos hlost, List.append_nil]
    simp only [hlost]
  · rw [if_neg (Nat.ne_of_gt hlost)]
    simp

end Sys2Proof.Machine
end

section
/-! PROOF. O20: the SPI transaction. -/

namespace Sys2Proof.Machine

/-! ### The parameters a command byte calls for (R158, R160) -/

/-- R158: once the bytes that have come fix the count, later bytes do not move it: only PUT-CELLS, SET-PANE and SET-PALETTE read them at all. -/
theorem paramCount_append {cmd : Byte} {ps : List Byte} {n : Nat} (h : paramCount cmd ps = some n) (rest : List Byte) :
    paramCount cmd (ps ++ rest) = some n := by
  have hcount {i : Nat} {f : Byte → Nat} (h : ps[i]?.map f = some n) : (ps ++ rest)[i]?.map f = some n := by
    obtain ⟨c, hc, hn⟩ := Option.map_eq_some_iff.1 h
    rw [List.getElem?_append_left (List.getElem?_eq_some_iff.1 hc).1, hc]
    exact congrArg some hn
  revert h
  unfold paramCount
  split
  case h_3 => exact hcount
  case h_6 =>
    intro h
    split at h
    · exact h
    · cases h
  case h_7 => exact hcount
  all_goals exact id

/-- R158, R159: a command byte with as many parameters as they call for spells its command. -/
theorem spells_of_count {cmd : Byte} {ps : List Byte} {c : Instr} (hn : paramCount cmd ps = some ps.length)
    (hc : commandOf cmd ps = some c) : spells (cmd :: ps) c := by
  refine spells_of (paramCount_append hn) hc fun m hm n h => ?_
  have hall := paramCount_append h (ps.drop m)
  rw [List.take_append_drop, hn] at hall
  cases hall
  exact hm

/-! ### The commands byte by byte (section 10.7) -/

theorem spells_configure (f : TileFields) : spells ([0x01] ++ halfBytes f.hActive ++ halfBytes f.hTotal ++ halfBytes f.hSyncStart
    ++ halfBytes f.hSyncEnd ++ halfBytes f.vActive ++ [f.vFront, f.vSync, f.vBack] ++ halfBytes f.originCol ++ halfBytes f.originRow
    ++ [f.rate, f.irqEnable]) (.configure f) := by
  refine spells_of_count rfl ?_
  simp [commandOf, configureOf, halfBytes, halfOf_bytes]

theorem spells_loadFontB (code : Byte) (rows : Vector Byte 16) : spells ([0x02, code] ++ rows.toList) (.loadFontB code rows) := by
  have hrows : (Vector.ofFn fun i : Fin 16 => rows.toList.getD i.val 0) = rows := by
    ext i hi
    simp
  have hload : loadFontOf (code :: rows.toList) = some (.loadFontB code rows) := by
    rw [loadFontOf, if_pos (by simp), hrows]
  exact spells_of_count (by simp [paramCount]) hload

/-- R160: a byte that names no command calls for no parameter and spells BAD_COMMAND. -/
theorem spells_badCommand {b : Byte} (h : b ∉ commandBytes) : spells [b] (.badCommand b) := by
  have hne {n : Nat} (hn : BitVec.ofNat 8 n ∈ commandBytes) : b.toNat ≠ n := by
    rintro rfl
    rw [BitVec.ofNat_toNat, BitVec.setWidth_eq] at hn
    exact h hn
  refine spells_of_count ?_ ?_
  · unfold paramCount
    split
    case h_13 => rfl
    all_goals next hb => exact absurd hb (hne (by decide))
  · unfold commandOf
    split
    case h_21 => rfl
    all_goals next hb => exact absurd hb (hne (by decide))

/-! ### The updates (R168) -/

/-- Section 10.7: the parameters of an update command are read as the body of its packet. -/
theorem updateOf_body {u : Update} (h : u.countFits) : updateOf u.kind u.body = some u.command := by
  have hread : readUpdate u.kind (0 :: 0 :: 0 :: u.body) = some ⟨0, 0, u⟩ := readUpdate_payload h 0 0
  rw [updateOf, hread]
  rfl

/-- R180: a SET-PANE's field bytes are as many as its mask calls for. -/
theorem SetPaneArgs.fieldBytes_length (a : SetPaneArgs) : a.fieldBytes.length = maskBytes a.mask :=
  (setPaneOf_isSome a.pane a.mask a.fieldBytes).1 (by rw [setPaneOf_fieldBytes]; rfl)

theorem spells_putCells {a : PutCellsArgs} (h : a.cells.length ≤ 255) :
    spells ([0x20] ++ (Update.putCells a).body) (.putCells a) := by
  refine spells_of_count ?_ (updateOf_body (u := .putCells a) h)
  simp +arith [paramCount, Update.body, halfBytes, byte_toNat h]

theorem spells_fill (a : FillArgs) : spells ([0x21] ++ (Update.fill a).body) (.fill a) :=
  spells_of_count rfl (updateOf_body (u := .fill a) trivial)

theorem spells_copy (a : CopyArgs) : spells ([0x22] ++ (Update.copy a).body) (.copy a) :=
  spells_of_count rfl (updateOf_body (u := .copy a) trivial)

theorem spells_setPane (a : SetPaneArgs) : spells ([0x23] ++ (Update.setPane a).body) (.setPane a) := by
  refine spells_of_count ?_ (updateOf_body (u := .setPane a) trivial)
  simp +arith [paramCount, Update.body, halfBytes, halfOf_bytes, a.fieldBytes_length]

theorem spells_setPalette {a : SetPaletteArgs} (h : a.colours.length ≤ 255) :
    spells ([0x24] ++ (Update.setPalette a).body) (.setPalette a) := by
  refine spells_of_count ?_ (updateOf_body (u := .setPalette a) h)
  simp +arith [paramCount, Update.body, byte_toNat h]

/-! ### MISO (R158, R177) -/

section
variable {s : State}

theorem State.miso_idle (h : s.host.spi = .idle) (n : Nat) : s.miso n = none := by rw [State.miso, h]

theorem State.miso_command (h : s.host.spi = .command) (n : Nat) : s.miso n = some false := by rw [State.miso, h]

/-- R158: the response's bytes in order, each most significant bit first. -/
theorem State.miso_response (h : s.host.spi = .response) (i : Nat) {k : Nat} (hk : k < 8) :
    s.miso (8 * i + k) = some ((s.host.response.getD i 0).getLsbD (7 - k)) := by
  rw [State.miso, h]
  simp only [show (8 * i + k) / 8 = i by omega, show (8 * i + k) % 8 = k by omega]

/-- R158: MISO depends on the levels by how often SCK has fallen. -/
theorem State.misoLine_congr (s : State) {l l' : List (Bool × Bool)} (h : sckFalls true l = sckFalls true l') :
    s.misoLine l = s.misoLine l' := by rw [State.misoLine, h]; rfl

theorem State.misoLine_changes {levels : List (Bool × Bool)} {clk bit : Bool}
    (h : s.misoLine (levels ++ [(clk, bit)]) ≠ s.misoLine levels) : clk = false ∧ (levels.getLast?.map (·.1)).getD true = true := by
  by_contra hno
  refine h (s.misoLine_congr ?_)
  rw [sckFalls_append, if_neg, Nat.add_zero]
  simpa [and_comm] using hno

theorem State.misoLine_response (h : s.host.spi = .response) (levels : List (Bool × Bool)) :
    (sckFalls true levels = 0 → s.misoLine levels = some false)
      ∧ ∀ n, sckFalls true levels = n + 1 → s.misoLine levels = s.miso n := by
  refine ⟨fun h0 => ?_, fun n hn => ?_⟩
  · rw [State.misoLine, h, h0]
    rfl
  · rw [State.misoLine, h, hn]
    rfl

end

/-! ### The transaction (R158, R160) -/

/-- R160: a rise of CSn ends the transaction once a command is evaluated, and is a framing error before. -/
theorem riseOfCsn_none {bits : List Bool} (h : mosiCommand bits = none) : riseOfCsn bits = .framingError bits.length := by
  rw [riseOfCsn, h]; rfl

theorem riseOfCsn_some {bits : List Bool} {c : Instr} (h : mosiCommand bits = some c) : riseOfCsn bits = .transactionEnd := by
  rw [riseOfCsn, h]; rfl

section
variable {s : State}

theorem exec_transactionStart_idle (h : s.host.spi = .idle) : exec .transactionStart s
    = .next { s with host := { s.host with spi := .command, bitCount := 0, response := [], headRead := false } } := congrArg _ (if_pos h)

theorem exec_framingError_command (h : s.host.spi = .command) (n : Nat) : exec (.framingError n) s = .next { s with
    host := { s.host with
      spi := .idle, bitCount := n, framing := if n = 0 then s.host.framing else min 255 (s.host.framing + 1) } } := congrArg _ (if_pos h)

theorem exec_badCommand_unnamed (h : s.host.spi = .command) {b : Byte} (hb : namesNoCommand b = true) :
    exec (.badCommand b) s = .next (s.answered 0 .badCommand []) :=
  (congrArg _ (if_pos hb)).trans (congrArg _ (State.evaluate_command h 0 fun t => t.answer .badCommand []))

theorem exec_transactionEnd_response (h : s.host.spi = .response) : exec .transactionEnd s
    = .next { s with host := { s.host with spi := .idle, response := [], headRead := false } } := congrArg _ (if_pos h)

end

/-- Settles O20: the commands spelled on MOSI, what a rise of CSn is, and the port's phases with MISO in each. -/
theorem transactionPhases : Obligations.TransactionPhases := by
  refine ⟨?mosi, fun bits => ⟨riseOfCsn_none, fun c => riseOfCsn_some⟩, fun s => ?phases⟩
  case mosi =>
    refine ⟨spells_configure, spells_loadFontB, spells_of_count rfl rfl, spells_of_count rfl rfl, spells_of_count rfl rfl,
      spells_of_count rfl rfl, spells_of_count rfl rfl, fun _ => spells_putCells, spells_fill, spells_copy, spells_setPane,
      fun _ => spells_setPalette, fun p n => spells_of_count rfl ?claim, fun _ _ => spells_of_count rfl rfl,
      fun _ => spells_of_count rfl rfl, spells_of_count rfl rfl, spells_of_count rfl rfl, fun _ => spells_of_count rfl rfl,
      fun o n => spells_of_count rfl ?readCells, spells_of_count rfl rfl, fun b hb => ⟨spells_badCommand hb, ?unnamed⟩⟩
    case claim => exact congrArg (Option.map fun r => Instr.claim r.1 r.2) (readClaim_bytes p n)
    case readCells => exact congrArg (fun h => some (Instr.readCells h n)) (halfOf_bytes o)
    case unnamed => rw [namesNoCommand, Bool.not_eq_true', List.contains_eq_mem]; exact decide_eq_false hb
  case phases =>
    refine ⟨State.miso_idle, State.miso_command, fun h i k hk => ⟨fun hi => ?byte, fun hi => ?zero⟩,
      fun _ _ _ => State.misoLine_changes, State.misoLine_response, exec_transactionStart_idle, fun n h hn => ?counted,
      fun h => exec_framingError_command h 0, fun _ h => exec_badCommand_unnamed h, exec_transactionEnd_response⟩
    case byte => rw [State.miso_response h i hk, List.getD_eq_getElem _ _ hi]
    case zero => rw [State.miso_response h i hk, List.getD_eq_default _ _ hi]; simp
    case counted => rw [exec_framingError_command h, if_neg (by omega)]

end Sys2Proof.Machine
end

section
/-! PROOF. O14: no field of an update is dropped on the link (section 10.1, R180). The reader of each update kind inverts its writer
(`readUpdate_payload`), and a payload that its kind's reader accepts has a length in that kind's allowance (`lengthAllowed_payload`). -/

namespace Sys2Proof.Machine

/-- Settles O14: every update whose items fit its count byte reads back with its two tags, from a payload of an allowed length. -/
theorem updatePayloadReadsBack : Obligations.UpdatePayloadReadsBack := by
  intro u epochTag batchTag fits
  exact ⟨readUpdate_payload fits epochTag batchTag, lengthAllowed_payload fits epochTag batchTag⟩

end Sys2Proof.Machine
end

section
/-! PROOF. O1: a step on each of the two shapes of the queue of waiting commands. -/

namespace Sys2Proof.Machine

theorem step_cons (c : Instr) (q : List Instr) (s : State) : step { s with pending := c :: q } = exec c { s with pending := q } := rfl

theorem step_idle {s : State} (h : s.pending = []) : step s = .next s := by
  rw [step, h]

/-- Settles O1: the two equations of a step. -/
theorem stepRunsFrontCommand : Obligations.StepRunsFrontCommand := ⟨step_cons, fun _ => step_idle⟩

end Sys2Proof.Machine
end

section
/-! PROOF. O2, its relation: what a change keeps of the waiting commands and of the model's own counter; and the shared operations, each once. -/

namespace Sys2Proof.Machine

/-- `t` after `s`: the waiting commands and the counter of free values (notes/assumptions/4.md) stand as they were. -/
structure State.KeepsQueue (s t : State) : Prop where
  pending : t.pending = s.pending
  freeCount : t.freeCount = s.freeCount

namespace State.KeepsQueue

variable {s t u : State}

theorem refl : s.KeepsQueue s := ⟨rfl, rfl⟩

theorem trans (h : s.KeepsQueue t) (h' : t.KeepsQueue u) : s.KeepsQueue u :=
  ⟨h'.pending.trans h.pending, h'.freeCount.trans h.freeCount⟩

theorem ite {c : Prop} [Decidable c] (ht : s.KeepsQueue t) (hu : s.KeepsQueue u) : s.KeepsQueue (if c then t else u) := by
  split
  · exact ht
  · exact hu

theorem foldl {α : Type} (f : State → α → State) (h : ∀ u a, State.KeepsQueue u (f u a)) (l : List α) (s : State) :
    s.KeepsQueue (l.foldl f s) :=
  ⟨foldl_keeps f State.pending (fun u a => (h u a).pending) l s, foldl_keeps f State.freeCount (fun u a => (h u a).freeCount) l s⟩

end State.KeepsQueue

/-! ### The Host Port's commands -/

/-- R159: of what a command's effect keeps, its evaluation moves the Host Port alone. -/
theorem State.evaluate_keeps_part {α : Type} (part : State → α) (hpart : ∀ (u : State) (p : HostPort), part { u with host := p } = part u)
    {s : State} {f : State → State × Status × List Byte} (h : part (f s).1 = part s) (n : Nat) : part (s.evaluate n f) = part s := by
  simp only [State.evaluate]
  split
  · exact (hpart _ _).trans h
  · rfl

theorem State.evaluate_keepsQueue {s : State} {n : Nat} {f : State → State × Status × List Byte} (h : s.KeepsQueue (f s).1) :
    s.KeepsQueue (s.evaluate n f) :=
  ⟨State.evaluate_keeps_part State.pending (fun _ _ => rfl) h.pending n,
    State.evaluate_keeps_part State.freeCount (fun _ _ => rfl) h.freeCount n⟩

theorem State.configure_keepsQueue (s : State) (f : TileFields) : s.KeepsQueue (s.configure f).1 := by
  simp only [State.configure]
  (repeat' split) <;> exact ⟨rfl, rfl⟩

theorem State.loadFont_keepsQueue (s : State) (b : Byte) (rows : Vector Byte 16) : s.KeepsQueue (s.loadFont b rows).1 := by
  simp only [State.loadFont]
  split <;> exact ⟨rfl, rfl⟩

theorem State.goOnline_keepsQueue (s : State) : s.KeepsQueue s.goOnline.1 := by
  simp only [State.goOnline]
  split
  · exact .refl
  split
  · exact .refl
  · exact ⟨by simp, by simp⟩

theorem State.goOffline_keepsQueue (s : State) : s.KeepsQueue s.goOffline.1 := by
  simp only [State.goOffline]
  split
  case h_1 => exact .refl
  case h_2 =>
    split
    · exact .refl
    split
    · exact .refl
    · exact ⟨by simp, by simp⟩
  case h_3 => exact ⟨by simp, by simp⟩

theorem State.beginBatch_keepsQueue (s : State) : s.KeepsQueue s.beginBatch.1 := by
  simp only [State.beginBatch]
  (repeat' split) <;> exact ⟨rfl, rfl⟩

theorem State.endBatch_keepsQueue (s : State) : s.KeepsQueue s.endBatch.1 := by
  simp only [State.endBatch]
  (repeat' split) <;> exact ⟨rfl, rfl⟩

theorem State.submit_keepsQueue (s : State) (u : Update) : s.KeepsQueue (s.submit u).1 := by
  simp only [State.submit]
  (repeat' split) <;> exact ⟨rfl, rfl⟩

theorem State.request_keepsQueue (s : State) (b : Bool) (r : Request) : s.KeepsQueue (s.request b r).1 := by
  simp only [State.request]
  (repeat' split) <;> exact ⟨rfl, rfl⟩

theorem State.readEvent_keepsQueue (s : State) : s.KeepsQueue s.readEvent.1 := by
  simp only [State.readEvent]
  split <;> exact ⟨rfl, rfl⟩

/-! ### A packet taken (R14, R15, R87) -/

theorem State.assemble_keepsQueue {α : Type} (s : State) (i : StationId) (c : Option α) {write : State → α → State}
    (h : ∀ u a, State.KeepsQueue u (write u a)) : s.KeepsQueue (s.assemble i c write) := by
  refine .ite ?_ .refl
  have counted : s.KeepsQueue s.countPacket := ⟨rfl, rfl⟩
  split
  · exact counted.trans (h _ _)
  · exact ⟨rfl, rfl⟩

theorem Kind.deliver_keepsQueue (k : Kind) (i : StationId) (p : List Byte) (s : State) : s.KeepsQueue (k.deliver i p s) := by
  cases k with
  | found => exact .ite .refl ⟨by simp, by simp⟩
  | joinDeny => exact .refl
  | join | joinDone | leave | claim | handover | release | retract | close | putCells | fill | copy | setPane | setPalette | snapHead
  | snapEnd => exact ⟨by simp [Kind.deliver], by simp [Kind.deliver]⟩
  | snapFree => dsimp only [Kind.deliver]; exact s.assemble_keepsQueue i _ fun _ _ => ⟨by simp, by simp⟩
  | snapPane | snapPalette | snapCells => dsimp only [Kind.deliver]; exact s.assemble_keepsQueue i _ fun _ _ => ⟨rfl, rfl⟩

theorem State.taking_keepsQueue (s : State) {deliver : State → State} (h : ∀ u : State, u.KeepsQueue (deliver u)) :
    s.KeepsQueue (s.taking deliver) := by
  have passed : s.KeepsQueue { s.releaseLink with link := { s.link with slot := .taken } } := ⟨rfl, rfl⟩
  have delivered := passed.trans (h _)
  exact .ite (.ite (delivered.trans ⟨by simp, by simp⟩) delivered) .refl

theorem State.take_keepsQueue (s : State) (k : Kind) (i : StationId) (p : List Byte) : s.KeepsQueue (s.take k i p (k.deliver i p)) :=
  s.taking_keepsQueue fun u => .ite (k.deliver_keepsQueue i p u) (.ite ⟨by simp, by simp⟩ .refl)

theorem State.observeReceipt_keepsQueue (s : State) (rx : RxPacket) : s.KeepsQueue (s.observeReceipt rx) := by
  simp only [State.observeReceipt]
  refine s.taking_keepsQueue fun u => .ite ?_ (.ite ⟨by simp, by simp⟩ ⟨rfl, rfl⟩)
  split
  · exact ⟨by simp, by simp⟩
  · exact ⟨rfl, rfl⟩

/-! ### The other commands of more than one branch -/

theorem exec_startCondition_keepsQueue {n : Nat} {s t : State} (h : exec (.startCondition n) s = .next t) : s.KeepsQueue t := by
  rw [← next_eq h]
  split
  · exact .ite ⟨rfl, rfl⟩ .refl
  · exact .refl

theorem exec_lostInArbitration_keepsQueue {n : Nat} {s t : State} (h : exec (.lostInArbitration n) s = .next t) : s.KeepsQueue t := by
  rw [← next_eq h]
  split
  · refine .ite ?_ .refl
    dsimp only
    split <;> exact ⟨rfl, rfl⟩
  · exact .refl

theorem exec_holdPoint_keepsQueue {rx : RxPacket} {s t : State} (h : exec (.holdPoint rx) s = .next t) : s.KeepsQueue t := by
  rw [← next_eq h]
  refine .ite ?_ .refl
  split
  · exact .ite ⟨rfl, rfl⟩ .refl
  · exact ⟨rfl, rfl⟩
  · exact .refl

theorem exec_tlfRiseEffects_keepsQueue {s t : State} (h : exec .tlfRiseEffects s = .next t) : s.KeepsQueue t := by
  rw [← next_eq h]
  split
  · refine .ite .refl ?_
    dsimp only
    split <;> exact ⟨by simp, by simp⟩
  · exact .refl

theorem exec_stallLimit_keepsQueue {s t : State} (h : exec .stallLimit s = .next t) : s.KeepsQueue t := by
  rw [← next_eq h]
  have restarts : s.KeepsQueue { s with ep := { s.ep with stall := 0 } } := ⟨rfl, rfl⟩
  exact .ite (.ite ⟨by simp, by simp⟩ (restarts.trans (.foldl _ (fun _ _ => ⟨by simp, by simp⟩) _ _))) .refl

theorem exec_transferLimit_keepsQueue {s t : State} (h : exec .transferLimit s = .next t) : s.KeepsQueue t := by
  rw [← next_eq h]
  split
  · exact .ite (.ite ⟨by simp, by simp⟩ (.ite ⟨rfl, rfl⟩ .refl)) .refl
  · exact .refl

theorem exec_exhaustedUpdate_keepsQueue {s t : State} (h : exec .exhaustedUpdate s = .next t) : s.KeepsQueue t := by
  rw [← next_eq h]
  (repeat' split)
  case isTrue => exact ⟨by simp, by simp⟩
  all_goals exact .refl

theorem exec_exhaustedRequest_keepsQueue {s t : State} (h : exec .exhaustedRequest s = .next t) : s.KeepsQueue t := by
  rw [← next_eq h]
  split
  · refine .ite ?_ .refl
    split
    case h_1 => exact .refl
    case h_2 | h_3 | h_4 => exact ⟨by simp, by simp⟩
    case h_5 | h_6 => exact .ite ⟨rfl, rfl⟩ ⟨rfl, rfl⟩
    case h_7 => exact .ite ⟨by simp, by simp⟩ ⟨rfl, rfl⟩
  · exact .refl

theorem exec_spanListBuild_keepsQueue {row : Nat} {s t : State} (h : exec (.spanListBuild row) s = .next t) : s.KeepsQueue t := by
  rw [← next_eq h]
  split
  · exact .ite (.ite ⟨by simp, by simp⟩ ⟨rfl, rfl⟩) .refl
  · exact .refl

theorem State.cellEntry_keepsQueue {s t : State} {p : Byte} {w : Memory → Extent → Nat → Memory} (h : s.cellEntry p w = .next t) :
    s.KeepsQueue t := by
  simp only [State.cellEntry] at h
  (repeat' split at h) <;> cases h
  all_goals exact ⟨rfl, rfl⟩

/-- R64: an entry applied writes cells, display fields or colours alone. -/
theorem exec_apply_keepsQueue {c : Instr} {s t : State}
    (hc : c ∈ [.applyClear, .applyPutCells, .applyFill, .applyCopy, .applySetPane, .applySetPalette, .applyRelease])
    (h : exec c s = .next t) : s.KeepsQueue t := by
  simp only [List.mem_cons, List.not_mem_nil, or_false] at hc
  rcases hc with rfl | rfl | rfl | rfl | rfl | rfl | rfl
  case inr.inl | inr.inr.inl | inr.inr.inr.inl =>
    simp only [exec, execApplyPutCells, execApplyFill, execApplyCopy] at h
    split at h
    · exact State.cellEntry_keepsQueue h
    · cases h; exact .refl
  all_goals
    simp only [exec, execApplyClear, execApplySetPane, execApplySetPalette, execApplyRelease] at h
    (repeat' split at h) <;> cases h
    all_goals exact ⟨rfl, rfl⟩

/-! ### Every command -/

theorem exec_readStatus_pending {s t : State} (h : exec .readStatus s = .next t) : t.pending = s.pending := by
  rw [← next_eq h]
  refine State.evaluate_keeps_part State.pending (fun _ _ => rfl) ?_ 0
  dsimp only
  split <;> rfl

theorem exec_keepsQueue {c : Instr} {s t : State} (hc : c ≠ .readStatus) (h : exec c s = .next t) : s.KeepsQueue t := by
  cases c with
  | readStatus => exact absurd rfl hc
  | powerOnReset => rw [← next_eq h]; exact ⟨rfl, rfl⟩
  | softReset => rw [← next_eq h]; exact .ite ⟨by simp, by simp⟩ .refl
  | badCommand => rw [← next_eq h]; exact .ite (State.evaluate_keepsQueue .refl) .refl
  | configure => rw [← next_eq h]; exact State.evaluate_keepsQueue (s.configure_keepsQueue _)
  | loadFontB => rw [← next_eq h]; exact State.evaluate_keepsQueue (s.loadFont_keepsQueue _ _)
  | goOnline => rw [← next_eq h]; exact State.evaluate_keepsQueue s.goOnline_keepsQueue
  | goOffline => rw [← next_eq h]; exact State.evaluate_keepsQueue s.goOffline_keepsQueue
  | reset | readRoster => rw [← next_eq h]; exact State.evaluate_keepsQueue ⟨rfl, rfl⟩
  | beginBatch => rw [← next_eq h]; exact State.evaluate_keepsQueue s.beginBatch_keepsQueue
  | endBatch => rw [← next_eq h]; exact State.evaluate_keepsQueue s.endBatch_keepsQueue
  | putCells | fill | copy | setPane | setPalette => rw [← next_eq h]; exact State.evaluate_keepsQueue (s.submit_keepsQueue _)
  | claim | handover | release => rw [← next_eq h]; exact State.evaluate_keepsQueue (s.request_keepsQueue _ _)
  | readEvent => rw [← next_eq h]; exact State.evaluate_keepsQueue s.readEvent_keepsQueue
  | readPane | readCells => rw [← next_eq h]; exact State.evaluate_keepsQueue (by split <;> exact .refl)
  | startCondition => exact exec_startCondition_keepsQueue h
  | lostInArbitration => exact exec_lostInArbitration_keepsQueue h
  | holdPoint => exact exec_holdPoint_keepsQueue h
  | packetRefused => rw [← next_eq h]; exact ⟨by simp, by simp⟩
  | observerReceipt => rw [← next_eq h]; exact .ite (.ite (s.observeReceipt_keepsQueue _) ⟨by simp, by simp⟩) .refl
  | foundTaken i p | joinTaken i p | joinDenyTaken i p | joinDoneTaken i p | leaveTaken i p | claimTaken i p | handoverTaken i p
  | releaseTaken i p | retractTaken i p | closeTaken i p | putCellsTaken i p | fillTaken i p | copyTaken i p | setPaneTaken i p
  | setPaletteTaken i p | snapHeadTaken i p | snapPaneTaken i p | snapFreeTaken i p | snapPaletteTaken i p | snapCellsTaken i p
  | snapEndTaken i p => rw [← next_eq h]; exact s.take_keepsQueue _ i p
  | stopCondition | packetBreak | packetAbandoned => rw [← next_eq h]; exact .ite ⟨by simp, by simp⟩ .refl
  | linkTimeout => rw [← next_eq h]; exact .ite (.ite ⟨by simp, by simp⟩ ⟨by simp, by simp⟩) .refl
  | busFreeInterval => rw [← next_eq h]; exact .ite (.ite ⟨rfl, rfl⟩ ⟨rfl, rfl⟩) .refl
  | irregularTlcFall => rw [← next_eq h]; exact .ite ⟨rfl, rfl⟩ (.ite ⟨rfl, rfl⟩ .refl)
  | tlfRise => rw [← next_eq h]; exact .ite .refl (.ite ⟨by simp, by simp⟩ (.ite ⟨by simp, by simp⟩ ⟨by simp, by simp⟩))
  | tlfRiseEffects => exact exec_tlfRiseEffects_keepsQueue h
  | stallLimit => exact exec_stallLimit_keepsQueue h
  | transferLimit => exact exec_transferLimit_keepsQueue h
  | exhaustedUpdate => exact exec_exhaustedUpdate_keepsQueue h
  | exhaustedRequest => exact exec_exhaustedRequest_keepsQueue h
  | selfDemotion => rw [← next_eq h]; exact .ite ⟨by simp, by simp⟩ ⟨by simp, by simp⟩
  | requestTimerExpiry => rw [← next_eq h]; exact .ite (.ite ⟨rfl, rfl⟩ ⟨rfl, rfl⟩) .refl
  | enterFront => rw [← next_eq h]; exact .ite ⟨by simp, by simp⟩ .refl
  | applyClear | applyPutCells | applyFill | applyCopy | applySetPane | applySetPalette | applyRelease =>
    exact exec_apply_keepsQueue (by simp) h
  | holdLineEnd => rw [← next_eq h]; exact .ite (.ite ⟨rfl, rfl⟩ (.ite ⟨rfl, rfl⟩ .refl)) .refl
  | frameHoldLimit => rw [← next_eq h]; exact .ite ⟨by simp, by simp⟩ .refl
  | spanListBuild => exact exec_spanListBuild_keepsQueue h
  | transactionStart | framingError | transactionEnd | eventRecordRemoval | startSeen | recoveryBusFree | listenIntervalExpiry
  | applyPassEnd | frontEnd | syncEnd | tlfRelease | followingWaitLimit | backEnd =>
    rw [← next_eq h]
    exact .ite ⟨rfl, rfl⟩ .refl

/-- Settles O2: every command but READ-STATUS keeps the relation, and READ-STATUS keeps the queue. -/
theorem commandsLeaveTheQueue : Obligations.CommandsLeaveTheQueue := by
  intro c s t h
  refine ⟨?_, fun hc => (exec_keepsQueue hc h).freeCount⟩
  by_cases hc : c = .readStatus
  · subst hc
    exact exec_readStatus_pending h
  · exact (exec_keepsQueue hc h).pending

end Sys2Proof.Machine
end
